-- ==== Sys2Proof/Word.lean ====
section
/-! DEFINITION. The bit-vector types of the 5240: the byte that travels on a link, the 16-byte block and the
3-byte check value (R171). Only the types stand here; what is computed from them stands under Machine/. -/

namespace Sys2Proof

/-- A byte of a frame (R140, R171). -/
abbrev Byte := BitVec 8

/-- A 16-byte block: a key value, component, IV, chaining value or data block. Byte 0, the first to travel, is the
most significant byte of the vector (00_scope.md "Byte order", R171). -/
abbrev Block := BitVec 128

/-- A 3-byte check value; its first byte is the most significant (R5, R171). -/
abbrev Check := BitVec 24

end Sys2Proof
end

