-- ==== Sys2Proof/Config.lean ====
section
/-! DEFINITION. The sizes the manual fixes, and the free values of what it leaves open. -/

namespace Sys2Proof.Config

/-- Entries of a request queue (R145). -/
def requestEntries : Nat := 8

/-- Entries of a response queue (R146). -/
def responseEntries : Nat := 16

/-- Line slots 0 to 14 form the line pool (R83). -/
def lineSlots : Nat := 15

/-- The custody slot (R83). -/
def custodySlot : Nat := 15

/-- Live jobs a line port may have (R84). -/
def lineQuota : Nat := 5

/-- The largest body length of a request header (R140, R142). -/
def maxBody : Nat := 88

/-- Notices one STATUS returns at most (R153). -/
def statusNotices : Nat := 12

/-- Position states one READ-MAP returns at most (R69). -/
def mapRun : Nat := 64

/-- Read-back attempts of one zeroisation at most (R161). -/
def maxAttempts : Nat := 3

/-- DESIGN CHOICE (log 6, log 27). The manual does not say in which order several events of one moment are taken
("the tries may be taken in either order", R89): the choice numbered n is this free value. It has no body, so
nothing can be proved of it. -/
opaque orderChoice : Nat → Nat

/-- DESIGN CHOICE (log 12). Whether a tamper event's TAMPER notice is raised before the entry to ZEROISING raises
its BATCH_CLOSED notices; the manual does not say (R157, R160). A free value for each choice. -/
opaque tamperNoticeFirst : Nat → Bool

/-- DESIGN CHOICE (log 34). Whether a battery found low at the end of the power-up sweep raises BATTERY_LOW before the
tamper events that the sweep held are taken; the manual does not say (R166, R168). A free value for each choice. -/
opaque batteryNoticeFirst : Nat → Bool

/-- DESIGN CHOICE (log 39). Whether a frame end and the reset of its port, where that reset is the next command, meet (R154); the
queue of commands has no time between two commands. A free value for each such frame end. -/
opaque resetMeets : Nat → Bool

/-- DESIGN CHOICE (log 17). Which of the three modes that a store can hold (R156) it reads as once its contents are not kept; the
manual does not say (R167). A free value for each loss. -/
opaque lostMode : Nat → Nat

/-- DESIGN CHOICE (log 17). Whether the cause with this code stands in the cause set of a store whose contents are not kept
(R167). A free value for each loss and cause. -/
opaque lostCause : Nat → Byte → Bool

/-- DESIGN CHOICE (log 17). Which cause, or none, is the first cause in a store whose contents are not kept (R167). A free value
for each loss. -/
opaque lostFirstCause : Nat → Nat

end Sys2Proof.Config
end

