-- ==== Sys2Proof/Syntax.lean ====
section
/-! DEFINITION. The commands the 5240 takes: one constructor of `Instr` for each row of spec/opcode_table.json. -/

namespace Sys2Proof

/-- The line ports L0 to L3 (00_scope.md "The five links"). -/
inductive LinePort
  | l0 | l1 | l2 | l3
  deriving DecidableEq, Repr

/-- The five ports: the line ports and the custody port. -/
inductive Port
  | line (l : LinePort)
  | cp
  deriving DecidableEq, Repr

/-- The four tamper lines (R157). -/
inductive TamperLine
  | enclosure | mesh | thermal | supply
  deriving DecidableEq, Repr

/-- The commands. A request row carries the port, the flags byte and the tag of its header and the bytes of its body
in the travel order of Figure 14; it stands for the whole frame that brings the request (log 2). The link rows
carry the whole bytes clocked with them (log 4). -/
inductive Instr
  /-- FRAME_START (R141): frame select falls, then these bytes are clocked. -/
  | frameStart (p : Port) (bytes : List Byte)
  /-- FRAME_END (R142): these bytes are clocked, then frame select rises. -/
  | frameEnd (p : Port) (bytes : List Byte)
  /-- FETCH_FRAME (R147): a frame with code 0x0F in which `clocked` bytes follow the code byte; `ended` says that
  frame select then rises. Without `ended` the frame goes on, to a later FETCH_FRAME, FRAME_END or FRAME_TIMEOUT. -/
  | fetchFrame (p : Port) (clocked : Nat) (ended : Bool)
  /-- FRAME_TIMEOUT (R143): these bytes are clocked, then no edge comes for the frame timeout. -/
  | frameTimeout (p : Port) (bytes : List Byte)
  /-- UNKNOWN_REQUEST (R151): a request with a code that no request has. -/
  | unknownRequest (p : Port) (code flags tag : Byte) (body : List Byte)
  /-- DERIVE (R116). -/
  | derive (p : Port) (flags tag : Byte) (body : List Byte)
  /-- SPOIL (R71). -/
  | spoil (p : Port) (flags tag : Byte) (body : List Byte)
  /-- STREAM_OPEN (R127). -/
  | streamOpen (p : Port) (flags tag : Byte) (body : List Byte)
  /-- STREAM_CHUNK (R130). -/
  | streamChunk (p : Port) (flags tag : Byte) (body : List Byte)
  /-- STREAM_CLOSE (R135). -/
  | streamClose (p : Port) (flags tag : Byte) (body : List Byte)
  /-- CANCEL (R96). -/
  | cancel (p : Port) (flags tag : Byte) (body : List Byte)
  /-- SET_ATTN (R150). -/
  | setAttn (p : Port) (flags tag : Byte) (body : List Byte)
  /-- QUERY_BATCH (R70). -/
  | queryBatch (p : Port) (flags tag : Byte) (body : List Byte)
  /-- CREATE_KEY_ENTRY (R13). -/
  | createKeyEntry (p : Port) (flags tag : Byte) (body : List Byte)
  /-- REMOVE_ENTRY (R14). -/
  | removeEntry (p : Port) (flags tag : Byte) (body : List Byte)
  /-- SWAP_CELL (R16). -/
  | swapCell (p : Port) (flags tag : Byte) (body : List Byte)
  /-- DISCARD_CELL (R18). -/
  | discardCell (p : Port) (flags tag : Byte) (body : List Byte)
  /-- READ_ENTRY (R19). -/
  | readEntry (p : Port) (flags tag : Byte) (body : List Byte)
  /-- CREATE_GATE (R34). -/
  | createGate (p : Port) (flags tag : Byte) (body : List Byte)
  /-- BIND_PORT (R28). -/
  | bindPort (p : Port) (flags tag : Byte) (body : List Byte)
  /-- BEGIN_CEREMONY (R45). -/
  | beginCeremony (p : Port) (flags tag : Byte) (body : List Byte)
  /-- COMPONENT (R46). -/
  | component (p : Port) (flags tag : Byte) (body : List Byte)
  /-- ABANDON_CEREMONY (R52). -/
  | abandonCeremony (p : Port) (flags tag : Byte) (body : List Byte)
  /-- OPEN_BATCH (R64). -/
  | openBatch (p : Port) (flags tag : Byte) (body : List Byte)
  /-- PAUSE_BATCH (R65). -/
  | pauseBatch (p : Port) (flags tag : Byte) (body : List Byte)
  /-- RESUME_BATCH (R66). -/
  | resumeBatch (p : Port) (flags tag : Byte) (body : List Byte)
  /-- CLOSE_BATCH (R67). -/
  | closeBatch (p : Port) (flags tag : Byte) (body : List Byte)
  /-- READ_MAP (R69). -/
  | readMap (p : Port) (flags tag : Byte) (body : List Byte)
  /-- ZEROISE_ALL (R159). -/
  | zeroiseAll (p : Port) (flags tag : Byte) (body : List Byte)
  /-- CLEAR_LOCKOUT (R165). -/
  | clearLockout (p : Port) (flags tag : Byte) (body : List Byte)
  /-- STATUS (R153). -/
  | status (p : Port) (flags tag : Byte) (body : List Byte)
  /-- GRANT_END (R106): the last pass of the grant in progress finishes. -/
  | grantEnd
  /-- STREAM_IDLE_EXPIRY (R136): the idle period of the stream in this job slot reaches its limit. -/
  | streamIdleExpiry (slot : Nat)
  /-- PORT_RESET (R154): the port reset input is asserted. -/
  | portReset (p : Port)
  /-- PORT_RESET_RELEASE (R154): the port reset input is released. -/
  | portResetRelease (p : Port)
  /-- TAMPER_EVENT (R157): a tamper line changes from inactive to active. -/
  | tamperEvent (line : TamperLine)
  /-- READ_BACK_ATTEMPT_END (R161): a read-back attempt ends; `passed` says that it found every location clear. -/
  | readBackAttemptEnd (passed : Bool)
  /-- BATTERY_STATE_CHANGE (R166): the battery crosses the battery low level; `low` is the side it is now on. -/
  | batteryStateChange (low : Bool)
  /-- STORE_HOLDING_LOST (R167): with main power off the battery falls below the store holding level. -/
  | storeHoldingLost
  /-- MAIN_POWER_LOSS (R167). -/
  | mainPowerLoss
  /-- MAIN_POWER_ON (R168). -/
  | mainPowerOn
  /-- MAIN_RESET (R169): the main reset line is asserted. -/
  | mainReset
  /-- MAIN_RESET_RELEASE (R168): the main reset line is released. -/
  | mainResetRelease
  /-- POWER_UP_SWEEP (R168): the sweep that is running does its work. -/
  | powerUpSweep
  /-- TAMPER_LINE_INACTIVE (R157): a tamper line changes from active to inactive. -/
  | tamperLineInactive (line : TamperLine)
  deriving DecidableEq, Repr

end Sys2Proof
end

