-- ==== Sys2Proof/WellFormed.lean ====
section
/-! DEFINITION. Which command terms name something a master or the environment can do. -/

namespace Sys2Proof

/-- The request codes of Figure 14. -/
def knownCodes : List Byte :=
  [0x01, 0x02, 0x03, 0x04, 0x05, 0x08, 0x09, 0x0A, 0x10, 0x11, 0x12, 0x13, 0x14, 0x15, 0x16,
   0x20, 0x21, 0x22, 0x28, 0x29, 0x2A, 0x2B, 0x2C, 0x30, 0x31, 0x32]

/-- A request frame carries at most 88 body bytes (R140, R142). -/
def bodyFits (body : List Byte) : Bool := body.length ≤ Config.maxBody

/-- The well-formed commands: a request's body fits a frame, the code of an UNKNOWN_REQUEST is neither known nor the
fetch code (R151), and an idle expiry names a line slot (R83, R136). -/
def Instr.wellFormed : Instr → Bool
  | .frameStart _ _ => true
  | .frameEnd _ _ => true
  | .fetchFrame _ _ _ => true
  | .frameTimeout _ _ => true
  | .unknownRequest _ code _ _ body => bodyFits body && !(knownCodes.contains code) && code != 0x0F
  | .derive _ _ _ body => bodyFits body
  | .spoil _ _ _ body => bodyFits body
  | .streamOpen _ _ _ body => bodyFits body
  | .streamChunk _ _ _ body => bodyFits body
  | .streamClose _ _ _ body => bodyFits body
  | .cancel _ _ _ body => bodyFits body
  | .setAttn _ _ _ body => bodyFits body
  | .queryBatch _ _ _ body => bodyFits body
  | .createKeyEntry _ _ _ body => bodyFits body
  | .removeEntry _ _ _ body => bodyFits body
  | .swapCell _ _ _ body => bodyFits body
  | .discardCell _ _ _ body => bodyFits body
  | .readEntry _ _ _ body => bodyFits body
  | .createGate _ _ _ body => bodyFits body
  | .bindPort _ _ _ body => bodyFits body
  | .beginCeremony _ _ _ body => bodyFits body
  | .component _ _ _ body => bodyFits body
  | .abandonCeremony _ _ _ body => bodyFits body
  | .openBatch _ _ _ body => bodyFits body
  | .pauseBatch _ _ _ body => bodyFits body
  | .resumeBatch _ _ _ body => bodyFits body
  | .closeBatch _ _ _ body => bodyFits body
  | .readMap _ _ _ body => bodyFits body
  | .zeroiseAll _ _ _ body => bodyFits body
  | .clearLockout _ _ _ body => bodyFits body
  | .status _ _ _ body => bodyFits body
  | .grantEnd => true
  | .streamIdleExpiry slot => slot < Config.lineSlots
  | .portReset _ => true
  | .portResetRelease _ => true
  | .tamperEvent _ => true
  | .readBackAttemptEnd _ => true
  | .batteryStateChange _ => true
  | .storeHoldingLost => true
  | .mainPowerLoss => true
  | .mainPowerOn => true
  | .mainReset => true
  | .mainResetRelease => true
  | .powerUpSweep => true
  | .tamperLineInactive _ => true

end Sys2Proof
end

