-- ==== Sys2Proof/Decode.lean ====
section
/-! DEFINITION. The decoder of words. spec/opcode_table.json gives no row any bits ("fields" is empty in all 45
rows), so no word spells a command. The bytes of request frames are decoded where they arrive: Machine/Link.lean
tests a frame, Machine/Operands.lean reads the fields of a body. -/

namespace Sys2Proof

/-- No row of the table gives bits, so no word spells a command. -/
def decodeTableWord (_nbits _w : Nat) : Option Instr := none

end Sys2Proof
end

