-- ==== Sys2Proof/Machine/State.lean ====
section
/-! DEFINITION. The state of the 5240 as plain data, the reasons a step can stop, and the state after reset. -/

namespace Sys2Proof.Machine

/-! ### Something for each port -/

/-- One value for each line port. -/
structure PerLine (α : Type) where
  l0 : α
  l1 : α
  l2 : α
  l3 : α
  deriving DecidableEq, Repr

/-- One value for each of the five ports. -/
structure PerPort (α : Type) where
  l0 : α
  l1 : α
  l2 : α
  l3 : α
  cp : α
  deriving DecidableEq, Repr

/-- One value for each tamper line. -/
structure PerTamper (α : Type) where
  enclosure : α
  mesh : α
  thermal : α
  supply : α
  deriving DecidableEq, Repr

/-! ### Chapter 1 and 2: Key Table and bindings -/

/-- The part modes (R156). -/
inductive PartMode
  | operating | zeroising | lockout | failed
  deriving DecidableEq, Repr

/-- The class of a KEY entry (R2). -/
inductive KeyClass
  | master | data | transport
  deriving DecidableEq, Repr

/-- The uses of a key (R3). -/
inductive KeyUse
  | derive | wrap | decryptIn | encryptOut
  deriving DecidableEq, Repr

/-- The letter of a cell (R2). -/
inductive CellId
  | a | b
  deriving DecidableEq, Repr

/-- The state of a cell (R4). -/
inductive CellState
  | blank | forming | ready | serving | draining
  deriving DecidableEq, Repr

/-- A cell of a KEY entry (R4). -/
structure Cell where
  state : CellState
  value : Option Block
  check : Option Check
  inFlight : Nat
  deriving DecidableEq, Repr

/-- A KEY entry (R2). The sets are lists in the member order of R171. -/
structure KeyEntry where
  label : List Byte
  cls : KeyClass
  uses : List KeyUse
  rank : Nat
  domain : Option Nat
  cellA : Cell
  cellB : Cell
  serving : Option CellId
  deriving DecidableEq, Repr

/-- A GATE entry (R33). -/
structure GateEntry where
  label : List Byte
  target : Nat
  reach : Nat
  uses : List KeyUse
  batch : Option Nat
  deriving DecidableEq, Repr

/-- An entry of the Key Table (R1). -/
inductive Entry
  | empty
  | key (k : KeyEntry)
  | gate (g : GateEntry)
  deriving DecidableEq, Repr

/-- The binding of a line port (R27). -/
structure Binding where
  rank : Nat
  domains : List Nat
  base : Nat
  count : Nat
  weight : Nat
  idleLimit : Nat
  deriving DecidableEq, Repr

/-! ### Chapter 4: batches -/

/-- The state of a batch (R59). -/
inductive BatchState
  | unused | opened | paused | closing | closed | suspended
  deriving DecidableEq, Repr

/-- The state of a position of an issue map (R61). -/
inductive PosState
  | fresh | reservedFresh | issued | spoilt | reservedSpoilt
  deriving DecidableEq, Repr

/-- A batch record with its issue map (R59, R61). -/
structure Batch where
  state : BatchState
  domain : Nat
  label : List Byte
  first : Nat
  quantity : Nat
  allowance : Nat
  derived : Nat
  reissued : Nat
  freshRes : Nat
  reissueRes : Nat
  level : Nat
  map : List PosState
  deriving DecidableEq, Repr

/-! ### Chapters 5, 7 and 8: jobs -/

/-- The state of a job (R87). -/
inductive JobState
  | waiting | inGrant | idle
  deriving DecidableEq, Repr

/-- What a DERIVE holds of one key index it has reached: the card key, and its check value and wrapped key once
computed (R119, R121). -/
structure CardKey where
  index : Nat
  key : Block
  check : Option Check
  wrapped : Option Block
  deriving DecidableEq, Repr

/-- The DERIVE part of a context (R86, R117). `prior` is FRESH or SPOILT. -/
structure DeriveCtx where
  batch : Nat
  pos : Nat
  prior : PosState
  keys : List Nat
  done : Nat
  results : List CardKey
  deriving DecidableEq, Repr

/-- A chunk of a stream: the tag of its request, its input blocks, the passes done, and the plain and output blocks
it has reached (R86, R132, R133). -/
structure Chunk where
  tag : Byte
  blocks : List Block
  done : Nat
  plain : List Block
  out : List Block
  deriving DecidableEq, Repr

/-- The STREAM part of a context (R86, R128). `idle` is the limit of the idle period that is running, or none while
the timer is stopped (R136; log 23); `closing` is the tag of a STREAM-CLOSE that waits for the grant end (R135). -/
structure StreamCtx where
  seq : Byte
  chainIn : Block
  chainOut : Block
  declared : Nat
  done : Nat
  inService : Option Chunk
  staged : Option Chunk
  idle : Option Nat
  closing : Option Byte
  deriving DecidableEq, Repr

/-- The pass a CUSTODY job is due for (R47). -/
inductive CustodyPass
  | component | combination
  deriving DecidableEq, Repr

/-- The CUSTODY part of a context (R47). `abandon` is the tag of a deferred ABANDON-CEREMONY (R53). -/
structure CustodyCtx where
  custodian : Nat
  value : Block
  due : CustodyPass
  abandon : Option Byte
  deriving DecidableEq, Repr

/-- The kind-specific part of a context (R85, R86). -/
inductive JobCtx
  | derive (c : DeriveCtx)
  | stream (c : StreamCtx)
  | custody (c : CustodyCtx)
  deriving DecidableEq, Repr

/-- A live job's context (R86). The slot number is the job's place in `State.slots`. -/
structure Job where
  owner : Port
  tag : Byte
  state : JobState
  captured : List (Nat × CellId)
  cancelPending : Bool
  ctx : JobCtx
  deriving DecidableEq, Repr

/-- A pass: direction, key and block (R102). -/
structure Pass where
  deciphers : Bool
  key : Block
  block : Block
  deriving DecidableEq, Repr

/-- The grant a BUSY engine holds (R103): the job's slot, the grant size, the results of the passes finished so far,
whose number is the passes finished, and the working copy of the pass in progress. -/
structure Grant where
  slot : Nat
  size : Nat
  held : List Block
  work : Pass
  deriving DecidableEq, Repr

/-! ### Chapter 3: the ceremony record -/

/-- An open ceremony record (R43, R44): COMBINING when `combining`, else COLLECTING. CLOSED is `none`. -/
structure Ceremony where
  combining : Bool
  slot : Nat
  cell : CellId
  required : Nat
  expected : Option Check
  received : List (Nat × Check)
  retained : List Block
  running : Block
  deriving DecidableEq, Repr

/-! ### Chapter 9: port units and notices -/

/-- Outcomes and refusals (Figure 16). -/
inductive Answer
  | done | final | accepted | notFound | cancelled | tamper
  | unknownRequest | notPermitted | lockout | malformed | range | window | absent | rank | use | binding
  | gateTarget | domain | cellEmpty
  | occupied | cellState | busy | ceremonyState | duplicateCustodian | weakComponent
  | batchState | outOfBatch | duplicate | allowance | notIssued
  | streamState | overrun | tamperActive
  deriving DecidableEq, Repr

/-- The stage of a refusal (R40). -/
inductive Stage
  | none | direct | throughGate
  deriving DecidableEq, Repr

/-- A placed request: code, tag and body (R140). -/
structure Request where
  code : Byte
  tag : Byte
  body : List Byte
  deriving DecidableEq, Repr

/-- A written response (Figure 13): code and tag echoed, outcome, slot and stage of a refusal, body. -/
structure Response where
  code : Byte
  tag : Byte
  answer : Answer
  slot : Option Nat
  stage : Stage
  body : List Byte
  deriving DecidableEq, Repr

/-- The link fault record (R144). -/
inductive LinkFault
  | none | startWhileFull | frameLength | frameTimeout
  deriving DecidableEq, Repr

/-- The frame in progress of a link (R141, R147). PLACING keeps the bytes clocked so far; UNPLACED is IGNORED before
its first byte is complete; FETCHING keeps the status header and the response being sent, as they were at the
code byte, and the bytes sent after the code byte. -/
inductive Frame
  | none
  | placing (got : List Byte)
  | unplaced
  | ignored
  | fetching (header response : List Byte) (sent : Nat)
  deriving DecidableEq, Repr

/-- The ATTN conditions (R149). -/
inductive AttnCond
  | responseReady | requestSpace | linkFault | mode | notice
  deriving DecidableEq, Repr

/-- What the head of a port waits for (R89, R92; log 9): nothing, the part mode or the sweep, a response entry, the
port's own quota, a line slot through the wait list, slot 15, or the staging place of the stream in a slot. -/
inductive HeadWait
  | none | mode | entry | quota | slot | slot15
  | staging (slot : Nat)
  deriving DecidableEq, Repr

/-- A port unit (R140 to R149, R154). `fetched` is what the latest fetch frame sent after its code byte (log 5). -/
structure PortUnit where
  frame : Frame
  selectLow : Bool
  resetIn : Bool
  requests : List Request
  occupied : List Response
  reserved : Nat
  fault : LinkFault
  attn : List AttnCond
  fetched : List Byte
  wait : HeadWait
  deriving DecidableEq, Repr

/-- The kind and subject of a notice (R152). -/
inductive NoticeKey
  | batchProgress (batch : Nat)
  | batchClosed (batch : Nat)
  | cellDrained (slot : Nat) (cell : CellId)
  | tamper (line : TamperLine)
  | zeroised
  | batteryLow
  | restarted
  deriving DecidableEq, Repr

/-- A notice: kind and subject, and the content byte of Figure 15 (a level, a cause code, or 0). -/
structure Notice where
  key : NoticeKey
  content : Nat
  deriving DecidableEq, Repr

/-! ### Chapter 10: tamper, battery and power -/

/-- The causes of the tamper record (R158). -/
inductive Cause
  | line (l : TamperLine)
  | requested
  | storeLost
  deriving DecidableEq, Repr

/-- The battery state (R166). `State.batteryBelow` is the supply itself: whether it is below the battery low level. -/
inductive Battery
  | good | low
  deriving DecidableEq, Repr

/-- The cause of a sweep (R168). -/
inductive SweepCause
  | power | resetLine | storeLost
  deriving DecidableEq, Repr

/-- The power-up sweep (R168): not running; due at the end of a zeroisation that runs; running; or in its step 2,
repeating a zeroisation. -/
inductive Sweep
  | idle
  | due (c : SweepCause)
  | running (c : SweepCause)
  | clearing (c : SweepCause)
  deriving DecidableEq, Repr

/-! ### The state -/

/-- The state of the 5240. INVENTORY.md lists every field with the rule that names it. -/
structure State where
  keys : Vector Entry 128
  bindings : PerLine Binding
  batches : Vector Batch 32
  slots : Vector (Option Job) 16
  live : PerPort (List Nat)
  waitList : List LinePort
  seqs : Vector Byte 15
  engine : Option Grant
  pointer : LinePort
  deficits : PerLine Nat
  ceremony : Option Ceremony
  ports : PerPort PortUnit
  notices : List Notice
  mode : PartMode
  causes : List Cause
  firstCause : Option Cause
  zeroisePending : Bool
  markerGood : Bool
  zeroRun : Option Nat
  zeroTag : Option Byte
  battery : Battery
  batteryBelow : Bool
  tamperPins : PerTamper Bool
  mainPower : Bool
  resetHeld : Bool
  holdingLost : Bool
  sweep : Sweep
  heldTamper : List TamperLine
  tries : List Port
  choices : Nat
  pending : List Instr
  deriving DecidableEq, Repr

/-- No event of the manual stops the part: every command answers a next state, so there is no fault (log 31). Safe:
a claim that a command completes says something of every state. -/
inductive Fault
  deriving DecidableEq, Repr

/-- The refusals. -/
inductive Refusal
  /-- Raised by an arm of `exec` whose command has no meaning yet; no arm raises it now. Safe. -/
  | notModelled (mnemonic : String)
  deriving DecidableEq, Repr

/-! ### Reset -/

/-- The batch record in state UNUSED (R59, R172). DESIGN CHOICE (log 35): its spoil allowance, which R59 does not list, is 0. -/
def unusedBatch : Batch :=
  { state := .unused, domain := 0, label := List.replicate 12 0x20, first := 0, quantity := 0, allowance := 0,
    derived := 0, reissued := 0, freshRes := 0, reissueRes := 0, level := 0, map := [] }

/-- The default binding (R27). -/
def defaultBinding : Binding :=
  { rank := 3, domains := [], base := 0, count := 0, weight := 1, idleLimit := 30 }

/-- The ATTN enable set after power-up, main reset and port reset (R149). -/
def defaultAttn : List AttnCond := [.responseReady, .linkFault, .mode]

/-- A port unit after power-up (R155), its pins at rest (log 3). -/
def freshUnit : PortUnit :=
  { frame := .none, selectLow := false, resetIn := false, requests := [], occupied := [], reserved := 0,
    fault := .none, attn := defaultAttn, fetched := [], wait := .none }

/-- The part after reset: a new part after the power-up sweep that found its store lost (R170, R168, R101, R107,
R129, R155; 12_custody_procedures 12.1), with every input pin at rest. DESIGN CHOICE (log 3): which of the part's
resets this is, and the pins. -/
def State.reset : State :=
  { keys := Vector.replicate 128 .empty
    bindings := ⟨defaultBinding, defaultBinding, defaultBinding, defaultBinding⟩
    batches := Vector.replicate 32 unusedBatch
    slots := Vector.replicate 16 none
    live := ⟨[], [], [], [], []⟩
    waitList := []
    seqs := Vector.replicate 15 0
    engine := none
    pointer := .l0
    deficits := ⟨0, 0, 0, 0⟩
    ceremony := none
    ports := ⟨freshUnit, freshUnit, freshUnit, freshUnit, freshUnit⟩
    notices := [⟨.restarted, 3⟩]
    mode := .lockout
    causes := [.storeLost]
    firstCause := some .storeLost
    zeroisePending := false
    markerGood := true
    zeroRun := none
    zeroTag := none
    battery := .good
    batteryBelow := false
    tamperPins := ⟨false, false, false, false⟩
    mainPower := true
    resetHeld := false
    holdingLost := false
    sweep := .idle
    heldTamper := []
    tries := []
    choices := 0
    pending := [] }

end Sys2Proof.Machine
end

