-- ==== Sys2Proof/Machine/Bytes.lean ====
section
/-! DEFINITION. Bytes, numbers and blocks: the byte order of R171 in both directions. -/

namespace Sys2Proof.Machine

/-- The number `n` in `k` bytes, most significant byte first (R171). -/
def beBytes : Nat → Nat → List Byte
  | 0, _ => []
  | k + 1, n => BitVec.ofNat 8 (n / 256 ^ k) :: beBytes k n

/-- The number that bytes spell, most significant byte first (R171). -/
def beNat (bytes : List Byte) : Nat := bytes.foldl (fun acc b => acc * 256 + b.toNat) 0

/-- Byte `i` of a block, counted in travel order (00_scope.md "Byte order"). -/
def byteAt (b : Block) (i : Nat) : Byte := b.extractLsb' (8 * (15 - i)) 8

/-- The 16 bytes of a block in travel order (R171). -/
def blockBytes (b : Block) : List Byte := (List.range 16).map (byteAt b)

/-- The block that 16 bytes in travel order spell (R171). -/
def blockOf (bytes : List Byte) : Block := bytes.foldl (fun acc b => (acc <<< 8) ||| b.setWidth 128) 0

/-- The 3 bytes of a check value (R171). -/
def checkBytes (c : Check) : List Byte := beBytes 3 c.toNat

/-- The first 3 bytes (bytes 0, 1 and 2) of a block (R5). -/
def firstThree (b : Block) : Check := b.extractLsb' 104 24

/-- Byte `i` of a body as a number; a body of the required length has it. -/
def field (body : List Byte) (i : Nat) : Nat := (body.getD i 0).toNat

/-- `n` bytes of a body from byte `i`. -/
def slice (body : List Byte) (i n : Nat) : List Byte := (body.drop i).take n

/-- A one-byte number. -/
def byte (n : Nat) : Byte := BitVec.ofNat 8 n

/-- Consecutive 16-byte blocks of a byte string. -/
def blocksOf : Nat → List Byte → List Block
  | 0, _ => []
  | k + 1, bytes => blockOf (bytes.take 16) :: blocksOf k (bytes.drop 16)

end Sys2Proof.Machine
end

