-- ==== Sys2Proof/Machine/Cipher.lean ====
section
/-! DEFINITION. The cipher of R102: AES-128. The manual names the cipher and says that its values are "the one that the
cipher's standard defines"; the algorithm itself is PRESUMED from that standard, FIPS 197 (log 10). -/

namespace Sys2Proof.Machine

/-- Row `r` of the substitution table of FIPS 197, its 16 bytes in column order. -/
def sboxRow : Nat → Block
  | 0 => 0x637c777bf26b6fc53001672bfed7ab76
  | 1 => 0xca82c97dfa5947f0add4a2af9ca472c0
  | 2 => 0xb7fd9326363ff7cc34a5e5f171d83115
  | 3 => 0x04c723c31896059a071280e2eb27b275
  | 4 => 0x09832c1a1b6e5aa0523bd6b329e32f84
  | 5 => 0x53d100ed20fcb15b6acbbe394a4c58cf
  | 6 => 0xd0efaafb434d338545f9027f503c9fa8
  | 7 => 0x51a3408f929d38f5bcb6da2110fff3d2
  | 8 => 0xcd0c13ec5f974417c4a77e3d645d1973
  | 9 => 0x60814fdc222a908846eeb814de5e0bdb
  | 10 => 0xe0323a0a4906245cc2d3ac629195e479
  | 11 => 0xe7c8376d8dd54ea96c56f4ea657aae08
  | 12 => 0xba78252e1ca6b4c6e8dd741f4bbd8b8a
  | 13 => 0x703eb5664803f60e613557b986c11d9e
  | 14 => 0xe1f8981169d98e949b1e87e9ce5528df
  | _ => 0x8ca1890dbfe6426841992d0fb054bb16

/-- Row `r` of the inverse substitution table of FIPS 197. -/
def invSboxRow : Nat → Block
  | 0 => 0x52096ad53036a538bf40a39e81f3d7fb
  | 1 => 0x7ce339829b2fff87348e4344c4dee9cb
  | 2 => 0x547b9432a6c2233dee4c950b42fac34e
  | 3 => 0x082ea16628d924b2765ba2496d8bd125
  | 4 => 0x72f8f66486689816d4a45ccc5d65b692
  | 5 => 0x6c704850fdedb9da5e154657a78d9d84
  | 6 => 0x90d8ab008cbcd30af7e45805b8b34506
  | 7 => 0xd02c1e8fca3f0f02c1afbd0301138a6b
  | 8 => 0x3a9111414f67dcea97f2cfcef0b4e673
  | 9 => 0x96ac7422e7ad3585e2f937e81c75df6e
  | 10 => 0x47f11a711d29c5896fb7620eaa18be1b
  | 11 => 0xfc563e4bc6d279209adbc0fe78cd5af4
  | 12 => 0x1fdda8338807c731b11210592780ec5f
  | 13 => 0x60517fa919b54a0d2de57a9f93c99cef
  | 14 => 0xa0e03b4dae2af5b0c8ebbb3c83539961
  | _ => 0x172b047eba77d626e169146355210c7d

/-- The substitution of one byte: the high half names the row, the low half the column. -/
def sbox (b : Byte) : Byte := byteAt (sboxRow (b.toNat / 16)) (b.toNat % 16)

/-- The inverse substitution of one byte. -/
def invSbox (b : Byte) : Byte := byteAt (invSboxRow (b.toNat / 16)) (b.toNat % 16)

/-- Multiplication by x in the field of 256 elements of FIPS 197 (polynomial 0x11b). -/
def xtime (b : Byte) : Byte := (b <<< 1) ^^^ (if b.msb then 0x1b else 0)

/-- A block from a function of the byte number. -/
def blockFrom (f : Nat → Byte) : Block := blockOf ((List.range 16).map f)

/-- SubBytes. -/
def subBytes (s : Block) : Block := blockFrom fun i => sbox (byteAt s i)

/-- InvSubBytes. -/
def invSubBytes (s : Block) : Block := blockFrom fun i => invSbox (byteAt s i)

/-- ShiftRows: byte i stands in row i % 4 and column i / 4; row r moves left by r columns. -/
def shiftRows (s : Block) : Block := blockFrom fun i => byteAt s ((i + 4 * (i % 4)) % 16)

/-- InvShiftRows: row r moves right by r columns. -/
def invShiftRows (s : Block) : Block := blockFrom fun i => byteAt s ((i + 12 * (i % 4)) % 16)

/-- Byte `k` places down the column of byte `i`, wrapping in the column. -/
def columnByte (s : Block) (i k : Nat) : Byte := byteAt s (4 * (i / 4) + (i + k) % 4)

/-- MixColumns: each byte becomes 2a + 3b + c + d of its column. -/
def mixColumns (s : Block) : Block := blockFrom fun i =>
  let a := columnByte s i 0
  let b := columnByte s i 1
  xtime a ^^^ (xtime b ^^^ b) ^^^ columnByte s i 2 ^^^ columnByte s i 3

/-- Multiplication by 9, 11, 13 and 14 from repeated `xtime`. -/
def mul9 (b : Byte) : Byte := xtime (xtime (xtime b)) ^^^ b

/-- Multiplication by 11. -/
def mul11 (b : Byte) : Byte := xtime (xtime (xtime b)) ^^^ xtime b ^^^ b

/-- Multiplication by 13. -/
def mul13 (b : Byte) : Byte := xtime (xtime (xtime b)) ^^^ xtime (xtime b) ^^^ b

/-- Multiplication by 14. -/
def mul14 (b : Byte) : Byte := xtime (xtime (xtime b)) ^^^ xtime (xtime b) ^^^ xtime b

/-- InvMixColumns: each byte becomes 14a + 11b + 13c + 9d of its column. -/
def invMixColumns (s : Block) : Block := blockFrom fun i =>
  mul14 (columnByte s i 0) ^^^ mul11 (columnByte s i 1) ^^^ mul13 (columnByte s i 2) ^^^ mul9 (columnByte s i 3)

/-- A four-byte word of the key schedule. -/
abbrev KeyWord := BitVec 32

/-- Word `j` of a block. -/
def wordAt (b : Block) (j : Nat) : KeyWord := b.extractLsb' (32 * (3 - j)) 32

/-- Byte `i` of a word substituted. -/
def subWordByte (w : KeyWord) (i : Nat) : KeyWord := (sbox (w.extractLsb' (8 * (3 - i)) 8)).setWidth 32 <<< (8 * (3 - i))

/-- SubWord. -/
def subWord (w : KeyWord) : KeyWord :=
  subWordByte w 0 ||| subWordByte w 1 ||| subWordByte w 2 ||| subWordByte w 3

/-- The next round key, with the round constant `rcon`. -/
def nextRoundKey (rcon : Byte) (k : Block) : Block :=
  let w0 := wordAt k 0 ^^^ subWord ((wordAt k 3).rotateLeft 8) ^^^ (rcon.setWidth 32 <<< 24)
  let w1 := wordAt k 1 ^^^ w0
  let w2 := wordAt k 2 ^^^ w1
  let w3 := wordAt k 3 ^^^ w2
  w0 ++ w1 ++ w2 ++ w3

/-- `n` further round keys after `k`, the first of them made with `rcon`. -/
def roundKeysFrom : Nat → Byte → Block → List Block
  | 0, _, _ => []
  | n + 1, rcon, k =>
    let k' := nextRoundKey rcon k
    k' :: roundKeysFrom n (xtime rcon) k'

/-- One round of encipherment under its round key. -/
def encRound (s k : Block) : Block := mixColumns (shiftRows (subBytes s)) ^^^ k

/-- The last round, which has no MixColumns. -/
def encLast (s k : Block) : Block := shiftRows (subBytes s) ^^^ k

/-- The inverse of `encRound`. -/
def decRound (s k : Block) : Block := invSubBytes (invShiftRows (invMixColumns (s ^^^ k)))

/-- The inverse of `encLast`. -/
def decLast (s k : Block) : Block := invSubBytes (invShiftRows (s ^^^ k))

/-- The nine middle round keys of a key, in order. -/
def middleKeys (key : Block) : List Block := (roundKeysFrom 10 0x01 key).take 9

/-- The last round key of a key. -/
def lastKey (key : Block) : Block := (roundKeysFrom 10 0x01 key).getD 9 0

/-- A pass of encipherment: one 16-byte block under one 16-byte key (R102). -/
def encipher (key block : Block) : Block :=
  encLast ((middleKeys key).foldl encRound (block ^^^ key)) (lastKey key)

/-- A pass of decipherment (R102). -/
def decipher (key block : Block) : Block :=
  (middleKeys key).reverse.foldl decRound (decLast block (lastKey key)) ^^^ key

/-- The check value of a key: the first 3 bytes of the all-zero block enciphered under it (R5, R48, R119). -/
def checkValue (key : Block) : Check := firstThree (encipher key 0)

end Sys2Proof.Machine
end

