-- ==== Sys2Proof/Machine/Ops.lean ====
section
/-! DEFINITION. The named operations over the state: reading and writing one thing of it, the response queue, the notice
list, the cells of the Key Table and the slot wait list. A slot, batch or job number outside its table reads as
EMPTY, UNUSED or free, and writing it changes nothing; every rule tests its range first. -/

namespace Sys2Proof.Machine

/-! ### Something for each port -/

/-- The value of a line port. -/
def PerLine.get {α : Type} (x : PerLine α) : LinePort → α
  | .l0 => x.l0
  | .l1 => x.l1
  | .l2 => x.l2
  | .l3 => x.l3

/-- A new value for a line port. -/
def PerLine.set {α : Type} (x : PerLine α) (p : LinePort) (v : α) : PerLine α :=
  match p with
  | .l0 => { x with l0 := v }
  | .l1 => { x with l1 := v }
  | .l2 => { x with l2 := v }
  | .l3 => { x with l3 := v }

/-- The value of a port. -/
def PerPort.get {α : Type} (x : PerPort α) : Port → α
  | .line .l0 => x.l0
  | .line .l1 => x.l1
  | .line .l2 => x.l2
  | .line .l3 => x.l3
  | .cp => x.cp

/-- A new value for a port. -/
def PerPort.set {α : Type} (x : PerPort α) (p : Port) (v : α) : PerPort α :=
  match p with
  | .line .l0 => { x with l0 := v }
  | .line .l1 => { x with l1 := v }
  | .line .l2 => { x with l2 := v }
  | .line .l3 => { x with l3 := v }
  | .cp => { x with cp := v }

/-- The value of a tamper line. -/
def PerTamper.get {α : Type} (x : PerTamper α) : TamperLine → α
  | .enclosure => x.enclosure
  | .mesh => x.mesh
  | .thermal => x.thermal
  | .supply => x.supply

/-- A new value for a tamper line. -/
def PerTamper.set {α : Type} (x : PerTamper α) (l : TamperLine) (v : α) : PerTamper α :=
  match l with
  | .enclosure => { x with enclosure := v }
  | .mesh => { x with mesh := v }
  | .thermal => { x with thermal := v }
  | .supply => { x with supply := v }

/-- The line ports in order. -/
def allLines : List LinePort := [.l0, .l1, .l2, .l3]

/-- The five ports. -/
def allPorts : List Port := [.line .l0, .line .l1, .line .l2, .line .l3, .cp]

/-- The tamper lines in the order of R157. -/
def allTamperLines : List TamperLine := [.enclosure, .mesh, .thermal, .supply]

/-! ### Reading and writing the tables -/

/-- Port unit `p`. -/
def State.port (s : State) (p : Port) : PortUnit := s.ports.get p

/-- Port unit `p` replaced. -/
def State.setPort (s : State) (p : Port) (u : PortUnit) : State := { s with ports := s.ports.set p u }

/-- The live-job list of port `p` (R88). -/
def State.liveOf (s : State) (p : Port) : List Nat := s.live.get p

/-- The live-job list of port `p` replaced. -/
def State.setLive (s : State) (p : Port) (l : List Nat) : State := { s with live := s.live.set p l }

/-- The binding of line port `l` (R27). -/
def State.binding (s : State) (l : LinePort) : Binding := s.bindings.get l

/-- The binding of line port `l` replaced. -/
def State.setBinding (s : State) (l : LinePort) (b : Binding) : State := { s with bindings := s.bindings.set l b }

/-- The deficit of line port `l` (R107). -/
def State.deficit (s : State) (l : LinePort) : Nat := s.deficits.get l

/-- The deficit of line port `l` replaced. -/
def State.setDeficit (s : State) (l : LinePort) (d : Nat) : State := { s with deficits := s.deficits.set l d }

/-- Entry `n` of the Key Table (R1). -/
def State.entry (s : State) (n : Nat) : Entry := if h : n < 128 then s.keys[n] else .empty

/-- Entry `n` of the Key Table replaced. -/
def State.setEntry (s : State) (n : Nat) (e : Entry) : State :=
  { s with keys := if h : n < 128 then s.keys.set n e h else s.keys }

/-- Batch record `n` (R59). -/
def State.batch (s : State) (n : Nat) : Batch := if h : n < 32 then s.batches[n] else unusedBatch

/-- Batch record `n` replaced. -/
def State.setBatch (s : State) (n : Nat) (b : Batch) : State :=
  { s with batches := if h : n < 32 then s.batches.set n b h else s.batches }

/-- The job in slot `n`, if the slot is not free (R83). -/
def State.job (s : State) (n : Nat) : Option Job := if h : n < 16 then s.slots[n] else none

/-- Slot `n` replaced. -/
def State.setJob (s : State) (n : Nat) (j : Option Job) : State :=
  { s with slots := if h : n < 16 then s.slots.set n j h else s.slots }

/-- The stream sequence of line slot `n` (R129). -/
def State.seq (s : State) (n : Nat) : Byte := if h : n < 15 then s.seqs[n] else 0

/-- The stream sequence of line slot `n` replaced. -/
def State.setSeq (s : State) (n : Nat) (v : Byte) : State :=
  { s with seqs := if h : n < 15 then s.seqs.set n v h else s.seqs }

/-- A vector with a function applied to every element. -/
def mapVector {α : Type} {n : Nat} (f : α → α) (v : Vector α n) : Vector α n :=
  ⟨(v.toList.map f).toArray, by simp⟩

/-! ### Whether the part is at work -/

/-- The links, queues and notice list are at work: main power is present and the main reset line is released (R155,
R163, R169). -/
def State.alive (s : State) : Bool := s.mainPower && !s.resetHeld

/-- A head may be admitted: mode OPERATING or LOCKOUT, and no power-up sweep running (R89 step 1, R155). -/
def State.admitting (s : State) : Bool :=
  (s.mode == .operating || s.mode == .lockout) && s.sweep == .idle && s.alive

/-- The mode that the store holds: FAILED is volatile and stands in the store as ZEROISING (R156). -/
def storedMode : PartMode → PartMode
  | .failed => .zeroising
  | m => m

/-! ### Heads to try -/

/-- Head `p` is to be tried in the event in progress (R89). -/
def State.addTry (s : State) (p : Port) : State :=
  { s with tries := if p ∈ s.tries then s.tries else s.tries ++ [p] }

/-- Every port's head is to be tried (R89). -/
def State.addTries (s : State) (ps : List Port) : State := ps.foldl State.addTry s

/-- Head `p` is to be tried if it waits for what has come free (R89). -/
def State.addTryIf (s : State) (p : Port) (w : HeadWait) : State :=
  if (s.port p).wait = w then s.addTry p else s

/-- What the head of port `p` waits for (log 9). -/
def State.setWait (s : State) (p : Port) (w : HeadWait) : State := s.setPort p { s.port p with wait := w }

/-! ### The slot wait list (R93, R95) -/

/-- Port `p` joins the tail of the slot wait list, or keeps its place; the custody port never joins (R93). -/
def State.joinWaitList (s : State) (p : Port) : State :=
  match p with
  | .cp => s
  | .line l => { s with waitList := if l ∈ s.waitList then s.waitList else s.waitList ++ [l] }

/-- Port `p` leaves the slot wait list (R95). -/
def State.leaveWaitList (s : State) (p : Port) : State :=
  match p with
  | .cp => s
  | .line l => { s with waitList := s.waitList.filter (· != l) }

/-! ### Responses (R91, R146) -/

/-- No entry of the response queue is free to reserve (R89 step 2). -/
def PortUnit.responsesFull (u : PortUnit) : Bool := Config.responseEntries ≤ u.occupied.length + u.reserved

/-- A response is written into an entry reserved for it and joins the tail of the occupied entries (R146). Where no
entry is reserved, its reservation was dropped by a port reset and it is not written (R146, R154; log 26). -/
def State.respond (s : State) (p : Port) (r : Response) : State :=
  let u := s.port p
  if u.reserved = 0 then s
  else s.setPort p { u with reserved := u.reserved - 1, occupied := u.occupied ++ [r] }

/-- Several responses written in order. -/
def State.respondAll (s : State) (p : Port) (rs : List Response) : State := rs.foldl (fun s r => s.respond p r) s

/-- A response that is no refusal: no slot and no stage (Figure 13 note). -/
def plainResponse (code tag : Byte) (a : Answer) (body : List Byte) : Response :=
  { code := code, tag := tag, answer := a, slot := none, stage := .none, body := body }

/-- The admission of the head of port `p` takes it from the request queue, reserves one response entry and takes the
port off the slot wait list (R91, R145, R95). The next request becomes the head. DESIGN CHOICE (log 37): the port leaves the list
before what the admission does, so that the slot an admitted CANCEL frees is not offered to its own port. -/
def State.beginAdmission (s : State) (p : Port) : State :=
  let u := s.port p
  (s.setPort p { u with requests := u.requests.tail, reserved := u.reserved + 1, wait := .none }).leaveWaitList p

/-! ### Notices (R152) -/

/-- A notice is raised: it joins the tail of the list, or its twin keeps its place and takes the content (R152). -/
def raiseIn (k : NoticeKey) (content : Nat) (ns : List Notice) : List Notice :=
  if ns.any (·.key == k) then ns.map (fun n => if n.key == k then ⟨k, content⟩ else n) else ns ++ [⟨k, content⟩]

/-- A notice is raised in the custody notice list. -/
def State.notice (s : State) (k : NoticeKey) (content : Nat) : State := { s with notices := raiseIn k content s.notices }

/-! ### Cells (R4 to R11) -/

/-- A BLANK cell (R4). -/
def blankCell : Cell := { state := .blank, value := none, check := none, inFlight := 0 }

/-- Cell `c` of a KEY entry. -/
def KeyEntry.cell (k : KeyEntry) : CellId → Cell
  | .a => k.cellA
  | .b => k.cellB

/-- Cell `c` of a KEY entry replaced. -/
def KeyEntry.setCell (k : KeyEntry) (c : CellId) (x : Cell) : KeyEntry :=
  match c with
  | .a => { k with cellA := x }
  | .b => { k with cellB := x }

/-- The other letter. -/
def CellId.other : CellId → CellId
  | .a => .b
  | .b => .a

/-- The key value of a captured cell (R9, R102). -/
def State.cellValue (s : State) (slot : Nat) (c : CellId) : Block :=
  match s.entry slot with
  | .key k => (k.cell c).value.getD 0
  | _ => 0

/-- A cell of a KEY entry changed. -/
def State.modCell (s : State) (slot : Nat) (c : CellId) (f : Cell → Cell) : State :=
  match s.entry slot with
  | .key k => s.setEntry slot (.key (k.setCell c (f (k.cell c))))
  | _ => s

/-- A job captures a cell: its in-flight count rises by one (R8). -/
def State.capture (s : State) (slot : Nat) (c : CellId) : State :=
  s.modCell slot c fun x => { x with inFlight := x.inFlight + 1 }

/-- A cell after the release of one hold (R10, R11): the count falls by one; a DRAINING cell whose count reaches 0
becomes READY and keeps its values. A release never finds a cell in another state. -/
def releasedCell (x : Cell) : Cell :=
  match x.state with
  | .serving => { x with inFlight := x.inFlight - 1 }
  | .draining =>
    if x.inFlight ≤ 1 then { x with state := .ready, inFlight := 0 } else { x with inFlight := x.inFlight - 1 }
  | _ => x

/-- The release of one hold completes the drain of a cell (R11). -/
def drainEnds (x : Cell) : Bool := x.state == .draining && x.inFlight ≤ 1

/-- A job releases a captured cell. A drain that ends raises CELL_DRAINED unless the release belongs to a tamper
zeroisation (R11, R22). -/
def State.releaseCell (loud : Bool) (s : State) (pair : Nat × CellId) : State :=
  match s.entry pair.1 with
  | .key k =>
    let x := k.cell pair.2
    let s' := s.setEntry pair.1 (.key (k.setCell pair.2 (releasedCell x)))
    if loud && drainEnds x then s'.notice (.cellDrained pair.1 pair.2) 0 else s'
  | _ => s

/-- A KEY entry whose cells are all cleared (R22). -/
def Entry.zeroised : Entry → Entry
  | .key k => .key { k with cellA := blankCell, cellB := blankCell, serving := none }
  | e => e

/-- A cell after the power-up sweep (R21). -/
def sweptCell (x : Cell) : Cell :=
  match x.state with
  | .forming => blankCell
  | .draining => { x with state := .ready, inFlight := 0 }
  | _ => { x with inFlight := 0 }

/-- An entry after the power-up sweep (R21). -/
def Entry.swept : Entry → Entry
  | .key k => .key { k with cellA := sweptCell k.cellA, cellB := sweptCell k.cellB }
  | e => e

/-- The ceremony record closes and every part of it is cleared; a FORMING target cell becomes BLANK (R43, R44, R52,
R54, R56, R57). -/
def State.closeCeremony (s : State) : State :=
  match s.ceremony with
  | none => s
  | some c =>
    let s' := s.modCell c.slot c.cell fun x => if x.state = .forming then blankCell else x
    { s' with ceremony := none }

end Sys2Proof.Machine
end

