-- ==== Sys2Proof/Machine/Encoding.lean ====
section
/-! DEFINITION. The code tables of Figures 14, 16 and 17 and the encodings of R171 to R173. -/

namespace Sys2Proof.Machine

/-! ### Codes of values (Figures 16 and 17) -/

/-- The outcome and refusal codes (Figure 16). -/
def Answer.code : Answer → Byte
  | .done => 0x00
  | .final => 0x01
  | .accepted => 0x02
  | .notFound => 0x03
  | .cancelled => 0x04
  | .tamper => 0x05
  | .unknownRequest => 0x20
  | .notPermitted => 0x21
  | .lockout => 0x22
  | .malformed => 0x23
  | .range => 0x24
  | .window => 0x25
  | .absent => 0x26
  | .rank => 0x27
  | .use => 0x28
  | .binding => 0x29
  | .gateTarget => 0x2A
  | .domain => 0x2B
  | .cellEmpty => 0x2C
  | .occupied => 0x30
  | .cellState => 0x31
  | .busy => 0x32
  | .ceremonyState => 0x33
  | .duplicateCustodian => 0x34
  | .weakComponent => 0x35
  | .batchState => 0x38
  | .outOfBatch => 0x39
  | .duplicate => 0x3A
  | .allowance => 0x3B
  | .notIssued => 0x3C
  | .streamState => 0x40
  | .overrun => 0x41
  | .tamperActive => 0x48

/-- Part mode codes (Figure 17). -/
def PartMode.code : PartMode → Byte
  | .operating => 0x01
  | .zeroising => 0x02
  | .lockout => 0x03
  | .failed => 0x04

/-- Link fault codes (Figure 17). -/
def LinkFault.code : LinkFault → Byte
  | .none => 0x00
  | .startWhileFull => 0x01
  | .frameLength => 0x02
  | .frameTimeout => 0x03

/-- Stage codes (Figure 17). -/
def Stage.code : Stage → Byte
  | .none => 0x00
  | .direct => 0x01
  | .throughGate => 0x02

/-- Entry kind codes (Figure 17). -/
def Entry.kindCode : Entry → Byte
  | .empty => 0x00
  | .key _ => 0x01
  | .gate _ => 0x02

/-- Class codes (Figure 17). -/
def KeyClass.code : KeyClass → Byte
  | .master => 0x01
  | .data => 0x02
  | .transport => 0x03

/-- Cell letter codes (Figure 17). -/
def CellId.code : CellId → Byte
  | .a => 0x00
  | .b => 0x01

/-- Cell state codes (Figure 17). -/
def CellState.code : CellState → Byte
  | .blank => 0x00
  | .forming => 0x01
  | .ready => 0x02
  | .serving => 0x03
  | .draining => 0x04

/-- Batch state codes (Figure 17). -/
def BatchState.code : BatchState → Byte
  | .unused => 0x00
  | .opened => 0x01
  | .paused => 0x02
  | .closing => 0x03
  | .closed => 0x04
  | .suspended => 0x05

/-- Position state codes (Figure 17). -/
def PosState.code : PosState → Byte
  | .fresh => 0x00
  | .reservedFresh => 0x01
  | .issued => 0x02
  | .spoilt => 0x03
  | .reservedSpoilt => 0x04

/-- Tamper line codes, which serve as causes and as subjects (Figure 17). -/
def tamperCode : TamperLine → Byte
  | .enclosure => 0x01
  | .mesh => 0x02
  | .thermal => 0x03
  | .supply => 0x04

/-- Tamper cause codes (Figure 17). -/
def Cause.code : Cause → Byte
  | .line l => tamperCode l
  | .requested => 0x05
  | .storeLost => 0x06

/-- Battery state codes (Figure 17). -/
def Battery.code : Battery → Byte
  | .good => 0x01
  | .low => 0x02

/-- Line port codes (Figure 17). -/
def lineCode : LinePort → Byte
  | .l0 => 0x00
  | .l1 => 0x01
  | .l2 => 0x02
  | .l3 => 0x03

/-- RESTARTED cause codes (Figure 17). -/
def SweepCause.code : SweepCause → Nat
  | .power => 1
  | .resetLine => 2
  | .storeLost => 3

/-- The results of a combination (R50, Figure 17). -/
inductive Combination
  | none | loaded | weakKey | kcvMismatch
  deriving DecidableEq, Repr

/-- Combination result codes (Figure 17). -/
def Combination.code : Combination → Byte
  | .none => 0x00
  | .loaded => 0x01
  | .weakKey => 0x02
  | .kcvMismatch => 0x03

/-! ### Codes read from requests -/

/-- The class a code byte names (Figure 17). -/
def classOf : Nat → Option KeyClass
  | 1 => some .master
  | 2 => some .data
  | 3 => some .transport
  | _ => none

/-- The cell a code byte names (Figure 17). -/
def cellOf : Nat → Option CellId
  | 0 => some .a
  | 1 => some .b
  | _ => none

/-- The line port a code byte names (Figure 17). -/
def lineOf : Nat → Option LinePort
  | 0 => some .l0
  | 1 => some .l1
  | 2 => some .l2
  | 3 => some .l3
  | _ => none

/-! ### Sets (R171) -/

/-- The uses in member order (R171). -/
def allUses : List KeyUse := [.derive, .wrap, .decryptIn, .encryptOut]

/-- The key indices in member order (R171). -/
def allKeyIndices : List Nat := [0, 1, 2]

/-- The domains in member order (R171). -/
def allDomains : List Nat := [0, 1, 2, 3, 4, 5, 6, 7, 8, 9, 10, 11, 12, 13, 14, 15]

/-- The ATTN conditions in member order (R171). -/
def allConds : List AttnCond := [.responseReady, .requestSpace, .linkFault, .mode, .notice]

/-- The tamper causes in member order (R171). -/
def allCauses : List Cause :=
  [.line .enclosure, .line .mesh, .line .thermal, .line .supply, .requested, .storeLost]

/-- The set that membership bytes spell, in member order; none when a byte is neither 0x00 nor 0x01 (R171). -/
def readSet {α : Type} (all : List α) (bytes : List Byte) : Option (List α) :=
  if bytes.all (fun b => b == 0 || b == 1) then
    some ((all.zip bytes).filterMap fun m => if m.2 == 1 then some m.1 else none)
  else none

/-- The membership bytes of a set (R171). -/
def setBytes {α : Type} [BEq α] (all set : List α) : List Byte :=
  all.map fun a => if set.contains a then 1 else 0

/-- An optional number: 0xFF when absent (R171). -/
def optByte : Option Nat → Byte
  | none => 0xFF
  | some n => byte n

/-! ### Headers (Figures 12 and 13) -/

/-- The bytes of a response as a fetch frame carries them (Figure 13). -/
def Response.bytes (r : Response) : List Byte :=
  [r.code, r.tag, r.answer.code, optByte r.slot, r.stage.code, byte r.body.length] ++ r.body

/-- The bytes of a notice in a STATUS response: kind, subject, content (Figure 15 note). DESIGN CHOICE (log 33): the
second subject byte of BATCH_PROGRESS, BATCH_CLOSED and TAMPER, which the note does not give, is 0. -/
def Notice.bytes (n : Notice) : List Byte :=
  match n.key with
  | .batchProgress b => [0x01, byte b, 0, byte n.content]
  | .batchClosed b => [0x02, byte b, 0, byte n.content]
  | .cellDrained slot c => [0x03, byte slot, c.code, byte n.content]
  | .tamper l => [0x04, tamperCode l, 0, byte n.content]
  | .zeroised => [0x05, 0, 0, byte n.content]
  | .batteryLow => [0x06, 0, 0, byte n.content]
  | .restarted => [0x07, 0, 0, byte n.content]

end Sys2Proof.Machine
end

