-- ==== Sys2Proof/Machine/Flags.lean ====
section
/-! DEFINITION. What the port units show: free entries, READY, ATTN, data out and the status header (R140,
R145, R147, R149). -/

namespace Sys2Proof.Machine

/-- Entries of the request queue that are taken: placed requests, and the one a PLACING frame has reserved (R145). -/
def PortUnit.entriesTaken (u : PortUnit) : Nat :=
  u.requests.length + (match u.frame with | .placing _ => 1 | _ => 0)

/-- The request queue has a free entry (R145). -/
def PortUnit.entryFree (u : PortUnit) : Bool := u.entriesTaken < Config.requestEntries

/-- The link of port `p` takes frames: main power present, main reset and port reset released (R154, R155). -/
def State.linkTakes (s : State) (p : Port) : Bool := s.alive && !(s.port p).resetIn

/-- The READY line of port `p` (R145, R154, R155). -/
def State.ready (s : State) (p : Port) : Bool := s.linkTakes p && (s.port p).entryFree

/-- An ATTN condition holds at port `p` (R149). -/
def State.condHolds (s : State) (p : Port) : AttnCond → Bool
  | .responseReady => !(s.port p).occupied.isEmpty
  | .requestSpace => (s.port p).entryFree
  | .linkFault => (s.port p).fault != .none
  | .mode => s.mode != .operating
  | .notice => p == .cp && !s.notices.isEmpty

/-- The ATTN line of port `p`: high while an enabled condition holds, low while the port is held in reset or the part is
off (R149, R154, R155). -/
def State.attnHigh (s : State) (p : Port) : Bool := s.linkTakes p && (s.port p).attn.any (s.condHolds p)

/-- The byte that data out of port `p` carries in the latest byte time of its frame: a byte of the header, of the response
or a zero in a fetch frame past its code byte; low in a request frame, in a code byte and between frames (R140,
R147). -/
def State.dataOut (s : State) (p : Port) : Byte :=
  match (s.port p).frame with
  | .fetching header response (n + 1) => (header ++ response).getD n 0
  | _ => 0

/-- A link fault is recorded when the record holds NONE; the first fault stays (R144). -/
def PortUnit.recordFault (u : PortUnit) (f : LinkFault) : PortUnit :=
  { u with fault := if u.fault = .none then f else u.fault }

/-- The mode a status header shows: while the sweep runs, the stored mode (R147, R168). -/
def State.shownMode (s : State) : PartMode :=
  match s.sweep with
  | .running _ => storedMode s.mode
  | .clearing _ => storedMode s.mode
  | _ => s.mode

/-- The four bytes of the status header (Figure 12, R147): the free entries are eight less the placed requests, the
responses waiting are the occupied entries. -/
def State.statusHeader (s : State) (p : Port) : List Byte :=
  let u := s.port p
  [s.shownMode.code, byte (Config.requestEntries - u.requests.length), byte u.occupied.length, u.fault.code]

end Sys2Proof.Machine
end

