-- ==== Sys2Proof/Machine/Operands.lean ====
section
/-! DEFINITION. Requests as they stand in a queue: known codes, request classes, required lengths (R39, R90, R151,
Figure 14), and the bodies of Figure 14 spelt from their fields. -/

namespace Sys2Proof.Machine

/-- The known requests (Figure 14). -/
inductive ReqKind
  | derive | spoil | streamOpen | streamChunk | streamClose
  | cancel | setAttn | queryBatch
  | createKeyEntry | removeEntry | swapCell | discardCell | readEntry | createGate | bindPort
  | beginCeremony | component | abandonCeremony
  | openBatch | pauseBatch | resumeBatch | closeBatch | readMap
  | zeroiseAll | clearLockout | status
  deriving DecidableEq, Repr

/-- The request codes (Figure 14). -/
def ReqKind.code : ReqKind → Byte
  | .derive => 0x01
  | .spoil => 0x02
  | .streamOpen => 0x03
  | .streamChunk => 0x04
  | .streamClose => 0x05
  | .cancel => 0x08
  | .setAttn => 0x09
  | .queryBatch => 0x0A
  | .createKeyEntry => 0x10
  | .removeEntry => 0x11
  | .swapCell => 0x12
  | .discardCell => 0x13
  | .readEntry => 0x14
  | .createGate => 0x15
  | .bindPort => 0x16
  | .beginCeremony => 0x20
  | .component => 0x21
  | .abandonCeremony => 0x22
  | .openBatch => 0x28
  | .pauseBatch => 0x29
  | .resumeBatch => 0x2A
  | .closeBatch => 0x2B
  | .readMap => 0x2C
  | .zeroiseAll => 0x30
  | .clearLockout => 0x31
  | .status => 0x32

/-- The request a code names; none for an unknown code (R151). -/
def kindOf (code : Byte) : Option ReqKind :=
  match code.toNat with
  | 0x01 => some .derive
  | 0x02 => some .spoil
  | 0x03 => some .streamOpen
  | 0x04 => some .streamChunk
  | 0x05 => some .streamClose
  | 0x08 => some .cancel
  | 0x09 => some .setAttn
  | 0x0A => some .queryBatch
  | 0x10 => some .createKeyEntry
  | 0x11 => some .removeEntry
  | 0x12 => some .swapCell
  | 0x13 => some .discardCell
  | 0x14 => some .readEntry
  | 0x15 => some .createGate
  | 0x16 => some .bindPort
  | 0x20 => some .beginCeremony
  | 0x21 => some .component
  | 0x22 => some .abandonCeremony
  | 0x28 => some .openBatch
  | 0x29 => some .pauseBatch
  | 0x2A => some .resumeBatch
  | 0x2B => some .closeBatch
  | 0x2C => some .readMap
  | 0x30 => some .zeroiseAll
  | 0x31 => some .clearLockout
  | 0x32 => some .status
  | _ => none

/-- The request classes (R39). -/
inductive ReqClass
  | lineOnly | custodyOnly | either
  deriving DecidableEq, Repr

/-- The class of each request (R39). -/
def ReqKind.reqClass : ReqKind → ReqClass
  | .derive => .lineOnly
  | .spoil => .lineOnly
  | .streamOpen => .lineOnly
  | .streamChunk => .lineOnly
  | .streamClose => .lineOnly
  | .cancel => .either
  | .setAttn => .either
  | .queryBatch => .either
  | .createKeyEntry => .custodyOnly
  | .removeEntry => .custodyOnly
  | .swapCell => .custodyOnly
  | .discardCell => .custodyOnly
  | .readEntry => .custodyOnly
  | .createGate => .custodyOnly
  | .bindPort => .custodyOnly
  | .beginCeremony => .custodyOnly
  | .component => .custodyOnly
  | .abandonCeremony => .custodyOnly
  | .openBatch => .custodyOnly
  | .pauseBatch => .custodyOnly
  | .resumeBatch => .custodyOnly
  | .closeBatch => .custodyOnly
  | .readMap => .custodyOnly
  | .zeroiseAll => .custodyOnly
  | .clearLockout => .custodyOnly
  | .status => .custodyOnly

/-- The request-class check (R39). -/
def ReqKind.allowedOn (k : ReqKind) (p : Port) : Bool :=
  match k.reqClass with
  | .lineOnly => p != .cp
  | .custodyOnly => p == .cp
  | .either => true

/-- The body has the length its code requires (Figure 14); a STREAM-CHUNK's follows from its block byte (R151). -/
def ReqKind.lengthOk (k : ReqKind) (body : List Byte) : Bool :=
  let n := body.length
  match k with
  | .derive => n == 10
  | .spoil => n == 5
  | .streamOpen => n == 36
  | .streamChunk => 3 ≤ n && n == 3 + 16 * field body 2
  | .streamClose => n == 2
  | .cancel => n == 1
  | .setAttn => n == 5
  | .queryBatch => n == 1
  | .createKeyEntry => n == 16
  | .removeEntry => n == 1
  | .swapCell => n == 1
  | .discardCell => n == 2
  | .readEntry => n == 1
  | .createGate => n == 16
  | .bindPort => n == 22
  | .beginCeremony => n == 7
  | .component => n == 17
  | .abandonCeremony => n == 0
  | .openBatch => n == 21
  | .pauseBatch => n == 1
  | .resumeBatch => n == 1
  | .closeBatch => n == 1
  | .readMap => n == 3
  | .zeroiseAll => n == 0
  | .clearLockout => n == 0
  | .status => n == 0

/-- The urgent flag has an effect on these requests alone (R142). -/
def ReqKind.mayBeUrgent : ReqKind → Bool
  | .cancel => true
  | .setAttn => true
  | .queryBatch => true
  | .status => true
  | _ => false

/-- A request of this flags byte and code is placed at the top (R142, R171). -/
def placedAtTop (flags code : Byte) : Bool :=
  flags == 0x01 && (match kindOf code with | some k => k.mayBeUrgent | none => false)

/-- The head needs a line slot if admitted: a DERIVE or STREAM-OPEN of a line port (R93). -/
def needsSlot (p : Port) (r : Request) : Bool :=
  p != .cp && (kindOf r.code == some .derive || kindOf r.code == some .streamOpen)

/-- A slot number that a refusal may carry: 0 to 127, else none (R12, R40). -/
def slotNamed (n : Nat) : Option Nat := if n ≤ 127 then some n else none

/-! ### Bodies spelt from their fields (Figure 14) -/

/-- The body of a DERIVE. -/
def deriveBody (batch serial master transport : Nat) (keys : List Nat) : List Byte :=
  [byte batch] ++ beBytes 4 serial ++ [byte master, byte transport] ++ setBytes allKeyIndices keys

/-- The body of a SPOIL. -/
def spoilBody (batch serial : Nat) : List Byte := [byte batch] ++ beBytes 4 serial

/-- The body of a STREAM-OPEN. -/
def streamOpenBody (source destination : Nat) (ivIn ivOut : Block) (count : Nat) : List Byte :=
  [byte source, byte destination] ++ blockBytes ivIn ++ blockBytes ivOut ++ beBytes 2 count

/-- The body of a STREAM-CHUNK. -/
def streamChunkBody (slot : Nat) (seq : Byte) (blocks : List Block) : List Byte :=
  [byte slot, seq, byte blocks.length] ++ blocks.flatMap blockBytes

/-- The body of a CREATE-KEY-ENTRY. -/
def keyEntryBody (slot : Nat) (label : List Byte) (cls : KeyClass) (uses : List KeyUse) (rank : Nat)
    (domain : Option Nat) : List Byte :=
  [byte slot] ++ label ++ [cls.code] ++ setBytes allUses uses ++ [byte rank, optByte domain]

/-- The body of a CREATE-GATE. -/
def gateBody (slot : Nat) (label : List Byte) (target reach : Nat) (uses : List KeyUse) (batch : Option Nat) :
    List Byte :=
  [byte slot] ++ label ++ [byte target, byte reach] ++ setBytes allUses uses ++ [optByte batch]

/-- The body of a BIND-PORT. -/
def bindBody (l : LinePort) (b : Binding) : List Byte :=
  [lineCode l, byte b.rank] ++ setBytes allDomains b.domains ++
    [byte b.base, byte b.count, byte b.weight, byte b.idleLimit]

/-- The body of a BEGIN-CEREMONY. -/
def beginBody (slot : Nat) (cell : CellId) (m : Nat) (expected : Option Check) : List Byte :=
  [byte slot, cell.code, byte m] ++
    (match expected with | none => [0x00, 0, 0, 0] | some c => 0x01 :: checkBytes c)

/-- The body of a COMPONENT. -/
def componentBody (custodian : Nat) (value : Block) : List Byte := byte custodian :: blockBytes value

/-- The body of an OPEN-BATCH. -/
def openBatchBody (batch domain : Nat) (label : List Byte) (first quantity allowance : Nat) : List Byte :=
  [byte batch, byte domain] ++ label ++ beBytes 4 first ++ beBytes 2 quantity ++ [byte allowance]

end Sys2Proof.Machine
end

