-- ==== Sys2Proof/Machine/Batches.lean ====
section
/-! DEFINITION. The shared operations on batch records: reservation, commit, release, thresholds and the drain of a CLOSING
batch (R61 to R63, R68, R72 to R75). -/

namespace Sys2Proof.Machine

/-- Replacements remaining: S - R - r (R70, R71). -/
def Batch.left (b : Batch) : Nat := b.allowance - b.reissued - b.reissueRes

/-- The serial belongs to the batch: F ≤ N ≤ F + Q - 1 (R63). -/
def Batch.holds (b : Batch) (serial : Nat) : Bool := b.first ≤ serial && serial < b.first + b.quantity

/-- The threshold T_k = ceiling(k * Q / 4) (R75). -/
def threshold (q k : Nat) : Nat := (k * q + 3) / 4

/-- The largest k with D ≥ T_k (R75). -/
def levelReached (q d : Nat) : Nat :=
  if threshold q 4 ≤ d then 4
  else if threshold q 3 ≤ d then 3
  else if threshold q 2 ≤ d then 2
  else if threshold q 1 ≤ d then 1
  else 0

/-- The test of a position at a DERIVE admission: its prior state if it can be reserved, else the refusal (R72). -/
def Batch.reserveTest (b : Batch) (pos : Nat) : Except Answer PosState :=
  match b.map[pos]? with
  | some .fresh => .ok .fresh
  | some .spoilt => if b.reissued + b.reissueRes < b.allowance then .ok .spoilt else .error .allowance
  | _ => .error .duplicate

/-- The batch with a position reserved that held `prior` (R72). -/
def Batch.reserve (b : Batch) (pos : Nat) (prior : PosState) : Batch :=
  match prior with
  | .spoilt => { b with map := b.map.set pos .reservedSpoilt, reissueRes := b.reissueRes + 1 }
  | _ => { b with map := b.map.set pos .reservedFresh, freshRes := b.freshRes + 1 }

/-- A CLOSING batch whose f + r is 0 becomes CLOSED, with BATCH_CLOSED (R68). -/
def State.closeIfDrained (s : State) (n : Nat) : State :=
  let b := s.batch n
  if b.state = .closing ∧ b.freshRes + b.reissueRes = 0 then
    (s.setBatch n { b with state := .closed }).notice (.batchClosed n) 0
  else s

/-- The level is tested after a commit that raised D, and BATCH_PROGRESS raised when it rises (R75). -/
def State.testLevel (s : State) (n : Nat) : State :=
  let b := s.batch n
  let k := levelReached b.quantity b.derived
  if b.level < k then (s.setBatch n { b with level := k }).notice (.batchProgress n) k else s

/-- The commit of a reserved position at a derive's completion (R73), then the level (R75), then the close (R68). -/
def State.commitPos (s : State) (n pos : Nat) : State :=
  let b := s.batch n
  match b.map[pos]? with
  | some .reservedFresh =>
    ((s.setBatch n { b with
      map := b.map.set pos .issued, freshRes := b.freshRes - 1, derived := b.derived + 1 }).testLevel n).closeIfDrained n
  | some .reservedSpoilt =>
    (s.setBatch n { b with
      map := b.map.set pos .issued, reissueRes := b.reissueRes - 1, reissued := b.reissued + 1 }).closeIfDrained n
  | _ => s

/-- The release of a reserved position at the end of a derive that does not complete (R74), then the close (R68). -/
def State.releasePos (s : State) (n pos : Nat) : State :=
  let b := s.batch n
  match b.map[pos]? with
  | some .reservedFresh =>
    (s.setBatch n { b with map := b.map.set pos .fresh, freshRes := b.freshRes - 1 }).closeIfDrained n
  | some .reservedSpoilt =>
    (s.setBatch n { b with map := b.map.set pos .spoilt, reissueRes := b.reissueRes - 1 }).closeIfDrained n
  | _ => s

/-- A position after the power-up sweep (R81). -/
def sweptPos : PosState → PosState
  | .reservedFresh => .fresh
  | .reservedSpoilt => .spoilt
  | p => p

/-- A batch after the power-up sweep (R81), apart from its close. -/
def Batch.swept (b : Batch) : Batch :=
  { b with map := b.map.map sweptPos, freshRes := 0, reissueRes := 0 }

/-- An OPEN or PAUSED batch becomes SUSPENDED at a zeroisation (R80). -/
def Batch.suspend (b : Batch) : Batch :=
  if b.state = .opened ∨ b.state = .paused then { b with state := .suspended } else b

end Sys2Proof.Machine
end

