-- ==== Sys2Proof/Machine/Access.lean ====
section
/-! DEFINITION. Refusal records and the access check (R37, R38, R40). -/

namespace Sys2Proof.Machine

/-- A refusal record: code, slot and stage (R40). -/
structure RefusalRec where
  answer : Answer
  slot : Option Nat
  stage : Stage
  deriving DecidableEq, Repr

/-- A refusal without slot and stage (R40). -/
def bare (a : Answer) : RefusalRec := ⟨a, none, .none⟩

/-- A refusal that carries the slot the request named, when it is 0 to 127 (R12, R40). -/
def named (a : Answer) (slot : Nat) : RefusalRec := ⟨a, slotNamed slot, .none⟩

/-- The refusal of the first test that fails, in the order written (R12, R90). -/
def firstFailure : List (Bool × Answer) → Option Answer
  | [] => none
  | (ok, a) :: rest => if ok then firstFailure rest else some a

/-- Slot `r` lies in the window (R27, R37 step 1). -/
def Binding.inWindow (b : Binding) (r : Nat) : Bool := b.base ≤ r && r < b.base + b.count

/-- Steps 5 and 6 of the access check on the resolved key `k` in slot `n`, reached at `stage`, for a request of
binding `bd`, use `u` and batch domain `batchDomain` (R37): the cell that serves, or the refusal. -/
def resolvedCheck (bd : Binding) (u : KeyUse) (batchDomain : Option Nat) (n : Nat) (stage : Stage) (k : KeyEntry) :
    Except RefusalRec (Nat × CellId) :=
  if k.domain.all (bd.domains.contains ·) then
    if u = .derive ∧ k.domain ≠ batchDomain then .error ⟨.domain, some n, stage⟩
    else
      match k.serving with
      | some c => .ok (n, c)
      | none => .error ⟨.cellEmpty, some n, stage⟩
  else .error ⟨.domain, some n, stage⟩

/-- The access check (R37): line port `l` asks use `u` of reference `r`, in a request that names `batch` or none. -/
def State.accessCheck (s : State) (l : LinePort) (r : Nat) (u : KeyUse) (batch : Option Nat) :
    Except RefusalRec (Nat × CellId) :=
  let bd := s.binding l
  let batchDomain := batch.map fun b => (s.batch b).domain
  if bd.inWindow r then
    match s.entry r with
    | .empty => .error ⟨.absent, some r, .direct⟩
    | .gate g =>
      if g.reach < bd.rank then .error ⟨.rank, some r, .direct⟩
      else if u ∉ g.uses then .error ⟨.use, some r, .direct⟩
      else if g.batch.isSome ∧ g.batch ≠ batch then .error ⟨.binding, some r, .direct⟩
      else
        match s.entry g.target with
        | .key k =>
          if u ∈ k.uses then resolvedCheck bd u batchDomain g.target .throughGate k
          else .error ⟨.use, some g.target, .throughGate⟩
        | _ => .error ⟨.gateTarget, some g.target, .throughGate⟩
    | .key k =>
      if k.rank < bd.rank then .error ⟨.rank, some r, .direct⟩
      else if u ∉ k.uses then .error ⟨.use, some r, .direct⟩
      else resolvedCheck bd u batchDomain r .direct k
  else .error ⟨.window, some r, .direct⟩

/-- A batch is in reach of a port: its domain is in the port's domain set; every batch is in reach of the custody port
(R26, R32). -/
def State.inReach (s : State) (p : Port) (b : Batch) : Bool :=
  match p with
  | .cp => true
  | .line l => (s.binding l).domains.contains b.domain

end Sys2Proof.Machine
end

