-- ==== Sys2Proof/Machine/Passes.lean ====
section
/-! DEFINITION. The passes of the Cipher Engine: what each enciphers or deciphers, under which key, and what its result
becomes in the job's context (R102, R118 to R121, R132, R133, R48, R49). -/

namespace Sys2Proof.Machine

/-- The result of a pass (R102). -/
def Pass.result (p : Pass) : Block := if p.deciphers then decipher p.key p.block else encipher p.key p.block

/-- The diversifier block X_k (R118). -/
def diversifier (serial domain k : Nat) : Block :=
  blockOf (beBytes 4 serial ++ (beBytes 4 serial).map (fun b => 255 - b) ++ [byte domain, byte k] ++ List.replicate 6 0)

/-- X_k of the key index that a DERIVE's next pass belongs to, from the batch record as it stands (R118, R120). -/
def State.diversifierOf (s : State) (c : DeriveCtx) : Block :=
  let b := s.batch c.batch
  diversifier (b.first + c.pos) b.domain (c.keys.getD (c.done / 3) 0)

/-- The key value of the `i`-th captured cell of a job (R9). -/
def State.capturedValue (s : State) (j : Job) (i : Nat) : Block :=
  match j.captured[i]? with
  | some (slot, c) => s.cellValue slot c
  | none => 0

/-- The next pass of a DERIVE: derive, check or wrap (R119, R120). -/
def State.derivePass (s : State) (j : Job) (c : DeriveCtx) : Pass :=
  let cardKey := (c.results.getLast?.map CardKey.key).getD 0
  match c.done % 3 with
  | 0 => ⟨false, s.capturedValue j 0, s.diversifierOf c⟩
  | 1 => ⟨false, cardKey, 0⟩
  | _ => ⟨false, s.capturedValue j 1, cardKey⟩

/-- The next pass of a chunk: first its decipherments, then its encipherments (R132). -/
def State.streamPass (s : State) (j : Job) (c : StreamCtx) (ch : Chunk) : Pass :=
  let b := ch.blocks.length
  if ch.done < b then ⟨true, s.capturedValue j 0, ch.blocks.getD ch.done 0⟩
  else ⟨false, s.capturedValue j 1, ch.plain.getD (ch.done - b) 0 ^^^ c.chainOut⟩

/-- The next pass of a CUSTODY job: the all-zero block under the component, or under the running value (R48, R49). -/
def State.custodyPass (s : State) (c : CustodyCtx) : Pass :=
  match c.due with
  | .component => ⟨false, c.value, 0⟩
  | .combination => ⟨false, (s.ceremony.map Ceremony.running).getD 0, 0⟩

/-- The next pass of a job: the key and block that the engine copies when that pass begins (R102, R103). -/
def State.passInput (s : State) (j : Job) : Pass :=
  match j.ctx with
  | .derive c => s.derivePass j c
  | .stream c =>
    match c.inService with
    | some ch => s.streamPass j c ch
    | none => ⟨false, 0, 0⟩
  | .custody c => s.custodyPass c

/-- A DERIVE's context with the result of its next pass written (R119, R121): C_k = Y_k xor X_k, V_k, or W_k. -/
def State.recordDerive (s : State) (c : DeriveCtx) (res : Block) : DeriveCtx :=
  let results :=
    match c.done % 3 with
    | 0 => c.results ++ [⟨c.keys.getD (c.done / 3) 0, res ^^^ s.diversifierOf c, none, none⟩]
    | 1 => c.results.modify (c.results.length - 1) fun k => { k with check := some (firstThree res) }
    | _ => c.results.modify (c.results.length - 1) fun k => { k with wrapped := some res }
  { c with done := c.done + 1, results := results }

/-- A STREAM's context with the result of its next pass written (R132): the plain block and c_in, or the output block
and c_out. -/
def recordStream (c : StreamCtx) (ch : Chunk) (res : Block) : StreamCtx :=
  if ch.done < ch.blocks.length then
    { c with
      chainIn := ch.blocks.getD ch.done 0
      inService := some { ch with done := ch.done + 1, plain := ch.plain ++ [res ^^^ c.chainIn] } }
  else
    { c with
      chainOut := res
      inService := some { ch with done := ch.done + 1, out := ch.out ++ [res] } }

/-- A job with the result of its next pass written into its context (R106, R121, R133). A CUSTODY pass leaves its
result to the grant end (R48, R50). -/
def State.record (s : State) (j : Job) (res : Block) : Job :=
  match j.ctx with
  | .derive c => { j with ctx := .derive (s.recordDerive c res) }
  | .stream c =>
    match c.inService with
    | some ch => { j with ctx := .stream (recordStream c ch res) }
    | none => j
  | .custody _ => j

/-- The results of the next `n` passes of a job; a later pass takes what it needs from the earlier ones (R121). -/
def State.passes (s : State) : Nat → Job → List Block
  | 0, _ => []
  | n + 1, j =>
    let res := (s.passInput j).result
    res :: s.passes n (s.record j res)

/-- A job with held results written into its context in order. -/
def State.recordAll (s : State) (j : Job) (held : List Block) : Job := held.foldl s.record j

/-- The passes of the job's current unit (R85, R105). -/
def Job.unitPasses (j : Job) : Nat :=
  match j.ctx with
  | .derive c => 3 * c.keys.length
  | .stream c => (c.inService.map fun ch => 2 * ch.blocks.length).getD 0
  | .custody _ => 1

/-- The passes done in the job's current unit (R105). -/
def Job.passesDone (j : Job) : Nat :=
  match j.ctx with
  | .derive c => c.done
  | .stream c => (c.inService.map Chunk.done).getD 0
  | .custody _ => 0

/-- The size of the job's next grant (R105). -/
def Job.grantSize (j : Job) : Nat :=
  if j.passesDone % 4 = 0 ∧ j.passesDone + 4 ≤ j.unitPasses then 4 else 1

end Sys2Proof.Machine
end

