-- ==== Sys2Proof/Machine/Arbiter.lean ====
section
/-! DEFINITION. The Engine Arbiter and grant starts (R104, R107 to R110), and the passes of a grant in progress (R103). -/

namespace Sys2Proof.Machine

/-- The job in a slot is WAITING. -/
def State.waitingAt (s : State) (slot : Nat) : Bool :=
  match s.job slot with
  | some j => j.state == .waiting
  | none => false

/-- The slot of the oldest WAITING job on a port's live-job list (R88). DESIGN CHOICE (log 38): R88 and R108 always take this
job, so the derives of one port complete in the order of their admission, where R126 says that a later one can complete
first. -/
def State.oldestWaiting (s : State) (p : Port) : Option Nat := (s.liveOf p).find? s.waitingAt

/-- A grant starts for the job in a slot: it becomes IN_GRANT, a line port's deficit falls by the size, and the engine
becomes BUSY with the working copy of its first pass (R104, R103). -/
def State.startGrant (s : State) (slot : Nat) : State :=
  match s.job slot with
  | none => s
  | some j =>
    let s1 := s.setJob slot (some { j with state := .inGrant })
    let s2 :=
      match j.owner with
      | .cp => s1
      | .line l => s1.setDeficit l (s1.deficit l - j.grantSize)
    { s2 with engine := some { slot := slot, size := j.grantSize, held := [], work := s.passInput j } }

/-- The port's oldest WAITING job, if the port's deficit covers its grant (R108 step 2). -/
def State.coveredJob (s : State) (l : LinePort) : Option Nat :=
  match s.oldestWaiting (.line l) with
  | some slot =>
    match s.job slot with
    | some j => if j.grantSize ≤ s.deficit l then some slot else none
    | none => none
  | none => none

/-- The line port after this one in the rotation (R108). -/
def nextLine : LinePort → LinePort
  | .l0 => .l1
  | .l1 => .l2
  | .l2 => .l3
  | .l3 => .l0

/-- The candidates of the search of R108 step 3: the other three in order, then the port itself. -/
def rotationFrom (l : LinePort) : List LinePort :=
  [nextLine l, nextLine (nextLine l), nextLine (nextLine (nextLine l)), l]

/-- The end of a visit (R108 step 3): the deficit of a port with no WAITING job becomes 0, the pointer moves to the first
port with one, and that port's deficit rises by 4 times its weight. Where no line port has a WAITING job nothing
moves. -/
def State.endVisit (s : State) : State :=
  match (rotationFrom s.pointer).find? (fun l => (s.oldestWaiting (.line l)).isSome) with
  | none => s
  | some l =>
    let s1 := if (s.oldestWaiting (.line s.pointer)).isSome then s else s.setDeficit s.pointer 0
    { s1 with pointer := l }.setDeficit l (s1.deficit l + 4 * (s1.binding l).weight)

/-- The arbiter's decision among the line ports (R108 steps 2 and 3). -/
def State.decideLine (s : State) : State :=
  match s.coveredJob s.pointer with
  | some slot => s.startGrant slot
  | none =>
    let s1 := s.endVisit
    match s1.coveredJob s1.pointer with
    | some slot => s1.startGrant slot
    | none => s1

/-- The arbiter's decision, made when the engine is IDLE; with no job WAITING nothing changes (R108). Custody work goes
first (R109). -/
def State.arbitrate (s : State) : State :=
  match s.engine with
  | some _ => s
  | none => if s.waitingAt Config.custodySlot then s.startGrant Config.custodySlot else s.decideLine

/-- The decision where the event in progress makes it at once; a reset of the port in grant makes it at its own step 4
(R112). -/
def State.arbitrateIf (s : State) (now : Bool) : State := if now then s.arbitrate else s

/-- The engine finishes one pass of the grant in progress, if that is not its last, and copies the key and block of the
next: the last pass is the grant end (R103, R106; log 11). -/
def State.finishPass (s : State) : State :=
  match s.engine with
  | none => s
  | some g =>
    match s.job g.slot with
    | none => s
    | some j =>
      if g.held.length + 1 < g.size then
        let held := g.held ++ [g.work.result]
        { s with engine := some { g with held := held, work := s.passInput (s.recordAll j held) } }
      else s

/-- The results of all passes of a grant: those held, that of the pass in progress, and those of the passes after it
(R103, R106). -/
def State.grantResults (s : State) (j : Job) (g : Grant) : List Block :=
  let held := g.held ++ [g.work.result]
  if g.held.length < g.size then held ++ s.passes (g.size - held.length) (s.recordAll j held) else g.held

end Sys2Proof.Machine
end

