-- ==== Sys2Proof/Machine/Admission.lean ====
section
/-! DEFINITION. How a head is tried (R89 to R92), whatever its own rule. -/

namespace Sys2Proof.Machine

/-- What a request's own rule decides: a refusal, a wait for a resource, or its admission with the state after it. -/
inductive Verdict
  | refuse (x : RefusalRec)
  | wait (w : HeadWait)
  | accept (s : State)

/-- What came of a try of a head. -/
inductive Tried
  | noHead | waits | refused | admitted
  deriving DecidableEq, Repr

/-- The checks that R90 makes on every request, in order: code, class, LOCKOUT, body length. -/
def State.commonRefusal (s : State) (p : Port) (r : Request) : Option Answer :=
  match kindOf r.code with
  | none => some .unknownRequest
  | some k =>
    firstFailure [(k.allowedOn p, .notPermitted), (p == .cp || s.mode != .lockout, .lockout),
      (k.lengthOk r.body, .malformed)]

/-- A request's own response written. -/
def State.answer (s : State) (p : Port) (r : Request) (a : Answer) (body : List Byte) : State :=
  s.respond p (plainResponse r.code r.tag a body)

/-- The head is refused: it leaves the queue, its reserved entry takes the refusal, and the next head is tried (R89,
R91). -/
def State.refuseHead (s : State) (p : Port) (r : Request) (x : RefusalRec) : State :=
  ((s.beginAdmission p).respond p
    { code := r.code, tag := r.tag, answer := x.answer, slot := x.slot, stage := x.stage, body := [] }).addTry p

/-- The head waits. A port whose head needs a line slot and finds none joins the slot wait list; a port whose head needs
no slot leaves it; otherwise the list is as it was (R93 to R95; log 22). -/
def State.headWaits (s : State) (p : Port) (r : Request) (w : HeadWait) : State :=
  let s1 := s.setWait p w
  if w = .mode then s1
  else if needsSlot p r then (if w = .slot then s1.joinWaitList p else s1)
  else s1.leaveWaitList p

/-- The head of port `p` is tried (R89): mode and sweep, then a response entry, then the checks of R90, then its own
rule, which may find a resource lacking (R92). -/
def State.tryWith (own : Port → Request → State → Verdict) (p : Port) (s : State) : Tried × State :=
  match (s.port p).requests with
  | [] => (.noHead, s)
  | r :: _ =>
    if ¬ s.admitting then (.waits, s.headWaits p r .mode)
    else if (s.port p).responsesFull then (.waits, s.headWaits p r .entry)
    else
      match s.commonRefusal p r with
      | some a => (.refused, s.refuseHead p r (bare a))
      | none =>
        match own p r s with
        | .refuse x => (.refused, s.refuseHead p r x)
        | .wait w => (.waits, s.headWaits p r w)
        | .accept s' => (.admitted, s'.addTry p)

/-- The quota and the pool, for a request that would make a line job (R84, R92): the lowest free line slot, or what the
head waits for. -/
def State.lineSlotFor (s : State) (p : Port) : Except HeadWait Nat :=
  if Config.lineQuota ≤ (s.liveOf p).length then .error .quota
  else
    match (List.range Config.lineSlots).find? (fun i => (s.job i).isNone) with
    | some i => .ok i
    | none => .error .slot

/-- A new job takes a slot and joins the tail of its owner's live-job list (R83, R88). -/
def State.placeJob (s : State) (slot : Nat) (j : Job) : State :=
  (s.setJob slot (some j)).setLive j.owner (s.liveOf j.owner ++ [slot])

end Sys2Proof.Machine
end

