-- ==== Sys2Proof/Machine/Derive.lean ====
section
/-! DEFINITION. DERIVE: its admission (R115 to R117) and the response of its completion (R122). -/

namespace Sys2Proof.Machine

/-- The admission of a DERIVE that found its resource, in the order of R117. -/
def State.startDerive (now : Bool) (s : State) (p : Port) (r : Request) (b pos : Nat) (prior : PosState) (keys : List Nat)
    (mk tk : Nat × CellId) (slot : Nat) : State :=
  let s1 := (s.beginAdmission p).setBatch b ((s.batch b).reserve pos prior)
  let s2 := (s1.capture mk.1 mk.2).capture tk.1 tk.2
  let job : Job :=
    { owner := p, tag := r.tag, state := .waiting, captured := [mk, tk], cancelPending := false
      ctx := .derive { batch := b, pos := pos, prior := prior, keys := keys, done := 0, results := [] } }
  (s2.placeJob slot job).arbitrateIf now

/-- DERIVE, steps 4 to 11 of R116. -/
def admitDerive (now : Bool) (p : Port) (r : Request) (s : State) : Verdict :=
  match p, readSet allKeyIndices (slice r.body 7 3) with
  | .line l, some keys =>
    let b := field r.body 0
    let serial := beNat (slice r.body 1 4)
    let m := field r.body 5
    let t := field r.body 6
    let bt := s.batch b
    match firstFailure [(b ≤ 31 && !keys.isEmpty && m ≤ 127 && t ≤ 127, .range), (s.inReach p bt, .domain),
        (bt.state == .opened, .batchState), (bt.holds serial, .outOfBatch)] with
    | some a => .refuse (bare a)
    | none =>
      match s.accessCheck l m .derive (some b) with
      | .error x => .refuse x
      | .ok mk =>
        match s.accessCheck l t .wrap (some b) with
        | .error x => .refuse x
        | .ok tk =>
          match bt.reserveTest (serial - bt.first) with
          | .error a => .refuse (bare a)
          | .ok prior =>
            match s.lineSlotFor p with
            | .error w => .wait w
            | .ok slot => .accept (s.startDerive now p r b (serial - bt.first) prior keys mk tk slot)
  | _, _ => .refuse (bare .range)

/-- The bytes of one key entry of a DERIVE's DONE (R122, Figure 15). -/
def CardKey.bytes (k : CardKey) : List Byte :=
  [byte k.index] ++ blockBytes (k.wrapped.getD 0) ++ checkBytes (k.check.getD 0)

/-- The body of a DERIVE's DONE (R122, Figure 15). -/
def State.deriveDoneBody (s : State) (c : DeriveCtx) : List Byte :=
  [byte c.batch] ++ beBytes 4 ((s.batch c.batch).first + c.pos) ++ [if c.prior = .spoilt then 0x02 else 0x01] ++
    setBytes allKeyIndices c.keys ++ c.results.flatMap CardKey.bytes

end Sys2Proof.Machine
end

