-- ==== Sys2Proof/Machine/StreamOpen.lean ====
section
/-! DEFINITION. STREAM-OPEN: its admission (R127, R128). -/

namespace Sys2Proof.Machine

/-- The admission of a STREAM-OPEN that found its resource, in the order of R128. -/
def State.startStream (s : State) (p : Port) (l : LinePort) (r : Request) (sk dk : Nat × CellId) (ivIn ivOut : Block)
    (n slot : Nat) : State :=
  let s1 := ((s.beginAdmission p).capture sk.1 sk.2).capture dk.1 dk.2
  let seq := s1.seq slot + 1
  let job : Job :=
    { owner := p, tag := r.tag, state := .idle, captured := [sk, dk], cancelPending := false
      ctx := .stream { seq := seq, chainIn := ivIn, chainOut := ivOut, declared := n, done := 0, inService := none,
                       staged := none, idle := some (s.binding l).idleLimit, closing := none } }
  ((s1.placeJob slot job).setSeq slot seq).answer p r .done ([byte slot, seq] ++ beBytes 2 n)

/-- STREAM-OPEN, steps 4 to 7 of R127. -/
def admitStreamOpen (p : Port) (r : Request) (s : State) : Verdict :=
  match p with
  | .cp => .refuse (bare .notPermitted)
  | .line l =>
    let src := field r.body 0
    let dst := field r.body 1
    let n := beNat (slice r.body 34 2)
    match firstFailure [(src ≤ 127 && dst ≤ 127 && 1 ≤ n, .range)] with
    | some a => .refuse (bare a)
    | none =>
      match s.accessCheck l src .decryptIn none with
      | .error x => .refuse x
      | .ok sk =>
        match s.accessCheck l dst .encryptOut none with
        | .error x => .refuse x
        | .ok dk =>
          match s.lineSlotFor p with
          | .error w => .wait w
          | .ok slot =>
            .accept (s.startStream p l r sk dk (blockOf (slice r.body 2 16)) (blockOf (slice r.body 18 16)) n slot)

end Sys2Proof.Machine
end

