-- ==== Sys2Proof/Machine/Jobs.lean ====
section
/-! DEFINITION. The end of a job and the offer of the slot it frees (R94, R98 to R101). -/

namespace Sys2Proof.Machine

/-- The own rule of the requests an offer may admit: those that take a line slot (R93, R94). -/
def admitSlotRequest (now : Bool) (p : Port) (r : Request) (s : State) : Verdict :=
  if kindOf r.code = some .derive then admitDerive now p r s else admitStreamOpen p r s

/-- A freed line slot is offered to the listed ports in list order (R94). -/
def State.offer (now : Bool) : List LinePort → State → State
  | [], s => s
  | l :: ls, s =>
    match (s.port (.line l)).requests with
    | [] => State.offer now ls (s.leaveWaitList (.line l))
    | r :: _ =>
      if needsSlot (.line l) r then
        match s.tryWith (admitSlotRequest now) (.line l) with
        | (.admitted, s') => s'
        | (_, s') => State.offer now ls s'
      else State.offer now ls ((s.leaveWaitList (.line l)).addTry (.line l))

/-- How a job ends (R98, R99): whether its position is committed, whether a drain that ends is noticed, the responses
its end writes, in order, whether the freed slot is offered and heads are tried, and whether an admission by the offer
calls the arbiter at once. -/
structure EndPlan where
  commits : Bool
  loud : Bool
  answers : List Response
  offers : Bool
  now : Bool
  deriving DecidableEq, Repr

/-- Step 1 of R98: a DERIVE's position is committed or released. -/
def State.settlePosition (commits : Bool) (s : State) (j : Job) : State :=
  match j.ctx with
  | .derive c => if commits then s.commitPos c.batch c.pos else s.releasePos c.batch c.pos
  | _ => s

/-- Step 3 of R98: the captured cells are released in list order; a CUSTODY job's pair is no capture (R8). -/
def State.releaseCaptured (loud : Bool) (s : State) (j : Job) : State :=
  match j.ctx with
  | .custody _ => s
  | _ => j.captured.foldl (State.releaseCell loud) s

/-- Step 5 of R98: the context is cleared, the job leaves its owner's live-job list and the slot is freed. -/
def State.freeSlot (s : State) (slot : Nat) (owner : Port) : State :=
  (s.setJob slot none).setLive owner ((s.liveOf owner).filter (· != slot))

/-- Step 6 of R98 and the tries of R89 that a job end causes: a freed line slot is offered; then the owner's head is to
be tried if it waits for its quota or for this stream's staging place, and the custody head if it waits for slot 15. -/
def State.afterFree (now : Bool) (s : State) (slot : Nat) (owner : Port) : State :=
  let s1 := if slot < Config.lineSlots then State.offer now s.waitList s else s.addTryIf .cp .slot15
  (s1.addTryIf owner .quota).addTryIf owner (.staging slot)

/-- The end of the job in a slot, in the order of R98; the ceremony effects of its step 2 are made by the caller, whose
rule names them (R48, R50, R52 to R54, R56, R57). -/
def State.endJob (e : EndPlan) (slot : Nat) (s : State) : State :=
  match s.job slot with
  | none => s
  | some j =>
    let s1 := s.settlePosition e.commits j
    let s2 := s1.releaseCaptured e.loud j
    let s3 := s2.respondAll j.owner e.answers
    let s4 := s3.freeSlot slot j.owner
    if e.offers then s4.afterFree e.now slot j.owner else s4

/-- The responses a live job still owes, each answered `a`: its own, or a stream's chunk in service, staged chunk and
pending STREAM-CLOSE; a deferred ABANDON-CEREMONY follows its job's own (R99, R57). -/
def Job.owed (j : Job) (a : Answer) : List Response :=
  match j.ctx with
  | .derive _ => [plainResponse ReqKind.derive.code j.tag a []]
  | .stream c =>
    (c.inService.toList.map fun ch => plainResponse ReqKind.streamChunk.code ch.tag a []) ++
      (c.staged.toList.map fun ch => plainResponse ReqKind.streamChunk.code ch.tag a []) ++
      (c.closing.toList.map fun t => plainResponse ReqKind.streamClose.code t a [])
  | .custody c =>
    plainResponse ReqKind.component.code j.tag a [] ::
      (c.abandon.toList.map fun t => plainResponse ReqKind.abandonCeremony.code t a [])

/-- The plan of a cancellation, with the responses it writes (R96, R52, R135). -/
def cancelPlan (now : Bool) (answers : List Response) : EndPlan :=
  { commits := false, loud := true, answers := answers, offers := true, now := now }

end Sys2Proof.Machine
end

