-- ==== Sys2Proof/Machine/Streams.lean ====
section
/-! DEFINITION. STREAM-CHUNK, STREAM-CLOSE, the end of a chunk and idle expiry (R129 to R136). -/

namespace Sys2Proof.Machine

/-- The stream a handle names for a port: a live STREAM job of that port in that line slot with that sequence (R129). -/
def State.streamNamed (s : State) (p : Port) (slot : Nat) (seq : Byte) : Option (Job × StreamCtx) :=
  if slot < Config.lineSlots then
    match s.job slot with
    | some j =>
      match j.ctx with
      | .stream c => if j.owner = p ∧ c.seq = seq then some (j, c) else none
      | _ => none
    | none => none
  else none

/-- The blocks a stream has accepted: those done, in service and staged (R130). -/
def StreamCtx.accepted (c : StreamCtx) : Nat :=
  c.done + (c.inService.map fun ch => ch.blocks.length).getD 0 + (c.staged.map fun ch => ch.blocks.length).getD 0

/-- A chunk as it enters the stream: no pass done (R131). -/
def newChunk (tag : Byte) (blocks : List Block) : Chunk := { tag := tag, blocks := blocks, done := 0, plain := [], out := [] }

/-- A chunk placed in its stream at the admission (R131), or the head waits for the staging place. -/
def State.placeChunk (now : Bool) (s : State) (p : Port) (slot : Nat) (j : Job) (c : StreamCtx) (ch : Chunk) : Verdict :=
  if j.state = .idle then
    let c' : StreamCtx := { c with inService := some ch, idle := none }
    .accept (((s.beginAdmission p).setJob slot (some { j with state := .waiting, ctx := .stream c' })).arbitrateIf now)
  else
    match c.staged with
    | none => .accept ((s.beginAdmission p).setJob slot (some { j with ctx := .stream { c with staged := some ch } }))
    | some _ => .wait (.staging slot)

/-- STREAM-CHUNK, steps 4 to 6 of R130, and its placing (R131). -/
def admitStreamChunk (now : Bool) (p : Port) (r : Request) (s : State) : Verdict :=
  let slot := field r.body 0
  let b := field r.body 2
  if 1 ≤ b ∧ b ≤ 4 then
    match s.streamNamed p slot (r.body.getD 1 0) with
    | none => .refuse (bare .streamState)
    | some (j, c) =>
      match firstFailure [(!j.cancelPending, .streamState), (c.accepted + b ≤ c.declared, .overrun)] with
      | some a => .refuse (bare a)
      | none => s.placeChunk now p slot j c (newChunk r.tag (blocksOf b (r.body.drop 3)))
  else .refuse (bare .range)

/-- The DONE of a STREAM-CLOSE: the handle and the blocks done (R135, Figure 15). -/
def closeDone (slot : Nat) (c : StreamCtx) (tag : Byte) : Response :=
  plainResponse ReqKind.streamClose.code tag .done ([byte slot, c.seq] ++ beBytes 2 c.done)

/-- The responses of a stream's close, in order: the chunk in service and the staged chunk CANCELLED, then the
STREAM-CLOSE's DONE (R135). -/
def closeAnswers (slot : Nat) (j : Job) (c : StreamCtx) (tag : Byte) : List Response :=
  Job.owed { j with ctx := .stream { c with closing := none } } .cancelled ++ [closeDone slot c tag]

/-- STREAM-CLOSE (R135). -/
def admitStreamClose (now : Bool) (p : Port) (r : Request) (s : State) : Verdict :=
  let slot := field r.body 0
  match s.streamNamed p slot (r.body.getD 1 0) with
  | none => .refuse (bare .streamState)
  | some (j, c) =>
    if j.cancelPending then .refuse (bare .streamState)
    else if j.state = .inGrant then
      .accept ((s.beginAdmission p).setJob slot
        (some { j with cancelPending := true, ctx := .stream { c with closing := some r.tag } }))
    else .accept ((s.beginAdmission p).endJob (cancelPlan now (closeAnswers slot j c r.tag)) slot)

/-- The body of a chunk's DONE or FINAL: first-block index, block count, output blocks (R134, Figure 15). -/
def chunkBody (first : Nat) (ch : Chunk) : List Byte :=
  beBytes 2 first ++ [byte ch.blocks.length] ++ ch.out.flatMap blockBytes

/-- The stream after the end of a chunk that does not reach the declared count: the staged chunk enters service, or an
idle period begins under the limit now bound (R134 step 3, R136, R31). -/
def nextChunk (limit : Nat) (j : Job) (c : StreamCtx) : Job :=
  match c.staged with
  | some ch => { j with state := .waiting, ctx := .stream { c with inService := some ch, staged := none } }
  | none => { j with state := .idle, ctx := .stream { c with inService := none, idle := some limit } }

/-- The stream idle limit of a port's binding (R27). -/
def State.idleLimitOf (s : State) (p : Port) : Nat :=
  match p with
  | .line l => (s.binding l).idleLimit
  | .cp => 0

/-- The end of a chunk (R134): FINAL and the end of the stream, or DONE and the next chunk or idle period. -/
def State.endChunk (s : State) (slot : Nat) (j : Job) (c : StreamCtx) (ch : Chunk) : State :=
  let done := c.done + ch.blocks.length
  let respond (a : Answer) := plainResponse ReqKind.streamChunk.code ch.tag a (chunkBody c.done ch)
  if done = c.declared then
    s.endJob { commits := false, loud := true, answers := [respond .final], offers := true, now := false } slot
  else
    let s1 := s.respond j.owner (respond .done)
    let s2 := s1.setJob slot (some (nextChunk (s.idleLimitOf j.owner) j { c with done := done }))
    if c.staged.isSome then s2.addTryIf j.owner (.staging slot) else s2

/-- The idle period of the stream in this slot reaches its limit (R136): an IDLE stream whose period has a limit other
than 0 ends without a response. Any other slot has no period that could expire (log 18). -/
def State.expireIdle (s : State) (slot : Nat) : State :=
  match s.job slot with
  | some j =>
    match j.ctx with
    | .stream c =>
      if j.state = .idle ∧ c.idle.any (· ≠ 0) then
        s.endJob { commits := false, loud := true, answers := [], offers := true, now := true } slot
      else s
    | _ => s
  | none => s

end Sys2Proof.Machine
end

