-- ==== Sys2Proof/Machine/KeyTable.lean ====
section
/-! DEFINITION. The custody requests on the Key Table and the bindings (R12 to R19, R28, R30, R34). -/

namespace Sys2Proof.Machine

/-- A request answered DONE at its admission, with the state its effect leaves (R91). -/
def State.answered (s : State) (p : Port) (r : Request) (body : List Byte) (effect : State → State) : Verdict :=
  .accept ((effect (s.beginAdmission p)).answer p r .done body)

/-- The uses a class permits (R3). -/
def KeyClass.permitted : KeyClass → List KeyUse
  | .master => [.derive]
  | .data => [.decryptIn]
  | .transport => [.wrap, .encryptOut]

/-- A uses set that is not empty and within what the class permits (R3, R13). -/
def usesFit (cls : KeyClass) (uses : List KeyUse) : Bool := !uses.isEmpty && uses.all cls.permitted.contains

/-- A domain byte: 0 to 15, or 0xFF where it is absent (R171). -/
def domainOf (b : Nat) : Option Nat := if b = 0xFF then none else some b

/-- A new KEY entry: both cells BLANK, no serving cell (R13). -/
def newKeyEntry (label : List Byte) (cls : KeyClass) (uses : List KeyUse) (rank : Nat) (domain : Option Nat) : KeyEntry :=
  { label := label, cls := cls, uses := uses, rank := rank, domain := domain, cellA := blankCell, cellB := blankCell,
    serving := none }

/-- CREATE-KEY-ENTRY (R13). -/
def admitCreateKeyEntry (p : Port) (r : Request) (s : State) : Verdict :=
  let slot := field r.body 0
  let rank := field r.body 14
  let domain := domainOf (field r.body 15)
  if ¬ slot ≤ 127 then .refuse (named .range slot)
  else
    match classOf (field r.body 9), readSet allUses (slice r.body 10 4) with
    | some cls, some uses =>
      match firstFailure [(usesFit cls uses, .range), (rank ≤ 3, .range), (domain.all (· ≤ 15), .range),
          (domain.isSome || cls == .transport, .range), (s.entry slot == .empty, .occupied)] with
      | some a => .refuse (named a slot)
      | none =>
        s.answered p r [byte slot] fun t =>
          t.setEntry slot (.key (newKeyEntry (slice r.body 1 8) cls uses rank domain))
    | _, _ => .refuse (named .range slot)

/-- Both cells of an entry that is a KEY are BLANK (R14 step 3). -/
def Entry.removable : Entry → Bool
  | .key k => k.cellA.state == .blank && k.cellB.state == .blank
  | _ => true

/-- REMOVE-ENTRY (R14). -/
def admitRemoveEntry (p : Port) (r : Request) (s : State) : Verdict :=
  let slot := field r.body 0
  let e := s.entry slot
  match firstFailure [(slot ≤ 127, .range), (e != .empty, .absent), (e.removable, .cellState)] with
  | some a => .refuse (named a slot)
  | none => s.answered p r [byte slot, e.kindCode] fun t => t.setEntry slot .empty

/-- The cell that leaves service at a swap: DRAINING while jobs hold it, else READY; it keeps its values (R16). -/
def leavesService (x : Cell) : Cell := { x with state := if x.inFlight = 0 then .ready else .draining }

/-- The cell a SWAP-CELL puts into service, if its steps 3 and 4 let it (R16). -/
def KeyEntry.swapTo (k : KeyEntry) : Option CellId :=
  match k.serving with
  | some x => if (k.cell x.other).state = .ready then some x.other else none
  | none => if k.cellA.state = .ready then some .a else if k.cellB.state = .ready then some .b else none

/-- The entry after a SWAP-CELL that puts cell `y` into service (R16). -/
def KeyEntry.swapped (k : KeyEntry) (y : CellId) : KeyEntry :=
  let k1 := k.setCell y { k.cell y with state := .serving }
  let k2 := if k.serving = some y.other then k1.setCell y.other (leavesService (k.cell y.other)) else k1
  { k2 with serving := some y }

/-- The body of a SWAP-CELL's DONE (R16, Figure 15). -/
def swapBody (slot : Nat) (k : KeyEntry) (y : CellId) : List Byte :=
  let other := k.cell y.other
  [byte slot, y.code] ++ checkBytes ((k.cell y).check.getD 0) ++
    [y.other.code, other.state.code, byte other.inFlight]

/-- SWAP-CELL (R16). -/
def admitSwapCell (p : Port) (r : Request) (s : State) : Verdict :=
  let slot := field r.body 0
  if ¬ slot ≤ 127 then .refuse (named .range slot)
  else
    match s.entry slot with
    | .key k =>
      match k.swapTo with
      | some y =>
        s.answered p r (swapBody slot (k.swapped y) y) fun t => t.setEntry slot (.key (k.swapped y))
      | none => .refuse (named .cellState slot)
    | _ => .refuse (named .cellState slot)

/-- DISCARD-CELL (R18). -/
def admitDiscardCell (p : Port) (r : Request) (s : State) : Verdict :=
  let slot := field r.body 0
  match cellOf (field r.body 1) with
  | none => .refuse (named .range slot)
  | some c =>
    if ¬ slot ≤ 127 then .refuse (named .range slot)
    else
      match s.entry slot with
      | .key k =>
        match (k.cell c).state with
        | .ready =>
          s.answered p r ([byte slot, c.code] ++ checkBytes ((k.cell c).check.getD 0)) fun t =>
            t.setEntry slot (.key (k.setCell c blankCell))
        | .draining => .refuse (named .busy slot)
        | .forming => .refuse (named .ceremonyState slot)
        | .serving => .refuse (named .cellState slot)
        | .blank => .refuse (named .cellState slot)
      | _ => .refuse (named .cellState slot)

/-- A cell as READ-ENTRY returns it: a check value that does not exist is sent as zeros (R19, R173). -/
def Cell.bytes (x : Cell) : List Byte := [x.state.code] ++ checkBytes (x.check.getD 0) ++ [byte x.inFlight]

/-- The body of a READ-ENTRY's DONE (R19, R33, Figure 15). -/
def entryBody (slot : Nat) (e : Entry) : List Byte :=
  [byte slot, e.kindCode] ++
    match e with
    | .empty => []
    | .key k =>
      k.label ++ [k.cls.code] ++ setBytes allUses k.uses ++ [byte k.rank, optByte k.domain] ++
        [(k.serving.map CellId.code).getD 0xFF] ++ k.cellA.bytes ++ k.cellB.bytes
    | .gate g => g.label ++ [byte g.target, byte g.reach] ++ setBytes allUses g.uses ++ [optByte g.batch]

/-- READ-ENTRY (R19). -/
def admitReadEntry (p : Port) (r : Request) (s : State) : Verdict :=
  let slot := field r.body 0
  if ¬ slot ≤ 127 then .refuse (named .range slot) else s.answered p r (entryBody slot (s.entry slot)) id

/-- CREATE-GATE (R34). -/
def admitCreateGate (p : Port) (r : Request) (s : State) : Verdict :=
  let slot := field r.body 0
  let target := field r.body 9
  let reach := field r.body 10
  let batch := domainOf (field r.body 15)
  match readSet allUses (slice r.body 11 4) with
  | none => .refuse (named .range slot)
  | some uses =>
    match firstFailure [(slot ≤ 127 && target ≤ 127 && reach ≤ 3 && !uses.isEmpty && batch.all (· ≤ 31), .range),
        (s.entry slot == .empty, .occupied)] with
    | some a => .refuse (named a slot)
    | none =>
      match s.entry target with
      | .key _ =>
        s.answered p r [byte slot, byte target] fun t =>
          t.setEntry slot (.gate { label := slice r.body 1 8, target := target, reach := reach, uses := uses, batch := batch })
      | _ => .refuse (named .gateTarget target)

/-- The highest deficit a weight allows: 4 times it plus 3 (R30, R110). -/
def deficitBound (weight : Nat) : Nat := 4 * weight + 3

/-- The binding that a BIND-PORT's fields spell, if they are in range (R28). DESIGN CHOICE (log 32): an idle limit of 0xFF
is the number 255 that R27 and R28 allow, not R171's absent value. -/
def readBinding (body : List Byte) : Option Binding :=
  match readSet allDomains (slice body 2 16) with
  | none => none
  | some domains =>
    let b : Binding := { rank := field body 1, domains := domains, base := field body 18, count := field body 19,
                         weight := field body 20, idleLimit := field body 21 }
    if 1 ≤ b.rank ∧ b.rank ≤ 3 ∧ b.base ≤ 127 ∧ b.count ≤ 128 ∧ b.base + b.count ≤ 128 ∧ 1 ≤ b.weight ∧ b.weight ≤ 8
    then some b else none

/-- The binding replaced as a whole, and the deficit clamped to the new weight's bound (R28, R30). -/
def State.bind (s : State) (l : LinePort) (b : Binding) : State :=
  (s.setBinding l b).setDeficit l (min (s.deficit l) (deficitBound b.weight))

/-- BIND-PORT (R28). Its refusal carries no slot and no stage. -/
def admitBindPort (p : Port) (r : Request) (s : State) : Verdict :=
  match lineOf (field r.body 0), readBinding r.body with
  | some l, some b =>
    s.answered p r (bindBody l b ++ [byte (min (s.deficit l) (deficitBound b.weight))]) fun t => t.bind l b
  | _, _ => .refuse (bare .range)

end Sys2Proof.Machine
end

