-- ==== Sys2Proof/Machine/Ceremony.lean ====
section
/-! DEFINITION. The ceremony requests and the grant ends of a CUSTODY job (R43 to R55). -/

namespace Sys2Proof.Machine

/-- The ceremony record replaced by an open one. -/
def State.setCeremony (s : State) (c : Ceremony) : State := { s with ceremony := some c }

/-- The ceremony record as BEGIN-CEREMONY opens it (R45). -/
def newCeremony (slot : Nat) (cell : CellId) (m : Nat) (expected : Option Check) : Ceremony :=
  { combining := false, slot := slot, cell := cell, required := m, expected := expected, received := [], retained := [],
    running := 0 }

/-- The expected check value of a BEGIN-CEREMONY's body: absent, present, or none where the presence byte is neither
0x00 nor 0x01; the value bytes of an absent one are not tested (R45, R171, R173). -/
def expectedOf (body : List Byte) : Option (Option Check) :=
  match field body 3 with
  | 0 => some none
  | 1 => some (some (BitVec.ofNat 24 (beNat (slice body 4 3))))
  | _ => none

/-- BEGIN-CEREMONY (R45). -/
def admitBeginCeremony (p : Port) (r : Request) (s : State) : Verdict :=
  let slot := field r.body 0
  let m := field r.body 2
  match cellOf (field r.body 1) with
  | none => .refuse (named .range slot)
  | some c =>
    match firstFailure [(slot ≤ 127, .range), (s.ceremony.isNone, .ceremonyState)] with
    | some a => .refuse (named a slot)
    | none =>
      match s.entry slot with
      | .key k =>
        match firstFailure [((k.cell c).state == .blank, .cellState), (2 ≤ m && m ≤ 5, .range)] with
        | some a => .refuse (named a slot)
        | none =>
          match expectedOf r.body with
          | none => .refuse (named .range slot)
          | some expected =>
            s.answered p r [byte slot, c.code, byte m, if expected.isSome then 0x01 else 0x00] fun t =>
              (t.setEntry slot (.key (k.setCell c { blankCell with state := .forming }))).setCeremony
                (newCeremony slot c m expected)
      | _ => .refuse (named .absent slot)

/-- The job a COMPONENT becomes (R47). -/
def custodyJob (p : Port) (tag : Byte) (cer : Ceremony) (custodian : Nat) (value : Block) : Job :=
  { owner := p, tag := tag, state := .waiting, captured := [(cer.slot, cer.cell)], cancelPending := false
    ctx := .custody { custodian := custodian, value := value, due := .component, abandon := none } }

/-- COMPONENT: the four checks of R46, then slot 15, then the CUSTODY job of R47. -/
def admitComponent (now : Bool) (p : Port) (r : Request) (s : State) : Verdict :=
  let custodian := field r.body 0
  let value := blockOf (slice r.body 1 16)
  match s.ceremony with
  | none => .refuse (bare .ceremonyState)
  | some cer =>
    match firstFailure [(!cer.combining, .ceremonyState), (1 ≤ custodian && custodian ≤ 15, .range),
        (cer.received.all (·.1 != custodian), .duplicateCustodian),
        (value != 0 && !cer.retained.contains value, .weakComponent)] with
    | some a => .refuse (bare a)
    | none =>
      match s.job Config.custodySlot with
      | some _ => .wait .slot15
      | none =>
        .accept (((s.beginAdmission p).placeJob Config.custodySlot (custodyJob p r.tag cer custodian value)).arbitrateIf now)

/-- The CUSTODY job that is live in slot 15, if any. -/
def State.custodyJobLive (s : State) : Option (Job × CustodyCtx) :=
  match s.job Config.custodySlot with
  | some j =>
    match j.ctx with
    | .custody c => some (j, c)
    | _ => none
  | none => none

/-- The DONE of an ABANDON-CEREMONY: target slot and cell, list length at the close (R52, Figure 15). -/
def abandonBody (cer : Ceremony) : List Byte := [byte cer.slot, cer.cell.code, byte cer.received.length]

/-- ABANDON-CEREMONY (R52, R53). -/
def admitAbandonCeremony (now : Bool) (p : Port) (r : Request) (s : State) : Verdict :=
  match s.ceremony with
  | none => .refuse (bare .ceremonyState)
  | some cer =>
    let s1 := s.beginAdmission p
    match s.custodyJobLive with
    | none => .accept (s1.closeCeremony.answer p r .done (abandonBody cer))
    | some (j, c) =>
      if j.cancelPending then .refuse (bare .ceremonyState)
      else if j.state = .inGrant then
        .accept (s1.setJob Config.custodySlot
          (some { j with cancelPending := true, ctx := .custody { c with abandon := some r.tag } }))
      else
        let s2 := s1.endJob (cancelPlan now [plainResponse ReqKind.component.code j.tag .cancelled []]) Config.custodySlot
        .accept (s2.closeCeremony.answer p r .done (abandonBody cer))

/-- The body of a COMPONENT's DONE (R48, R50, Figure 15). -/
def componentDone (custodian : Nat) (check : Check) (length m : Nat) (result : Combination) (combined : Check) :
    List Byte :=
  [byte custodian] ++ checkBytes check ++ [byte length, byte m, result.code] ++ checkBytes combined

/-- The plan of a CUSTODY job's end by completion. -/
def componentPlan (tag : Byte) (body : List Byte) : EndPlan :=
  { commits := false, loud := true, answers := [plainResponse ReqKind.component.code tag .done body], offers := true,
    now := false }

/-- The record with a component joined (R48). -/
def Ceremony.join (cer : Ceremony) (custodian : Nat) (check : Check) (value : Block) : Ceremony :=
  { cer with
    received := cer.received ++ [(custodian, check)]
    retained := cer.retained ++ [value]
    running := cer.running ^^^ value }

/-- The end of a component pass whose cancel-pending flag is clear (R48); `res` is the pass's result. -/
def State.endComponentPass (s : State) (j : Job) (c : CustodyCtx) (cer : Ceremony) (res : Block) : State :=
  let check := firstThree res
  let cer' := cer.join c.custodian check c.value
  if cer'.received.length < cer.required then
    (s.setCeremony cer').endJob
      (componentPlan j.tag (componentDone c.custodian check cer'.received.length cer.required .none 0)) Config.custodySlot
  else
    (s.setCeremony { cer' with combining := true }).setJob Config.custodySlot
      (some { j with state := .waiting, ctx := .custody { c with due := .combination } })

/-- The result of a combination whose combined check value is `combined` (R50). -/
def Ceremony.result (cer : Ceremony) (combined : Check) : Combination :=
  if cer.running = 0 then .weakKey
  else if cer.expected.any (· ≠ combined) then .kcvMismatch
  else .loaded

/-- The target cell after a combination (R50). -/
def Ceremony.targetCell (cer : Ceremony) (combined : Check) : Cell :=
  match cer.result combined with
  | .loaded => { state := .ready, value := some cer.running, check := some combined, inFlight := 0 }
  | _ => blankCell

/-- The end of a combination pass whose cancel-pending flag is clear (R50). The component's own check value is the last
item of the received list. -/
def State.endCombinationPass (s : State) (j : Job) (c : CustodyCtx) (cer : Ceremony) (res : Block) : State :=
  let combined := firstThree res
  let result := cer.result combined
  let own := (cer.received.getLast?.map Prod.snd).getD 0
  let s1 := s.modCell cer.slot cer.cell fun _ => cer.targetCell combined
  { s1 with ceremony := none }.endJob
    (componentPlan j.tag (componentDone c.custodian own cer.received.length cer.required result
      (if result = Combination.weakKey then 0 else combined))) Config.custodySlot

/-- The grant end of a CUSTODY job with its cancel-pending flag set: by a deferred ABANDON-CEREMONY (R53), or by a
CANCEL, which closes the record only at a combination pass (R54). -/
def State.endCancelledCustody (s : State) (j : Job) (c : CustodyCtx) : State :=
  let s1 := s.endJob (cancelPlan false [plainResponse ReqKind.component.code j.tag .cancelled []]) Config.custodySlot
  match c.abandon, s.ceremony with
  | some tag, some cer =>
    s1.closeCeremony.respond j.owner (plainResponse ReqKind.abandonCeremony.code tag .done (abandonBody cer))
  | _, _ => if c.due = .combination then s1.closeCeremony else s1

end Sys2Proof.Machine
end

