-- ==== Sys2Proof/Machine/BatchRequests.lean ====
section
/-! DEFINITION. The batch requests of the custody console and SPOIL and QUERY-BATCH (R60, R64 to R67, R69 to R71). -/

namespace Sys2Proof.Machine

/-- The highest card serial (R64). -/
def maxSerial : Nat := 4294967295

/-- A batch at the start of a run: every position FRESH, every count 0 (R64). -/
def newRun (domain : Nat) (label : List Byte) (first quantity allowance : Nat) : Batch :=
  { state := .opened, domain := domain, label := label, first := first, quantity := quantity, allowance := allowance,
    derived := 0, reissued := 0, freshRes := 0, reissueRes := 0, level := 0, map := List.replicate quantity .fresh }

/-- OPEN-BATCH (R64). DESIGN CHOICE (log 32): an allowance byte of 0xFF is the 255 of R64 step 5, and not a value that R171 refuses
RANGE in a field that is not optional. -/
def admitOpenBatch (p : Port) (r : Request) (s : State) : Verdict :=
  let n := field r.body 0
  let domain := field r.body 1
  let first := beNat (slice r.body 14 4)
  let quantity := beNat (slice r.body 18 2)
  let allowance := field r.body 20
  let st := (s.batch n).state
  match firstFailure [(n ≤ 31, .range), (st == .unused || st == .closed, .batchState), (domain ≤ 15, .range),
      (1 ≤ quantity && quantity ≤ 8192, .range), (allowance ≤ 255, .range),
      (first + quantity ≤ maxSerial + 1, .range)] with
  | some a => .refuse (bare a)
  | none =>
    s.answered p r
      ([byte n, BatchState.opened.code] ++ beBytes 4 first ++ beBytes 2 quantity ++ beBytes 4 (first + quantity - 1) ++
        [byte allowance])
      fun t => t.setBatch n (newRun domain (slice r.body 2 12) first quantity allowance)

/-- PAUSE-BATCH (R65). -/
def admitPauseBatch (p : Port) (r : Request) (s : State) : Verdict :=
  let n := field r.body 0
  let b := s.batch n
  match firstFailure [(n ≤ 31, .range), (b.state == .opened, .batchState)] with
  | some a => .refuse (bare a)
  | none =>
    s.answered p r [byte n, BatchState.paused.code, byte b.freshRes, byte b.reissueRes] fun t =>
      t.setBatch n { b with state := .paused }

/-- RESUME-BATCH (R66). -/
def admitResumeBatch (p : Port) (r : Request) (s : State) : Verdict :=
  let n := field r.body 0
  let b := s.batch n
  match firstFailure [(n ≤ 31, .range), (b.state == .paused || b.state == .suspended, .batchState)] with
  | some a => .refuse (bare a)
  | none =>
    s.answered p r [byte n, BatchState.opened.code] fun t => t.setBatch n { b with state := .opened }

/-- CLOSE-BATCH (R67): CLOSING while reservations are held, else CLOSED at once with BATCH_CLOSED. -/
def admitCloseBatch (p : Port) (r : Request) (s : State) : Verdict :=
  let n := field r.body 0
  let b := s.batch n
  match firstFailure [(n ≤ 31, .range),
      (b.state == .opened || b.state == .paused || b.state == .suspended, .batchState)] with
  | some a => .refuse (bare a)
  | none =>
    let st : BatchState := if 0 < b.freshRes + b.reissueRes then .closing else .closed
    s.answered p r [byte n, st.code, byte b.freshRes, byte b.reissueRes] fun t =>
      let t1 := t.setBatch n { b with state := st }
      if st = .closed then t1.notice (.batchClosed n) 0 else t1

/-- READ-MAP (R69). -/
def admitReadMap (p : Port) (r : Request) (s : State) : Verdict :=
  let n := field r.body 0
  let p0 := beNat (slice r.body 1 2)
  let b := s.batch n
  match firstFailure [(n ≤ 31, .range), (b.state != .unused, .batchState), (p0 < b.quantity, .range)] with
  | some a => .refuse (bare a)
  | none =>
    let count := min Config.mapRun (b.quantity - p0)
    s.answered p r
      ([byte n] ++ b.label ++ beBytes 2 p0 ++ [byte count] ++ ((b.map.drop p0).take count).map PosState.code) id

/-- QUERY-BATCH (R70). -/
def admitQueryBatch (p : Port) (r : Request) (s : State) : Verdict :=
  let n := field r.body 0
  let b := s.batch n
  match firstFailure [(n ≤ 31, .range), (s.inReach p b, .domain)] with
  | some a => .refuse (bare a)
  | none =>
    s.answered p r
      ([byte n, b.state.code, byte b.domain] ++ beBytes 4 b.first ++ beBytes 2 b.quantity ++ beBytes 2 b.derived ++
        [byte b.reissued, byte b.allowance, byte b.freshRes, byte b.reissueRes, byte b.level]) id

/-- SPOIL (R71). -/
def admitSpoil (p : Port) (r : Request) (s : State) : Verdict :=
  let n := field r.body 0
  let serial := beNat (slice r.body 1 4)
  let b := s.batch n
  let pos := serial - b.first
  match firstFailure [(n ≤ 31, .range), (s.inReach p b, .domain),
      (b.state == .opened || b.state == .paused, .batchState), (b.holds serial, .outOfBatch),
      (b.map[pos]? == some .issued, .notIssued)] with
  | some a => .refuse (bare a)
  | none =>
    s.answered p r ([byte n] ++ beBytes 4 serial ++ beBytes 2 pos ++ [byte b.left]) fun t =>
      t.setBatch n { b with map := b.map.set pos .spoilt }

end Sys2Proof.Machine
end

