-- ==== Sys2Proof/Machine/PortRequests.lean ====
section
/-! DEFINITION. CANCEL, SET-ATTN and STATUS (R96, R150, R153). -/

namespace Sys2Proof.Machine

/-- The job in a slot is a DERIVE or CUSTODY job with this creating tag (R96). -/
def State.cancelTarget (s : State) (tag : Byte) (slot : Nat) : Bool :=
  match s.job slot with
  | some j =>
    match j.ctx with
    | .stream _ => false
    | _ => j.tag == tag
  | none => false

/-- The end of a WAITING job by CANCEL (R96); a CUSTODY job due for its combination pass takes the ceremony with it
(R54). No decision is made at that event (R114). -/
def State.cancelWaiting (now : Bool) (s : State) (slot : Nat) (j : Job) : State :=
  match j.ctx with
  | .custody c =>
    let s1 := s.endJob (cancelPlan now (j.owed .cancelled)) slot
    if c.due = .combination then s1.closeCeremony else s1
  | _ => s.endJob (cancelPlan now (j.owed .cancelled)) slot

/-- CANCEL (R96): ACCEPTED is written before the job's CANCELLED. Its port has left the slot wait list before a freed slot is
offered (log 37). -/
def admitCancel (now : Bool) (p : Port) (r : Request) (s : State) : Verdict :=
  let s1 := s.beginAdmission p
  match (s.liveOf p).find? (s.cancelTarget (r.body.getD 0 0)) with
  | none => .accept (s1.answer p r .notFound [])
  | some slot =>
    let s2 := s1.answer p r .accepted []
    match s.job slot with
    | none => .accept s2
    | some j =>
      if j.cancelPending then .accept s2
      else if j.state = .inGrant then .accept (s2.setJob slot (some { j with cancelPending := true }))
      else .accept (s2.cancelWaiting now slot j)

/-- SET-ATTN (R150). -/
def admitSetAttn (p : Port) (r : Request) (s : State) : Verdict :=
  match readSet allConds r.body with
  | none => .refuse (bare .range)
  | some conds =>
    if conds.contains .notice && p != .cp then .refuse (bare .range)
    else s.answered p r (setBytes allConds conds) fun t => t.setPort p { t.port p with attn := conds }

/-- STATUS (R153): the oldest notices, up to 12, are returned and removed. -/
def admitStatus (p : Port) (r : Request) (s : State) : Verdict :=
  let taken := s.notices.take Config.statusNotices
  s.answered p r
    ([s.mode.code] ++ setBytes allCauses s.causes ++ [(s.firstCause.map Cause.code).getD 0xFF, s.battery.code] ++
      beBytes 2 s.notices.length ++ [byte taken.length] ++ taken.flatMap Notice.bytes)
    fun t => { t with notices := t.notices.drop Config.statusNotices }

end Sys2Proof.Machine
end

