-- ==== Sys2Proof/Machine/Tamper.lean ====
section
/-! DEFINITION. The tamper record, the entry to ZEROISING and its end, ZEROISE-ALL and CLEAR-LOCKOUT (R157 to R165). -/

namespace Sys2Proof.Machine

/-- A cause is added to the tamper record (R158). -/
def State.addCause (s : State) (c : Cause) : State :=
  { s with
    causes := allCauses.filter fun x => x == c || s.causes.contains x
    firstCause := if s.causes.isEmpty then some c else s.firstCause }

/-- Every cell of every KEY entry is cleared, and every serving indicator is none (R22, R161). -/
def State.clearCells (s : State) : State := { s with keys := mapVector Entry.zeroised s.keys }

/-- Each OPEN or PAUSED batch becomes SUSPENDED (R80, R160 step 3, R164). -/
def State.suspendBatches (s : State) : State := { s with batches := mapVector Batch.suspend s.batches }

/-- A job ends with TAMPER, without notice of a drain, offer or try (R99, R101, R11). -/
def State.tamperJob (s : State) (slot : Nat) : State :=
  match s.job slot with
  | some j => s.endJob { commits := false, loud := false, answers := j.owed .tamper, offers := false, now := false } slot
  | none => s

/-- Every live job ends with TAMPER in ascending slot order (R101, R160 step 1). -/
def State.tamperJobs (s : State) : State := (List.range 16).foldl State.tamperJob s

/-- The engine and the arbiter after the entry to ZEROISING (R113). -/
def State.clearEngine (s : State) : State :=
  { s with engine := none, deficits := ⟨0, 0, 0, 0⟩, pointer := .l0, waitList := [] }

/-- Zeroise-pending is set, the mode becomes ZEROISING and no read-back attempt has been made (R157, R159). -/
def State.startZeroisation (s : State) : State := { s with zeroisePending := true, mode := .zeroising, zeroRun := some 0 }

/-- The entry to ZEROISING: with the part at work, in the order of R160; on battery alone or with the main reset line
held there is no job or ceremony to end (R164, R169). The clearing belongs to the same event (R11, R22; log 20). -/
def State.enterZeroising (s : State) : State :=
  let s1 := s.startZeroisation
  if s.alive then s1.tamperJobs.clearEngine.closeCeremony.suspendBatches.clearCells
  else s1.suspendBatches.clearCells

/-- The lines are watched: main power is present, or the battery is above the store holding level (R157). -/
def State.watched (s : State) : Bool := s.mainPower || !s.holdingLost

/-- The TAMPER notice of a line, where the notice list exists (R157, R164, R169; with the mode ZEROISING under
the held main reset line log 14). -/
def State.tamperNotice (s : State) (l : TamperLine) : State := if s.alive then s.notice (.tamper l) 0 else s

/-- A tamper event acts by the mode (R157). Where the entry to ZEROISING may close a batch, whether TAMPER or its
BATCH_CLOSED is raised first is a free choice (log 12). -/
def State.takeTamper (s : State) (l : TamperLine) : State :=
  let s1 := s.addCause (.line l)
  if s.mode = .operating ∨ s.mode = .lockout then
    if s.alive && s.batches.toList.any (fun b => b.state == .closing) then
      let s2 := { s1 with choices := s.choices + 1 }
      if Config.tamperNoticeFirst s.choices then (s2.tamperNotice l).enterZeroising else s2.enterZeroising.tamperNotice l
    else (s1.tamperNotice l).enterZeroising
  else s1.tamperNotice l

/-- A tamper event while the power-up sweep runs is held to its end (R168). -/
def State.holdOrTakeTamper (s : State) (l : TamperLine) : State :=
  match s.sweep with
  | .running _ => { s with heldTamper := s.heldTamper ++ [l] }
  | .clearing _ => { s with heldTamper := s.heldTamper ++ [l] }
  | _ => s.takeTamper l

/-- ZEROISE-ALL (R159). -/
def admitZeroiseAll (p : Port) (r : Request) (s : State) : Verdict :=
  .accept { ((s.beginAdmission p).addCause .requested).enterZeroising with zeroTag := some r.tag }

/-- Some tamper line is active. -/
def State.anyLineActive (s : State) : Bool := allTamperLines.any s.tamperPins.get

/-- CLEAR-LOCKOUT (R165). -/
def admitClearLockout (p : Port) (r : Request) (s : State) : Verdict :=
  match firstFailure [(s.mode != .operating, .busy), (!s.anyLineActive, .tamperActive)] with
  | some a => .refuse (bare a)
  | none =>
    match s.answered p r [PartMode.operating.code] fun t =>
      { t with causes := [], firstCause := none, mode := .operating } with
    | .accept t => .accept (t.addTries allPorts)
    | v => v

/-- The response of the ZEROISE-ALL that started the zeroisation, when its entry still stands (R159). -/
def State.answerZeroiseAll (s : State) (reached : PartMode) (attempts : Nat) : State :=
  match s.zeroTag with
  | none => s
  | some tag =>
    { s.respond .cp (plainResponse ReqKind.zeroiseAll.code tag .done [reached.code, byte attempts]) with zeroTag := none }

end Sys2Proof.Machine
end

