-- ==== Sys2Proof/Machine/Admit.lean ====
section
/-! DEFINITION. The try of a head with the own rule of its request (R89, R90), and the tries that one event causes (R89). -/

namespace Sys2Proof.Machine

/-- The own rule of each known request (R90 step 5); `now` says that an admission with the engine IDLE calls the arbiter
at once (R108, R112). -/
def admitKind (now : Bool) (k : ReqKind) (p : Port) (r : Request) (s : State) : Verdict :=
  match k with
  | .derive => admitDerive now p r s
  | .spoil => admitSpoil p r s
  | .streamOpen => admitStreamOpen p r s
  | .streamChunk => admitStreamChunk now p r s
  | .streamClose => admitStreamClose now p r s
  | .cancel => admitCancel now p r s
  | .setAttn => admitSetAttn p r s
  | .queryBatch => admitQueryBatch p r s
  | .createKeyEntry => admitCreateKeyEntry p r s
  | .removeEntry => admitRemoveEntry p r s
  | .swapCell => admitSwapCell p r s
  | .discardCell => admitDiscardCell p r s
  | .readEntry => admitReadEntry p r s
  | .createGate => admitCreateGate p r s
  | .bindPort => admitBindPort p r s
  | .beginCeremony => admitBeginCeremony p r s
  | .component => admitComponent now p r s
  | .abandonCeremony => admitAbandonCeremony now p r s
  | .openBatch => admitOpenBatch p r s
  | .pauseBatch => admitPauseBatch p r s
  | .resumeBatch => admitResumeBatch p r s
  | .closeBatch => admitCloseBatch p r s
  | .readMap => admitReadMap p r s
  | .zeroiseAll => admitZeroiseAll p r s
  | .clearLockout => admitClearLockout p r s
  | .status => admitStatus p r s

/-- The own rule of a head, by its code; an unknown code never comes here (R90 step 1, R151). -/
def admitRequest (now : Bool) (p : Port) (r : Request) (s : State) : Verdict :=
  match kindOf r.code with
  | none => .refuse (bare .unknownRequest)
  | some k => admitKind now k p r s

/-- The head of a port is tried (R89). -/
def State.tryHead (now : Bool) (p : Port) (s : State) : Tried × State := s.tryWith (admitRequest now) p

/-- The ports due for a try that have a head. -/
def State.triesDue (s : State) : List Port := s.tries.filter fun p => !(s.port p).requests.isEmpty

/-- The next head to try: where several are due, a free choice takes one of them (R89 "the tries may be taken in either
order"; log 6). -/
def State.pickTry (s : State) : Option (Port × State) :=
  match s.triesDue with
  | [] => none
  | [p] => some (p, { s with tries := [] })
  | p :: q :: ps =>
    let due := p :: q :: ps
    let chosen := due.getD (Config.orderChoice s.choices % due.length) p
    some (chosen, { s with tries := due.filter (· != chosen), choices := s.choices + 1 })

/-- Heads are tried until none is due. Each try that admits or refuses takes a request from a queue, and each other try
shortens the list, so the number of tries given by `State.tryBound` is enough. -/
def State.settle (now : Bool) : Nat → State → State
  | 0, s => { s with tries := [] }
  | n + 1, s =>
    match s.pickTry with
    | none => { s with tries := [] }
    | some (p, s') => State.settle now n (s'.tryHead now p).2

/-- The placed requests of all ports. -/
def State.placedRequests (s : State) : Nat := (allPorts.map fun p => (s.port p).requests.length).sum

/-- A bound on the tries one event can cause: after each admission or refusal at most the five ports are due. -/
def State.tryBound (s : State) : Nat := 6 * s.placedRequests + s.tries.length + 1

/-- The tries that an event has made due are taken (R89). -/
def State.runTries (now : Bool) (s : State) : State := State.settle now s.tryBound s

end Sys2Proof.Machine
end

