-- ==== Sys2Proof/Machine/Grants.lean ====
section
/-! DEFINITION. The end of a grant (R106). -/

namespace Sys2Proof.Machine

/-- The grant end of a DERIVE: completion when its passes are done, else it waits for its next grant (R122, R106). -/
def State.moveDerive (s : State) (slot : Nat) (j : Job) (c : DeriveCtx) : State :=
  if 3 * c.keys.length ≤ c.done then
    (s.setJob slot (some j)).endJob
      { commits := true, loud := true, offers := true, now := false
        answers := [plainResponse ReqKind.derive.code j.tag .done (s.deriveDoneBody c)] } slot
  else s.setJob slot (some { j with state := .waiting })

/-- The grant end of a STREAM: the end of its chunk, or it waits for its next grant (R134, R106). -/
def State.moveStream (s : State) (slot : Nat) (j : Job) (c : StreamCtx) : State :=
  match c.inService with
  | some ch =>
    if 2 * ch.blocks.length ≤ ch.done then (s.setJob slot (some j)).endChunk slot j c ch
    else s.setJob slot (some { j with state := .waiting })
  | none => s

/-- The grant end of a CUSTODY job (R48, R50). -/
def State.moveCustody (s : State) (j : Job) (c : CustodyCtx) (res : Block) : State :=
  match s.ceremony with
  | none => s.endCancelledCustody j c
  | some cer =>
    match c.due with
    | .component => s.endComponentPass j c cer res
    | .combination => s.endCombinationPass j c cer res

/-- The grant end of a job whose cancel-pending flag is set: its results are discarded and it ends (R96, R53, R54,
R135). -/
def State.endCancelled (s : State) (slot : Nat) (j : Job) : State :=
  match j.ctx with
  | .derive _ => s.endJob (cancelPlan false (j.owed .cancelled)) slot
  | .stream c =>
    match c.closing with
    | some tag => s.endJob (cancelPlan false (closeAnswers slot j c tag)) slot
    | none => s.endJob (cancelPlan false (j.owed .cancelled)) slot
  | .custody c => s.endCancelledCustody j c

/-- Steps 1 and 2 of R106: results to the context and job movement, or the end of a cancelled job. -/
def State.moveJob (s : State) (j : Job) (g : Grant) : State :=
  if j.cancelPending then s.endCancelled g.slot j
  else
    let results := s.grantResults j g
    let j' := s.recordAll j results
    match j'.ctx with
    | .derive c => s.moveDerive g.slot j' c
    | .stream c => s.moveStream g.slot j' c
    | .custody c => s.moveCustody j' c (results.getLast?.getD 0)

/-- The end of the grant in progress (R106): results, job movement with its tries (log 7), engine free, arbitration.
With the engine IDLE there is no grant to end (log 18). DESIGN CHOICE (log 36): a component
pass that completes the list has its combination pass granted here, by step 4 and R109, so that a later ABANDON-CEREMONY
or CANCEL finds the job IN_GRANT, where row 3 of R55 has it WAITING. -/
def State.endGrant (s : State) : State :=
  match s.engine with
  | none => s
  | some g =>
    let s1 :=
      match s.job g.slot with
      | some j => (s.moveJob j g).runTries false
      | none => s
    { s1 with engine := none }.arbitrate

end Sys2Proof.Machine
end

