-- ==== Sys2Proof/Machine/Link.lean ====
section
/-! DEFINITION. The link of a port: frames, their bytes, and how they end (R140 to R148). -/

namespace Sys2Proof.Machine

/-- The frame becomes FETCHING at the code byte: a reserved request entry is given back, and the status header and the
oldest response are taken as they stand (R141, R147). -/
def State.startFetch (s : State) (p : Port) : State :=
  let u := s.port p
  let response := (u.occupied.head?.map Response.bytes).getD []
  s.setPort p { u with frame := .fetching (s.statusHeader p) response 0, fetched := [] }

/-- A byte is clocked out of a fetch frame (R147, R148): header, response, then zeros. The fourth byte clears the link
fault record; the last byte of the response removes it, and the head is tried if it waits for a response entry. -/
def State.fetchByte (s : State) (p : Port) (header response : List Byte) (sent : Nat) : State :=
  let u := s.port p
  let u1 : PortUnit :=
    { u with
      frame := .fetching header response (sent + 1)
      fetched := u.fetched ++ [(header ++ response).getD sent 0]
      fault := if sent + 1 = 4 then .none else u.fault }
  if ¬ response.isEmpty ∧ sent + 1 = 4 + response.length then
    (s.setPort p { u1 with occupied := u1.occupied.tail }).addTryIf p .entry
  else s.setPort p u1

/-- A whole byte is clocked on the link of a port (R140, R141, R147). -/
def State.clockByte (p : Port) (s : State) (b : Byte) : State :=
  let u := s.port p
  match u.frame with
  | .none => s
  | .placing [] => if b = 0x0F then s.startFetch p else s.setPort p { u with frame := .placing [b] }
  | .placing (g :: got) => s.setPort p { u with frame := .placing (g :: got ++ [b]) }
  | .unplaced =>
    if b = 0x0F then s.startFetch p
    else s.setPort p { u.recordFault .startWhileFull with frame := .ignored }
  | .ignored => s
  | .fetching header response sent => s.fetchByte p header response sent

/-- Bytes clocked in order. -/
def State.clockBytes (s : State) (p : Port) (bytes : List Byte) : State := bytes.foldl (State.clockByte p) s

/-- Frame select falls (R141): the frame reserves a request entry, or is unplaced; a link that takes no frames ignores it
(R154, R155). Where frame select is already low there is no fall (log 18). -/
def State.selectFalls (s : State) (p : Port) : State :=
  let u := s.port p
  if u.selectLow then s
  else
    s.setPort p { u with
      selectLow := true
      frame := if s.linkTakes p then (if u.entryFree then .placing [] else .unplaced) else .none }

/-- A placed request joins the tail of the queue, or goes to the top; the head is tried when it is the request placed
(R142, R89). -/
def State.placeRequest (s : State) (p : Port) (flags : Byte) (r : Request) : State :=
  let u := s.port p
  if placedAtTop flags r.code then
    (s.setPort p { u with requests := r :: u.requests, wait := .none }).addTry p
  else if u.requests.isEmpty then (s.setPort p { u with requests := [r], wait := .none }).addTry p
  else s.setPort p { u with requests := u.requests ++ [r] }

/-- The bytes of a PLACING frame at its end (R142): a request to place, or none for a frame that is discarded. -/
def frameRequest (got : List Byte) : Option (Byte × Request) :=
  match got with
  | code :: flags :: tag :: len :: body =>
    if len.toNat ≤ Config.maxBody ∧ body.length = len.toNat then some (flags, ⟨code, tag, body⟩) else none
  | _ => none

/-- Frame select rises: the frame in progress ends (R141, R142, R148). -/
def State.selectRises (s : State) (p : Port) : State :=
  let u := s.port p
  let s1 := s.setPort p { u with frame := .none, selectLow := false }
  match u.frame with
  | .placing got =>
    match frameRequest got with
    | some (flags, r) => s1.placeRequest p flags r
    | none => s1.setPort p ((s1.port p).recordFault .frameLength)
  | .unplaced => s1.setPort p ((s1.port p).recordFault .startWhileFull)
  | _ => s1

/-- The frame timeout (R143); frame select stays low. -/
def State.timesOut (s : State) (p : Port) : State :=
  let u := s.port p
  let s1 := s.setPort p { u with frame := .none }
  match u.frame with
  | .placing _ => s1.setPort p ((s1.port p).recordFault .frameTimeout)
  | .fetching _ _ _ => s1.setPort p ((s1.port p).recordFault .frameTimeout)
  | .unplaced => s1.setPort p ((s1.port p).recordFault .startWhileFull)
  | _ => s1

/-- A frame in which the code 0x0F can be, or has been, the first byte: no frame, one whose first byte is still to come,
or a fetch frame. -/
def Frame.mayFetch : Frame → Bool
  | .none => true
  | .placing got => got.isEmpty
  | .unplaced => true
  | .ignored => false
  | .fetching _ _ _ => true

/-- The frame is a fetch frame already. -/
def Frame.isFetching : Frame → Bool
  | .fetching _ _ _ => true
  | _ => false

/-- A fetch frame (R147): started if frame select is high, its code byte clocked if it is still to come, then `clocked`
bytes; frame select then rises if `ended`. A link in the middle of a request frame carries no fetch frame (log 18). -/
def State.fetch (s : State) (p : Port) (clocked : Nat) (ended : Bool) : State :=
  if (s.port p).frame.mayFetch then
    let s1 := s.selectFalls p
    let code : List Byte := if (s1.port p).frame.isFetching then [] else [0x0F]
    let s2 := s1.clockBytes p (code ++ List.replicate clocked 0)
    if ended then s2.selectRises p else s2
  else s

/-- The bytes of a request frame (Figure 11). -/
def frameBytes (code flags tag : Byte) (body : List Byte) : List Byte := [code, flags, tag, byte body.length] ++ body

/-- A whole request frame: its start, its bytes and its end (R141, R142), then the tries of heads it causes (R89). Every
request command is this with its own code (log 2). -/
def State.deliver (s : State) (p : Port) (code flags tag : Byte) (body : List Byte) : State :=
  (((s.selectFalls p).clockBytes p (frameBytes code flags tag body)).selectRises p).runTries true

/-- FRAME_START (R141). -/
def execFrameStart (p : Port) (bytes : List Byte) (s : State) : Host.Outcome State Fault Refusal :=
  .next (((s.selectFalls p).clockBytes p bytes).runTries true)

/-- The tries that a frame end at port `p` causes (R89). A frame end may meet a reset of its port: the placed request is then
neither admitted nor answered, and the reset discards it (R154). Where that reset is the next command, whether the two meet
is a free choice (log 39). -/
def State.triesAtFrameEnd (s : State) (p : Port) : State :=
  if s.pending.head? = some (.portReset p) ∧ s.linkTakes p ∧ p ∈ s.tries then
    let s1 := { s with choices := s.choices + 1 }
    if Config.resetMeets s.choices then { s1 with tries := s.tries.filter (· != p) }.runTries true else s1.runTries true
  else s.runTries true

/-- FRAME_END (R142, R154). -/
def execFrameEnd (p : Port) (bytes : List Byte) (s : State) : Host.Outcome State Fault Refusal :=
  .next (((s.clockBytes p bytes).selectRises p).triesAtFrameEnd p)

/-- FETCH_FRAME (R147, R148). -/
def execFetchFrame (p : Port) (clocked : Nat) (ended : Bool) (s : State) : Host.Outcome State Fault Refusal :=
  .next ((s.fetch p clocked ended).runTries true)

/-- FRAME_TIMEOUT (R143). -/
def execFrameTimeout (p : Port) (bytes : List Byte) (s : State) : Host.Outcome State Fault Refusal :=
  .next (((s.clockBytes p bytes).timesOut p).runTries true)

end Sys2Proof.Machine
end

