-- ==== Sys2Proof/Machine/Power.lean ====
section
/-! DEFINITION. The events that no request brings: port resets, tamper, read-back, battery, power, main reset and the
power-up sweep (R154 to R170), and the grant end and idle expiry as commands (R106, R136). -/

namespace Sys2Proof.Machine

/-! ### Port reset (R100, R112, R154) -/

/-- The grant in progress belongs to a job of this port (R112). -/
def State.grantOwnedBy (s : State) (p : Port) : Bool :=
  match s.engine with
  | some g =>
    match s.job g.slot with
    | some j => j.owner == p
    | none => false
  | none => false

/-- A port unit at the assertion of its reset input (R154 steps 1, 3, 4, 5): nothing in its queues, its link fault record
and enable set at their start values, data out low. -/
def PortUnit.resetValues (u : PortUnit) : PortUnit := { freshUnit with selectLow := u.selectLow, resetIn := true }

/-- The plan of a job end by a reset of the owning port (R99, R100). -/
def resetPlan (now : Bool) : EndPlan := { commits := false, loud := true, answers := [], offers := true, now := now }

/-- A port's live jobs end in list order without a response (R100). -/
def State.endJobsOf (now : Bool) (s : State) (p : Port) : State :=
  (s.liveOf p).foldl (fun t slot => t.endJob (resetPlan now) slot) s

/-- What a port reset does besides to its own port: a line port's deficit becomes 0 (R154 step 6), the custody port's
ceremony closes and the response of its ZEROISE-ALL is dropped (R56, R154 steps 4 and 7). -/
def State.resetRest (s : State) (p : Port) : State :=
  match p with
  | .cp => { s.closeCeremony with zeroTag := none }
  | .line l => s.setDeficit l 0

/-- The port reset event (R154). An abandoned grant is gone first, and the arbitration it leaves comes last (R112;
log 8). Without one, an admission by an offer calls the arbiter at once, but not while a job of the port is WAITING: the engine
is then BUSY (R108) and no decision is made, and no grant is ever started for a job about to end. The queue is empty
before the jobs end (log 13). -/
def State.resetPort (s : State) (p : Port) : State :=
  let owned := s.grantOwnedBy p
  let now := !owned && !(s.liveOf p).any s.waitingAt
  let s1 := (s.setPort p (s.port p).resetValues).leaveWaitList p
  let s2 := if owned then { s1 with engine := none } else s1
  let s3 := ((s2.endJobsOf now p).resetRest p).runTries now
  if owned then s3.arbitrate else s3

/-- PORT_RESET (R154). An input already asserted is asserted no more (log 18); without main power, or with the main reset
line held, only the pin changes. -/
def execPortReset (p : Port) (s : State) : Host.Outcome State Fault Refusal :=
  .next (if (s.port p).resetIn then s
    else if s.alive then s.resetPort p
    else s.setPort p { s.port p with resetIn := true })

/-- PORT_RESET_RELEASE (R154). -/
def execPortResetRelease (p : Port) (s : State) : Host.Outcome State Fault Refusal :=
  .next (s.setPort p { s.port p with resetIn := false })

/-! ### Tamper lines (R157) -/

/-- TAMPER_EVENT (R157). A line already active gives no event (log 18); a line that is not watched gives none. -/
def execTamperEvent (l : TamperLine) (s : State) : Host.Outcome State Fault Refusal :=
  .next (if s.tamperPins.get l then s
    else
      let s1 := { s with tamperPins := s.tamperPins.set l true }
      if s1.watched then s1.holdOrTakeTamper l else s1)

/-- TAMPER_LINE_INACTIVE (R157). -/
def execTamperLineInactive (l : TamperLine) (s : State) : Host.Outcome State Fault Refusal :=
  .next { s with tamperPins := s.tamperPins.set l false }

/-! ### The power-up sweep (R168, R170) -/

/-- Tamper events taken one after the other, in the order listed. -/
def State.takeTampers (s : State) (ls : List TamperLine) : State := ls.foldl State.takeTamper s

/-- The lines found active after a store-loss sweep are taken in an order the manual does not give: a free choice
wherever two or more are left (R170; log 27). -/
def State.takeInSomeOrder : Nat → List TamperLine → State → State
  | 0, _, s => s
  | _ + 1, [], s => s
  | _ + 1, [l], s => s.takeTamper l
  | n + 1, l :: m :: ls, s =>
    let due := l :: m :: ls
    let chosen := due.getD (Config.orderChoice s.choices % due.length) l
    State.takeInSomeOrder n (due.filter (· != chosen)) ({ s with choices := s.choices + 1 }.takeTamper chosen)

/-- A batch after step 3 of the sweep: no reservation, and a CLOSING batch CLOSED (R81). -/
def Batch.afterSweep (b : Batch) : Batch :=
  let b' := b.swept
  if b'.state = .closing then { b' with state := .closed } else b'

/-- BATCH_CLOSED for each batch the sweep closes, in ascending batch order (R81, R168 step 3). -/
def State.noticeSwept (s : State) : State :=
  (List.range 32).foldl (fun t n => if (s.batch n).state = .closing then t.notice (.batchClosed n) 0 else t) s

/-- Step 3 of the sweep: each block takes its power-up values (R21, R58, R81, R101, R107, R129). The port units took
theirs when they were lost, and may hold frames placed since (R155; log 15). -/
def State.powerUpValues (s : State) : State :=
  { s.noticeSwept with
    keys := mapVector Entry.swept s.keys
    batches := mapVector Batch.afterSweep s.batches
    ceremony := none
    slots := Vector.replicate 16 none
    live := ⟨[], [], [], [], []⟩
    waitList := []
    engine := none
    pointer := .l0
    deficits := ⟨0, 0, 0, 0⟩
    seqs := Vector.replicate 15 0 }

/-- The tamper events held through the sweep are taken after its step 5, several of them in the order in which they came, which
the manual does not give and which decides the first cause: DESIGN CHOICE (log 16); after a store loss each active line is taken, and
a held event of a line that is active is that one (R168, R170). -/
def State.takeHeld (c : SweepCause) (s : State) : State :=
  let held := s.heldTamper
  let s1 := { s with heldTamper := [] }
  match c with
  | .storeLost =>
    let active := allTamperLines.filter s.tamperPins.get
    let due := (held.filter fun l => !active.contains l).dedup ++ active
    State.takeInSomeOrder due.length due s1
  | _ => s1.takeTampers held

/-- A tamper event waits for the end of a sweep that began with this cause (R168, R170). -/
def State.eventsHeld (s : State) (c : SweepCause) : Bool := !s.heldTamper.isEmpty || c == .storeLost && s.anyLineActive

/-- The battery is measured: LOW below the battery low level, with BATTERY_LOW at a change to it, else GOOD (R166). -/
def State.measureBattery (s : State) : State :=
  if s.batteryBelow then
    if s.battery = .good then { s with battery := .low }.notice .batteryLow 0 else s
  else { s with battery := .good }

/-- Steps 3 to 5 of the sweep, the events held through it, and the battery, which is measured from its end (R168, R166).
Which of these two comes first where both are due is a free choice (log 34). -/
def State.finishSweep (c : SweepCause) (s : State) : State :=
  let s1 := { s.powerUpValues with sweep := .idle }.notice .restarted c.code
  let s2 := (s1.addTries allPorts).runTries true
  if s2.batteryBelow && s2.eventsHeld c then
    let s3 := { s2 with choices := s2.choices + 1 }
    if Config.batteryNoticeFirst s2.choices then s3.measureBattery.takeHeld c else (s3.takeHeld c).measureBattery
  else s2.measureBattery.takeHeld c

/-- The store-loss values (R170, R23, R27, R82, R158), and a good marker. -/
def State.storeLossValues (s : State) : State :=
  { s with
    keys := Vector.replicate 128 .empty
    bindings := ⟨defaultBinding, defaultBinding, defaultBinding, defaultBinding⟩
    batches := Vector.replicate 32 unusedBatch
    mode := .lockout
    causes := [.storeLost]
    firstCause := some .storeLost
    zeroisePending := false
    zeroRun := none
    markerGood := true }

/-- The sweep as it starts: an empty notice list and battery GOOD (R155, R166). -/
def State.sweepStart (s : State) : State := { s with notices := [], battery := .good }

/-- The sweep's work (R168 steps 1 to 5, R170); a zeroisation that step 2 repeats takes the read-back attempts that
follow. -/
def State.runSweep (c : SweepCause) (s : State) : State :=
  let s1 := s.sweepStart
  if ¬ s1.markerGood then s1.storeLossValues.finishSweep .storeLost
  else if s1.zeroisePending then
    { s1.startZeroisation.suspendBatches.clearCells with sweep := .clearing c }
  else s1.finishSweep c

/-- POWER_UP_SWEEP (R168). With no sweep running there is none to do its work (log 18). -/
def execPowerUpSweep (s : State) : Host.Outcome State Fault Refusal :=
  .next (match s.sweep with
    | .running c => s.runSweep c
    | _ => s)

/-! ### Read-back attempts (R161, R164, R168) -/

/-- The end of a zeroisation: at once, or within the power-up sweep that waited for it or repeated it (R161, R163,
R168). -/
def State.afterZeroisation (s : State) : State :=
  match s.sweep with
  | .due c => { s with sweep := .running c, mode := storedMode s.mode }
  | .clearing c => s.finishSweep c
  | _ => if s.mode = .lockout then (s.addTries allPorts).runTries true else s

/-- An attempt passes after `n` attempts (R161). ZEROISED and the ZEROISE-ALL's response need main power with the main
reset line released (R163, R164, R169). -/
def State.passReadBack (s : State) (n : Nat) : State :=
  let s1 := { s with zeroisePending := false, mode := .lockout, zeroRun := none }
  let s2 := if s.alive then (s1.notice .zeroised 0).answerZeroiseAll .lockout n else s1
  s2.afterZeroisation

/-- The third attempt fails (R161): FAILED, which is volatile and does not exist without main power (R156, R164;
log 25). -/
def State.failZeroisation (s : State) (n : Nat) : State :=
  let s1 := { s with zeroRun := none }
  let s2 := if s.alive then { s1 with mode := .failed }.answerZeroiseAll .failed n else s1
  s2.afterZeroisation

/-- READ_BACK_ATTEMPT_END (R161). With no zeroisation in progress there is no attempt to end (log 18). -/
def execReadBackAttemptEnd (passed : Bool) (s : State) : Host.Outcome State Fault Refusal :=
  .next (match s.zeroRun with
    | none => s
    | some made =>
      if passed then s.passReadBack (made + 1)
      else if made + 1 < Config.maxAttempts then { s.clearCells with zeroRun := some (made + 1) }
      else s.failZeroisation (made + 1))

/-! ### Battery (R166, R167) -/

/-- The battery is measured from the end of the sweep on, while main power is present and the main reset line released
(R166; log 24). -/
def State.batteryMeasured (s : State) : Bool := s.alive && s.sweep == .idle

/-- BATTERY_STATE_CHANGE (R166): the supply passes the battery low level. Unmeasured it waits for the end of the sweep. A
side it is already on is no change (log 18). A supply above the battery low level is above the store holding level too, so
the lines are watched again (R157, R166; log 17). -/
def execBatteryStateChange (low : Bool) (s : State) : Host.Outcome State Fault Refusal :=
  let s1 := { s with batteryBelow := low, holdingLost := s.holdingLost && low }
  .next (if s1.batteryMeasured then s1.measureBattery else s1)

/-- The mode that a store reads as whose contents are not kept: a free one of the three a store holds (R156, R167; log 17). -/
def lostMode (n : Nat) : PartMode := ([.operating, .lockout] : List PartMode).getD (Config.lostMode n) .zeroising

/-- A store whose contents are not kept (R167; log 17): its marker is bad, and its tables, which nothing reads before the sweep
writes the store-loss values over them, stand empty. What can be read before that, the mode and the tamper record, is
free, within R156: zeroise-pending stands exactly with the mode ZEROISING. -/
def State.loseStore (s : State) : State :=
  { s with
    keys := Vector.replicate 128 .empty
    bindings := ⟨defaultBinding, defaultBinding, defaultBinding, defaultBinding⟩
    batches := Vector.replicate 32 unusedBatch
    mode := lostMode s.choices
    causes := allCauses.filter fun c => Config.lostCause s.choices c.code
    firstCause := allCauses[Config.lostFirstCause s.choices]?
    zeroisePending := lostMode s.choices == .zeroising
    markerGood := false
    choices := s.choices + 1 }

/-- STORE_HOLDING_LOST (R167): the store's contents and its marker are not kept, a zeroisation on battery stops unfinished
(R163), and the lines are not watched while the supply stays below that level (R157). It lies below the battery low level
(R166). With main power present the battery holds nothing (log 17); a supply already below the level falls below it no more
(log 18). -/
def execStoreHoldingLost (s : State) : Host.Outcome State Fault Refusal :=
  .next (if s.mainPower || s.holdingLost then s
    else { s.loseStore with zeroRun := none, batteryBelow := true, holdingLost := true })

/-! ### Main power and main reset (R163, R167 to R169) -/

/-- A port unit that loses its state: its pins stay as the master holds them (R155). -/
def PortUnit.lost (u : PortUnit) : PortUnit := { freshUnit with selectLow := u.selectLow, resetIn := u.resetIn }

/-- All that main power or the main reset line takes: jobs, grant, arbiter, sequences, ceremony, port units, notices, the
battery state, FAILED (R58, R101, R107, R129, R155, R156, R163, R166, R169). The tables keep what the store holds of
them until the sweep puts it right (R21, R81; log 19). A sweep in progress is cut short, and the tamper events it
held are taken (log 16). -/
def State.loseVolatile (s : State) (power held : Bool) : State :=
  { s with
    mainPower := power
    resetHeld := held
    slots := Vector.replicate 16 none
    live := ⟨[], [], [], [], []⟩
    waitList := []
    seqs := Vector.replicate 15 0
    engine := none
    pointer := .l0
    deficits := ⟨0, 0, 0, 0⟩
    ceremony := none
    ports := ⟨s.ports.l0.lost, s.ports.l1.lost, s.ports.l2.lost, s.ports.l3.lost, s.ports.cp.lost⟩
    notices := []
    battery := .good
    zeroTag := none
    mode := storedMode s.mode
    sweep := .idle
    heldTamper := [] }.takeTampers s.heldTamper

/-- MAIN_POWER_LOSS (R167, R163): a zeroisation that runs goes on, on battery. -/
def execMainPowerLoss (s : State) : Host.Outcome State Fault Refusal :=
  .next (if s.mainPower then s.loseVolatile false s.resetHeld else s)

/-- The sweep begins, or waits for the end of a zeroisation that runs (R163, R164, R168). -/
def State.beginSweep (s : State) (c : SweepCause) : State :=
  { s with sweep := if s.zeroRun.isSome then .due c else .running c }

/-- MAIN_POWER_ON (R168). With the main reset line held the sweep begins at its release (log 21). DESIGN CHOICE (log 17): a supply
that fell below the store holding level counts as above it again from here on, so that it keeps the store and the watch
at the next loss of main power until STORE_HOLDING_LOST comes again. -/
def execMainPowerOn (s : State) : Host.Outcome State Fault Refusal :=
  .next (if s.mainPower then s
    else
      let s1 := { s with mainPower := true, holdingLost := false }
      if s.resetHeld then s1 else s1.beginSweep .power)

/-- MAIN_RESET (R169); without main power only the line changes. -/
def execMainReset (s : State) : Host.Outcome State Fault Refusal :=
  .next (if s.resetHeld then s
    else if s.mainPower then s.loseVolatile true true
    else { s with resetHeld := true })

/-- MAIN_RESET_RELEASE (R168, R169). -/
def execMainResetRelease (s : State) : Host.Outcome State Fault Refusal :=
  .next (if s.resetHeld then
      let s1 := { s with resetHeld := false }
      if s.mainPower then s1.beginSweep .resetLine else s1
    else s)

/-! ### The engine and the idle timer -/

/-- GRANT_END (R106). -/
def execGrantEnd (s : State) : Host.Outcome State Fault Refusal := .next s.endGrant

/-- STREAM_IDLE_EXPIRY (R136). -/
def execStreamIdleExpiry (slot : Nat) (s : State) : Host.Outcome State Fault Refusal :=
  .next ((s.expireIdle slot).runTries true)

end Sys2Proof.Machine
end

