-- ==== Sys2Proof/Machine/Requests.lean ====
section
/-! DEFINITION. The meanings of the request commands: the whole frame that carries the request, and the tries it causes
(R140 to R142, R89; log 2). What each request does at its admission is its own rule, `admitKind`. -/

namespace Sys2Proof.Machine

/-- UNKNOWN_REQUEST (R151): a frame with a code that no request has. -/
def execUnknownRequest (p : Port) (code flags tag : Byte) (body : List Byte) (s : State) :
    Host.Outcome State Fault Refusal :=
  .next (s.deliver p code flags tag body)

/-- DERIVE (R115 to R117). -/
def execDerive (p : Port) (flags tag : Byte) (body : List Byte) (s : State) : Host.Outcome State Fault Refusal :=
  .next (s.deliver p ReqKind.derive.code flags tag body)

/-- SPOIL (R71). -/
def execSpoil (p : Port) (flags tag : Byte) (body : List Byte) (s : State) : Host.Outcome State Fault Refusal :=
  .next (s.deliver p ReqKind.spoil.code flags tag body)

/-- STREAM_OPEN (R127, R128). -/
def execStreamOpen (p : Port) (flags tag : Byte) (body : List Byte) (s : State) : Host.Outcome State Fault Refusal :=
  .next (s.deliver p ReqKind.streamOpen.code flags tag body)

/-- STREAM_CHUNK (R130, R131). -/
def execStreamChunk (p : Port) (flags tag : Byte) (body : List Byte) (s : State) : Host.Outcome State Fault Refusal :=
  .next (s.deliver p ReqKind.streamChunk.code flags tag body)

/-- STREAM_CLOSE (R135). -/
def execStreamClose (p : Port) (flags tag : Byte) (body : List Byte) (s : State) : Host.Outcome State Fault Refusal :=
  .next (s.deliver p ReqKind.streamClose.code flags tag body)

/-- CANCEL (R96). -/
def execCancel (p : Port) (flags tag : Byte) (body : List Byte) (s : State) : Host.Outcome State Fault Refusal :=
  .next (s.deliver p ReqKind.cancel.code flags tag body)

/-- SET_ATTN (R150). -/
def execSetAttn (p : Port) (flags tag : Byte) (body : List Byte) (s : State) : Host.Outcome State Fault Refusal :=
  .next (s.deliver p ReqKind.setAttn.code flags tag body)

/-- QUERY_BATCH (R70). -/
def execQueryBatch (p : Port) (flags tag : Byte) (body : List Byte) (s : State) : Host.Outcome State Fault Refusal :=
  .next (s.deliver p ReqKind.queryBatch.code flags tag body)

/-- CREATE_KEY_ENTRY (R13). -/
def execCreateKeyEntry (p : Port) (flags tag : Byte) (body : List Byte) (s : State) : Host.Outcome State Fault Refusal :=
  .next (s.deliver p ReqKind.createKeyEntry.code flags tag body)

/-- REMOVE_ENTRY (R14). -/
def execRemoveEntry (p : Port) (flags tag : Byte) (body : List Byte) (s : State) : Host.Outcome State Fault Refusal :=
  .next (s.deliver p ReqKind.removeEntry.code flags tag body)

/-- SWAP_CELL (R16). -/
def execSwapCell (p : Port) (flags tag : Byte) (body : List Byte) (s : State) : Host.Outcome State Fault Refusal :=
  .next (s.deliver p ReqKind.swapCell.code flags tag body)

/-- DISCARD_CELL (R18). -/
def execDiscardCell (p : Port) (flags tag : Byte) (body : List Byte) (s : State) : Host.Outcome State Fault Refusal :=
  .next (s.deliver p ReqKind.discardCell.code flags tag body)

/-- READ_ENTRY (R19). -/
def execReadEntry (p : Port) (flags tag : Byte) (body : List Byte) (s : State) : Host.Outcome State Fault Refusal :=
  .next (s.deliver p ReqKind.readEntry.code flags tag body)

/-- CREATE_GATE (R34). -/
def execCreateGate (p : Port) (flags tag : Byte) (body : List Byte) (s : State) : Host.Outcome State Fault Refusal :=
  .next (s.deliver p ReqKind.createGate.code flags tag body)

/-- BIND_PORT (R28, R30). -/
def execBindPort (p : Port) (flags tag : Byte) (body : List Byte) (s : State) : Host.Outcome State Fault Refusal :=
  .next (s.deliver p ReqKind.bindPort.code flags tag body)

/-- BEGIN_CEREMONY (R45). -/
def execBeginCeremony (p : Port) (flags tag : Byte) (body : List Byte) (s : State) : Host.Outcome State Fault Refusal :=
  .next (s.deliver p ReqKind.beginCeremony.code flags tag body)

/-- COMPONENT (R46, R47). -/
def execComponent (p : Port) (flags tag : Byte) (body : List Byte) (s : State) : Host.Outcome State Fault Refusal :=
  .next (s.deliver p ReqKind.component.code flags tag body)

/-- ABANDON_CEREMONY (R52, R53). -/
def execAbandonCeremony (p : Port) (flags tag : Byte) (body : List Byte) (s : State) : Host.Outcome State Fault Refusal :=
  .next (s.deliver p ReqKind.abandonCeremony.code flags tag body)

/-- OPEN_BATCH (R64). -/
def execOpenBatch (p : Port) (flags tag : Byte) (body : List Byte) (s : State) : Host.Outcome State Fault Refusal :=
  .next (s.deliver p ReqKind.openBatch.code flags tag body)

/-- PAUSE_BATCH (R65). -/
def execPauseBatch (p : Port) (flags tag : Byte) (body : List Byte) (s : State) : Host.Outcome State Fault Refusal :=
  .next (s.deliver p ReqKind.pauseBatch.code flags tag body)

/-- RESUME_BATCH (R66). -/
def execResumeBatch (p : Port) (flags tag : Byte) (body : List Byte) (s : State) : Host.Outcome State Fault Refusal :=
  .next (s.deliver p ReqKind.resumeBatch.code flags tag body)

/-- CLOSE_BATCH (R67). -/
def execCloseBatch (p : Port) (flags tag : Byte) (body : List Byte) (s : State) : Host.Outcome State Fault Refusal :=
  .next (s.deliver p ReqKind.closeBatch.code flags tag body)

/-- READ_MAP (R69). -/
def execReadMap (p : Port) (flags tag : Byte) (body : List Byte) (s : State) : Host.Outcome State Fault Refusal :=
  .next (s.deliver p ReqKind.readMap.code flags tag body)

/-- ZEROISE_ALL (R159). -/
def execZeroiseAll (p : Port) (flags tag : Byte) (body : List Byte) (s : State) : Host.Outcome State Fault Refusal :=
  .next (s.deliver p ReqKind.zeroiseAll.code flags tag body)

/-- CLEAR_LOCKOUT (R165). -/
def execClearLockout (p : Port) (flags tag : Byte) (body : List Byte) (s : State) : Host.Outcome State Fault Refusal :=
  .next (s.deliver p ReqKind.clearLockout.code flags tag body)

/-- STATUS (R153). -/
def execStatus (p : Port) (flags tag : Byte) (body : List Byte) (s : State) : Host.Outcome State Fault Refusal :=
  .next (s.deliver p ReqKind.status.code flags tag body)

end Sys2Proof.Machine
end

