-- ==== Sys2Proof/Machine/Dispatch.lean ====
section
/-! DEFINITION. One arm per command: each calls its meaning. -/

namespace Sys2Proof.Machine

def exec (i : Instr) (s : State) : Host.Outcome State Fault Refusal :=
  match i with
  | .frameStart p bytes => Sys2Proof.Machine.execFrameStart p bytes s
  | .frameEnd p bytes => Sys2Proof.Machine.execFrameEnd p bytes s
  | .fetchFrame p clocked ended => Sys2Proof.Machine.execFetchFrame p clocked ended s
  | .frameTimeout p bytes => Sys2Proof.Machine.execFrameTimeout p bytes s
  | .unknownRequest p code flags tag body => Sys2Proof.Machine.execUnknownRequest p code flags tag body s
  | .derive p flags tag body => Sys2Proof.Machine.execDerive p flags tag body s
  | .spoil p flags tag body => Sys2Proof.Machine.execSpoil p flags tag body s
  | .streamOpen p flags tag body => Sys2Proof.Machine.execStreamOpen p flags tag body s
  | .streamChunk p flags tag body => Sys2Proof.Machine.execStreamChunk p flags tag body s
  | .streamClose p flags tag body => Sys2Proof.Machine.execStreamClose p flags tag body s
  | .cancel p flags tag body => Sys2Proof.Machine.execCancel p flags tag body s
  | .setAttn p flags tag body => Sys2Proof.Machine.execSetAttn p flags tag body s
  | .queryBatch p flags tag body => Sys2Proof.Machine.execQueryBatch p flags tag body s
  | .createKeyEntry p flags tag body => Sys2Proof.Machine.execCreateKeyEntry p flags tag body s
  | .removeEntry p flags tag body => Sys2Proof.Machine.execRemoveEntry p flags tag body s
  | .swapCell p flags tag body => Sys2Proof.Machine.execSwapCell p flags tag body s
  | .discardCell p flags tag body => Sys2Proof.Machine.execDiscardCell p flags tag body s
  | .readEntry p flags tag body => Sys2Proof.Machine.execReadEntry p flags tag body s
  | .createGate p flags tag body => Sys2Proof.Machine.execCreateGate p flags tag body s
  | .bindPort p flags tag body => Sys2Proof.Machine.execBindPort p flags tag body s
  | .beginCeremony p flags tag body => Sys2Proof.Machine.execBeginCeremony p flags tag body s
  | .component p flags tag body => Sys2Proof.Machine.execComponent p flags tag body s
  | .abandonCeremony p flags tag body => Sys2Proof.Machine.execAbandonCeremony p flags tag body s
  | .openBatch p flags tag body => Sys2Proof.Machine.execOpenBatch p flags tag body s
  | .pauseBatch p flags tag body => Sys2Proof.Machine.execPauseBatch p flags tag body s
  | .resumeBatch p flags tag body => Sys2Proof.Machine.execResumeBatch p flags tag body s
  | .closeBatch p flags tag body => Sys2Proof.Machine.execCloseBatch p flags tag body s
  | .readMap p flags tag body => Sys2Proof.Machine.execReadMap p flags tag body s
  | .zeroiseAll p flags tag body => Sys2Proof.Machine.execZeroiseAll p flags tag body s
  | .clearLockout p flags tag body => Sys2Proof.Machine.execClearLockout p flags tag body s
  | .status p flags tag body => Sys2Proof.Machine.execStatus p flags tag body s
  | .grantEnd => Sys2Proof.Machine.execGrantEnd s
  | .streamIdleExpiry slot => Sys2Proof.Machine.execStreamIdleExpiry slot s
  | .portReset p => Sys2Proof.Machine.execPortReset p s
  | .portResetRelease p => Sys2Proof.Machine.execPortResetRelease p s
  | .tamperEvent line => Sys2Proof.Machine.execTamperEvent line s
  | .readBackAttemptEnd passed => Sys2Proof.Machine.execReadBackAttemptEnd passed s
  | .batteryStateChange low => Sys2Proof.Machine.execBatteryStateChange low s
  | .storeHoldingLost => Sys2Proof.Machine.execStoreHoldingLost s
  | .mainPowerLoss => Sys2Proof.Machine.execMainPowerLoss s
  | .mainPowerOn => Sys2Proof.Machine.execMainPowerOn s
  | .mainReset => Sys2Proof.Machine.execMainReset s
  | .mainResetRelease => Sys2Proof.Machine.execMainResetRelease s
  | .powerUpSweep => Sys2Proof.Machine.execPowerUpSweep s
  | .tamperLineInactive line => Sys2Proof.Machine.execTamperLineInactive line s

end Sys2Proof.Machine
end

