-- ==== Sys2Proof/Safety.lean ====
section
/-! DEFINITION. What counts as a safe run, in the terms the statements use: a port at rest, what an answered request leaves
behind, and the relations between the parts of the state that the manual says hold at every moment. -/

namespace Sys2Proof.Machine

/-! ### A port at rest, and what a request leaves there -/

/-- Port `p` is at rest and the next request is tried as soon as its frame has ended: requests are admitted (R89 step 1),
frame select is high, the request queue is empty and a response entry is free (R89 step 2). -/
def State.quiet (s : State) (p : Port) : Bool :=
  s.admitting && s.tries.isEmpty && !(s.port p).resetIn && !(s.port p).selectLow && (s.port p).requests.isEmpty &&
    !(s.port p).responsesFull

/-- The frame of a request has come and gone, and a response stands at the tail of the port's response queue; the port
waits for nothing (R91, R95, R146). -/
def State.served (s : State) (p : Port) (r : Response) : State :=
  (s.setPort p { s.port p with frame := .none, wait := .none, occupied := (s.port p).occupied ++ [r] }).leaveWaitList p

/-- The frame of a request has come and gone, and a response entry is reserved for it (R91, R146). -/
def State.taken (s : State) (p : Port) : State :=
  (s.setPort p { s.port p with frame := .none, wait := .none, reserved := (s.port p).reserved + 1 }).leaveWaitList p

/-- A request that lies in the queue of a port at rest as its only request. -/
def State.withRequest (s : State) (p : Port) (r : Request) : State :=
  s.setPort p { s.port p with frame := .none, selectLow := false, requests := [r], wait := .none }

/-- No head waits, so an event that frees something causes no try that finds a head (R89). -/
def State.noHeads (s : State) : Bool := allPorts.all fun p => (s.port p).requests.isEmpty

/-- The command that carries a known request. -/
def requestCommand (k : ReqKind) (p : Port) (flags tag : Byte) (body : List Byte) : Instr :=
  match k with
  | .derive => .derive p flags tag body
  | .spoil => .spoil p flags tag body
  | .streamOpen => .streamOpen p flags tag body
  | .streamChunk => .streamChunk p flags tag body
  | .streamClose => .streamClose p flags tag body
  | .cancel => .cancel p flags tag body
  | .setAttn => .setAttn p flags tag body
  | .queryBatch => .queryBatch p flags tag body
  | .createKeyEntry => .createKeyEntry p flags tag body
  | .removeEntry => .removeEntry p flags tag body
  | .swapCell => .swapCell p flags tag body
  | .discardCell => .discardCell p flags tag body
  | .readEntry => .readEntry p flags tag body
  | .createGate => .createGate p flags tag body
  | .bindPort => .bindPort p flags tag body
  | .beginCeremony => .beginCeremony p flags tag body
  | .component => .component p flags tag body
  | .abandonCeremony => .abandonCeremony p flags tag body
  | .openBatch => .openBatch p flags tag body
  | .pauseBatch => .pauseBatch p flags tag body
  | .resumeBatch => .resumeBatch p flags tag body
  | .closeBatch => .closeBatch p flags tag body
  | .readMap => .readMap p flags tag body
  | .zeroiseAll => .zeroiseAll p flags tag body
  | .clearLockout => .clearLockout p flags tag body
  | .status => .status p flags tag body

/-! ### A DERIVE that can be admitted, and what its admission leaves -/

/-- A DERIVE of line port `l` passes steps 4 to 7 of R116: fields in range, its batch in reach and OPEN, the serial of the
batch. -/
def State.deriveNames (s : State) (l : LinePort) (b serial m t : Nat) (keys : List Nat) : Prop :=
  b ≤ 31 ∧ m ≤ 127 ∧ t ≤ 127 ∧ serial ≤ maxSerial ∧ keys ≠ [] ∧ keys = allKeyIndices.filter keys.contains ∧
  (s.batch b).domain ∈ (s.binding l).domains ∧ (s.batch b).state = .opened ∧ (s.batch b).first ≤ serial ∧
  serial < (s.batch b).first + (s.batch b).quantity

/-- It passes steps 4 to 10: its two references resolve to `mk` and `tk`, and its position, which holds `prior`, can be
reserved (R116, R72). -/
def State.deriveFits (s : State) (l : LinePort) (b serial m t : Nat) (keys : List Nat) (mk tk : Nat × CellId)
    (prior : PosState) : Prop :=
  s.deriveNames l b serial m t keys ∧
  s.accessCheck l m .derive (some b) = .ok mk ∧ s.accessCheck l t .wrap (some b) = .ok tk ∧
  (s.batch b).map[serial - (s.batch b).first]? = some prior ∧
  (prior = .fresh ∨ prior = .spoilt ∧ (s.batch b).reissued + (s.batch b).reissueRes < (s.batch b).allowance)

/-- Line port `l` has a job left in its quota, and `slot` is the lowest free line slot (R83, R84). -/
def State.slotFor (s : State) (l : LinePort) (slot : Nat) : Prop :=
  (s.liveOf (.line l)).length < 5 ∧ slot < 15 ∧ s.job slot = none ∧ ∀ i, i < slot → (s.job i).isSome

/-- What the admission of a DERIVE leaves, besides its port: the position reserved, the two cells captured in order, and the
job WAITING in its slot and last on its port's list (R117, R72, R8, R83, R88). -/
def State.withDerive (s : State) (l : LinePort) (tag : Byte) (b pos : Nat) (prior : PosState) (keys : List Nat)
    (mk tk : Nat × CellId) (slot : Nat) : State :=
  let reserved : Batch :=
    if prior = .fresh then
      { s.batch b with map := (s.batch b).map.set pos .reservedFresh, freshRes := (s.batch b).freshRes + 1 }
    else
      { s.batch b with map := (s.batch b).map.set pos .reservedSpoilt, reissueRes := (s.batch b).reissueRes + 1 }
  let job : Job :=
    { owner := .line l, tag := tag, state := .waiting, captured := [mk, tk], cancelPending := false
      ctx := .derive { batch := b, pos := pos, prior := prior, keys := keys, done := 0, results := [] } }
  ((((s.setBatch b reserved).capture mk.1 mk.2).capture tk.1 tk.2).setJob slot (some job)).setLive (.line l)
    (s.liveOf (.line l) ++ [slot])

/-- Port `p` alone has a head, one request that could be admitted now: requests are admitted and a response entry is free
(R89). -/
def State.onlyHead (s : State) (p : Port) (r : Request) : Prop :=
  s.admitting ∧ (s.port p).requests = [r] ∧ (s.port p).responsesFull = false ∧ ∀ q, q ≠ p → (s.port q).requests = []

/-- The one head of port `p` has been refused: it is gone and its refusal stands at the tail of the responses (R89, R91,
R95). -/
def State.headRefused (s : State) (p : Port) (r : Response) : State :=
  (s.setPort p { s.port p with requests := [], wait := .none, occupied := (s.port p).occupied ++ [r] }).leaveWaitList p

/-- The one head of port `p` has been admitted, with its response still due (R91, R95). -/
def State.headTaken (s : State) (p : Port) : State :=
  (s.setPort p { s.port p with requests := [], wait := .none, reserved := (s.port p).reserved + 1 }).leaveWaitList p

/-! ### Relations the manual states of every moment between events -/

/-- A port's request queue never holds more than its 8 entries, nor its response queue more than its 16 (R145). -/
def State.queuesFit (s : State) : Prop :=
  ∀ p, (s.port p).entriesTaken ≤ 8 ∧ (s.port p).occupied.length + (s.port p).reserved ≤ 16

/-- The positions of an issue map in one of the listed states. -/
def countIn (sts : List PosState) (map : List PosState) : Nat := map.countP (sts.contains ·)

/-- The counters of a batch agree with its map (R62), and the allowance covers reissues made and in flight (R72). -/
def Batch.agrees (b : Batch) : Prop :=
  b.map.length = b.quantity ∧
  b.derived = countIn [.issued, .spoilt, .reservedSpoilt] b.map ∧
  b.freshRes = countIn [.reservedFresh] b.map ∧
  b.reissueRes = countIn [.reservedSpoilt] b.map ∧
  b.reissued + b.reissueRes ≤ b.allowance

/-- Every batch record agrees with its map (R62, R72). -/
def State.batchesAgree (s : State) : Prop := ∀ n, (s.batch n).agrees

/-- The deficits within their bounds: the port under visit has at most 4 times its weight plus 3, every other line port at
most the 3 that a visit leaves (R110, R108); without power, or with the main reset line held, the engine and the
arbiter are at their start values (R107). -/
def State.deficitsFit (s : State) : Prop :=
  (∀ l, s.deficit l ≤ if l = s.pointer then 4 * (s.binding l).weight + 3 else 3) ∧
  (s.alive = false → s.engine = none ∧ ∀ l, s.deficit l = 0)

/-- The mode the store holds is ZEROISING exactly while zeroise-pending is set (R156), and a zeroisation in progress has the
part ZEROISING (R161). -/
def State.modeAgrees (s : State) : Prop :=
  (storedMode s.mode = .zeroising ↔ s.zeroisePending = true) ∧ (s.zeroRun.isSome → s.mode = .zeroising)

/-- The part has no work to do: no job, no grant, no ceremony. -/
def State.idleWork (s : State) : Prop := (∀ n, s.job n = none) ∧ s.engine = none ∧ s.ceremony = none

/-- While the part is ZEROISING or FAILED no job is live and no ceremony is open (R156, R162); nor without power, with the
main reset line held, or before the end of the sweep (R167 to R169). -/
def State.zeroisingIdle (s : State) : Prop :=
  s.modeAgrees ∧
  (s.mode = .zeroising ∨ s.mode = .failed ∨ s.alive = false ∨ s.sweep ≠ .idle → s.idleWork)

/-- A cell as R4 describes each of its states. -/
def Cell.ok (x : Cell) : Prop :=
  match x.state with
  | .blank => x.value = none ∧ x.check = none ∧ x.inFlight = 0
  | .forming => x.value = none ∧ x.check = none ∧ x.inFlight = 0
  | .ready => x.value.isSome ∧ x.check.isSome ∧ x.inFlight = 0
  | .serving => x.value.isSome ∧ x.check.isSome
  | .draining => x.value.isSome ∧ x.check.isSome ∧ 0 < x.inFlight

/-- The cells of a KEY entry are as R4 says, and the serving indicator names the one SERVING cell, or none (R6). -/
def KeyEntry.ok (k : KeyEntry) : Prop :=
  k.cellA.ok ∧ k.cellB.ok ∧ ∀ c, (k.cell c).state = .serving ↔ k.serving = some c

/-- Every KEY entry is as R4 and R6 say, and an open ceremony's target is a FORMING cell of a KEY entry (R7). -/
def State.keysOk (s : State) : Prop :=
  s.zeroisingIdle ∧
  (∀ n k, s.entry n = .key k → k.ok) ∧
  (∀ c, s.ceremony = some c → ∃ k, s.entry c.slot = .key k ∧ (k.cell c.cell).state = .forming)

/-- The slot wait list holds no port twice (R93), and the notice list one notice per kind and subject (R152). -/
def State.listsOnce (s : State) : Prop := s.waitList.Nodup ∧ (s.notices.map Notice.key).Nodup

/-- The live-job lists hold the live jobs of their ports, each once, within the quotas; the custody slot holds CUSTODY jobs of
the custody port, the line slots the others (R83 to R85, R88). -/
def State.jobsListed (s : State) : Prop :=
  (∀ p n, n ∈ s.liveOf p ↔ ∃ j, s.job n = some j ∧ j.owner = p) ∧
  (∀ p, (s.liveOf p).Nodup) ∧
  (∀ n j, s.job n = some j →
    (j.owner = .cp ↔ n = Config.custodySlot) ∧ ((∃ c, j.ctx = .custody c) ↔ n = Config.custodySlot)) ∧
  (∀ l, (s.liveOf (.line l)).length ≤ Config.lineQuota) ∧
  (s.liveOf .cp).length ≤ 1

/-- A stream never accepts more blocks than it declared (R130). -/
def State.streamsFit (s : State) : Prop :=
  ∀ n j c, s.job n = some j → j.ctx = .stream c → c.accepted ≤ c.declared

/-- A job holds a cell: a CUSTODY job captures none (R8). -/
def Job.holdsCell (j : Job) (cell : Nat × CellId) : Bool :=
  match j.ctx with
  | .custody _ => false
  | _ => j.captured.contains cell

/-- The slots of the live jobs that hold a cell. -/
def State.holders (s : State) (cell : Nat × CellId) : List Nat :=
  (List.range 16).filter fun n => (s.job n).any (·.holdsCell cell)

/-- Every cell's in-flight count is the number of live jobs that captured it (R10), with the part at work: at a loss of power
the counts stand until the sweep (R21). The cells that a job captured are two cells of KEY entries, because no class
permits the uses of both (R3). -/
def State.countsAgree (s : State) : Prop :=
  s.keysOk ∧
  (∀ n k, s.entry n = .key k → ∀ u ∈ k.uses, u ∈ k.cls.permitted) ∧
  (s.alive → s.sweep = .idle →
    (∀ n k c, s.entry n = .key k → (k.cell c).inFlight = (s.holders (n, c)).length) ∧
    (∀ n j, s.job n = some j →
      (∀ cell, j.holdsCell cell → ∃ k, s.entry cell.1 = .key k) ∧ ((∃ c, j.ctx = .custody c) ∨ j.captured.Nodup)))

/-- An UNUSED or CLOSED batch holds no reservation, and a CLOSING one holds some (R60, R67, R68). -/
def Batch.stateFits (b : Batch) : Prop :=
  (b.state = .unused ∨ b.state = .closed → b.freshRes + b.reissueRes = 0) ∧
  (b.state = .closing → 0 < b.freshRes + b.reissueRes)

/-- The live DERIVE in a slot holds this position (R62). -/
def State.holdsPosition (s : State) (slot b pos : Nat) : Prop :=
  ∃ j c, s.job slot = some j ∧ j.ctx = .derive c ∧ c.batch = b ∧ c.pos = pos

/-- The batches agree with their maps, and each reserved position is held by exactly one live DERIVE, which records the state
it had (R62), with the part at work: at a loss of power the reservations stand until the sweep (R81). -/
def State.positionsHeld (s : State) : Prop :=
  s.batchesAgree ∧ (∀ n, (s.batch n).stateFits) ∧
  (s.alive → s.sweep = .idle →
    (∀ n j c, s.job n = some j → j.ctx = .derive c →
      (c.prior = .fresh ∧ (s.batch c.batch).map[c.pos]? = some .reservedFresh ∨
        c.prior = .spoilt ∧ (s.batch c.batch).map[c.pos]? = some .reservedSpoilt)) ∧
    (∀ b pos, (s.batch b).map[pos]? = some .reservedFresh ∨ (s.batch b).map[pos]? = some .reservedSpoilt →
      ∃ n, s.holdsPosition n b pos) ∧
    (∀ m n b pos, s.holdsPosition m b pos → s.holdsPosition n b pos → m = n))

/-- The job IN_GRANT is the one whose grant the engine holds (R87, R103), some pass of that grant is still to finish, and the
engine's working copy is the key and block of that pass, as the job, the store and the held results give them (R103, R9,
R111). A STREAM is IDLE exactly while it has no chunk in service (R87, R131, R134). -/
def State.grantAgrees (s : State) : Prop :=
  s.countsAgree ∧ s.positionsHeld ∧ s.jobsListed ∧
  (∀ n j c, s.job n = some j → j.ctx = .stream c → (j.state = .idle ↔ c.inService = none)) ∧
  (∀ n j, s.job n = some j → (j.state = .inGrant ↔ ∃ g, s.engine = some g ∧ g.slot = n)) ∧
  (∀ g, s.engine = some g → ∃ j, s.job g.slot = some j ∧ g.held.length < g.size ∧
    g.work = s.passInput (s.recordAll j g.held))

/-! ### What whole events leave behind -/

/-- What a job's end leaves when no port waits for a slot: the captured cells released in order, the slot free, the job off
its owner's list (R98 steps 3 and 5). -/
def State.jobGone (s : State) (slot : Nat) (j : Job) : State :=
  ((j.captured.foldl (State.releaseCell true) s).setJob slot none).setLive j.owner
    ((s.liveOf j.owner).filter (· != slot))

/-- What a reset of its port leaves of the job in a slot: a DERIVE's position is released (R74, R79), the cells of a DERIVE or
STREAM are released (R10, R24), and the slot is free (R100). -/
def State.jobReset (s : State) (slot : Nat) : State :=
  match s.job slot with
  | none => s
  | some j =>
    match j.ctx with
    | .derive c => State.jobGone (s.releasePos c.batch c.pos) slot j
    | .stream _ => State.jobGone s slot j
    | .custody _ => (s.setJob slot none).setLive j.owner ((s.liveOf j.owner).filter (· != slot))

/-- The TAMPER responses that the live jobs of a port owe, in ascending slot order (R99, R101, R57). -/
def State.tamperResponses (s : State) (p : Port) : List Response :=
  (List.range 16).flatMap fun n =>
    match s.job n with
    | some j => if j.owner = p then j.owed .tamper else []
    | none => []

/-- What the entry to ZEROISING leaves with the part at work (R160, R113, R22, R80, R158): the cause recorded, no job, grant or
ceremony, the arbiter at its start values; each OPEN or PAUSED batch SUSPENDED, each CLOSING one CLOSED with BATCH_CLOSED, no
position reserved and every other count kept, where the reservations are held as R62 says; no other notice raised but the
TAMPER of a line, so no CELL_DRAINED (R11); at each port the TAMPER responses of its jobs, in the entries reserved for them,
and everything else of the port kept, its placed requests too. That every cell is cleared within this event is the MODEL'S
CHOICE (log 20). -/
def EnteredZeroising (cause : Cause) (s t : State) : Prop :=
  t.mode = .zeroising ∧ t.zeroisePending = true ∧ t.zeroRun = some 0 ∧
  (∀ x, x ∈ t.causes ↔ x ∈ s.causes ∨ x = cause) ∧
  t.firstCause = (if s.causes = [] then some cause else s.firstCause) ∧
  (∀ n, t.job n = none) ∧ t.engine = none ∧ t.ceremony = none ∧ t.pointer = .l0 ∧ (∀ l, t.deficit l = 0) ∧
  t.waitList = [] ∧ (s.jobsListed → ∀ p, t.liveOf p = []) ∧
  (∀ n, t.entry n = (s.entry n).zeroised) ∧
  (∀ n, (t.batch n).state ≠ .opened ∧ (t.batch n).state ≠ .paused) ∧
  (s.positionsHeld →
    (∀ n, t.batch n = { s.batch n with
      state := match (s.batch n).state with
        | .opened => .suspended
        | .paused => .suspended
        | .closing => .closed
        | st => st
      map := (s.batch n).map.map fun x =>
        if x = .reservedFresh then .fresh else if x = .reservedSpoilt then .spoilt else x
      freshRes := 0, reissueRes := 0 }) ∧
    ∀ n, (s.batch n).state = .closing → ⟨.batchClosed n, 0⟩ ∈ t.notices) ∧
  (∀ x ∈ t.notices, x ∈ s.notices ∨ (∃ n, (s.batch n).state = .closing ∧ x = ⟨.batchClosed n, 0⟩) ∨
    ∃ l, cause = .line l ∧ x = ⟨.tamper l, 0⟩) ∧
  (∀ x ∈ s.notices, ∃ y ∈ t.notices, y.key = x.key) ∧
  (∀ p, (s.tamperResponses p).length ≤ (s.port p).reserved →
    t.port p = { s.port p with
      reserved := (s.port p).reserved - (s.tamperResponses p).length
      occupied := (s.port p).occupied ++ s.tamperResponses p }) ∧
  t.bindings = s.bindings

/-- What steps 3 to 5 of the power-up sweep leave of the tables, the jobs, the engine and the battery, where no request and
no tamper event waits for their end (R168, R21, R58, R81, R101, R107, R129, R166). -/
def SweptOver (s t : State) : Prop :=
  t.sweep = .idle ∧
  (∀ n, t.entry n = match s.entry n with
    | .key k => .key { k with
        cellA := if k.cellA.state = .forming then ⟨.blank, none, none, 0⟩
          else { k.cellA with state := if k.cellA.state = .draining then .ready else k.cellA.state, inFlight := 0 }
        cellB := if k.cellB.state = .forming then ⟨.blank, none, none, 0⟩
          else { k.cellB with state := if k.cellB.state = .draining then .ready else k.cellB.state, inFlight := 0 } }
    | e => e) ∧
  (∀ n, t.batch n = { s.batch n with
    state := if (s.batch n).state = .closing then .closed else (s.batch n).state
    map := (s.batch n).map.map fun x =>
      if x = .reservedFresh then .fresh else if x = .reservedSpoilt then .spoilt else x
    freshRes := 0, reissueRes := 0 }) ∧
  (∀ n, t.job n = none) ∧ (∀ p, t.liveOf p = []) ∧ t.waitList = [] ∧ t.engine = none ∧ t.pointer = .l0 ∧
  (∀ l, t.deficit l = 0) ∧ (∀ n, t.seq n = 0) ∧ t.ceremony = none ∧ t.bindings = s.bindings ∧
  t.causes = s.causes ∧ t.firstCause = s.firstCause ∧ t.battery = (if s.batteryBelow then .low else .good)

/-- The notices of those steps, in order: BATCH_CLOSED for each batch they close, in ascending batch order, RESTARTED with the
cause, and BATTERY_LOW for a battery found low (R81, R168, R166). -/
def State.sweepNotices (s : State) (c : SweepCause) : List Notice :=
  (((List.range 32).filter fun n => (s.batch n).state == .closing).map fun n => ⟨.batchClosed n, 0⟩) ++
    [⟨.restarted, c.code⟩] ++ if s.batteryBelow then [⟨.batteryLow, 0⟩] else []

/-- The state that loss of main power, or the main reset line, takes and keeps: jobs, grant, arbiter, sequences, ceremony, port
units and notices are gone; the tables, the record, zeroise-pending and a zeroisation in progress stay; FAILED becomes the
ZEROISING the store holds. -/
def State.volatileLost (s : State) (power held : Bool) : State :=
  { s with
    mainPower := power, resetHeld := held
    slots := Vector.replicate 16 none, live := ⟨[], [], [], [], []⟩, waitList := [], seqs := Vector.replicate 15 0
    engine := none, pointer := .l0, deficits := ⟨0, 0, 0, 0⟩, ceremony := none
    ports :=
      let lost (u : PortUnit) : PortUnit := { freshUnit with selectLow := u.selectLow, resetIn := u.resetIn }
      ⟨lost s.ports.l0, lost s.ports.l1, lost s.ports.l2, lost s.ports.l3, lost s.ports.cp⟩
    notices := [], battery := .good, zeroTag := none
    mode := if s.mode = .failed then .zeroising else s.mode
    sweep := .idle, heldTamper := [] }

end Sys2Proof.Machine
end

