-- ==== Sys2Proof/Certificates/Slice0/Obligations.lean ====
section
/-! DEFINITION. The statements for the provers. A next state is written as an expression over the state before: what the
expression does not name is unchanged. `quiet p` is a port at rest whose next request is tried at once; `served` and
`taken` are what an answered request, and one whose response is still due, leave at its port (Sys2Proof/Safety.lean). -/

open Sys2Proof Sys2Proof.Machine

/-! ### The step -/

/-- The command at the front of the queue is the one a step takes, on the state with the rest of the queue (the host's
queue form; log 1). -/
def Obligations.StepRunsTheFrontCommand : Prop :=
  ∀ (c : Instr) (s : State), step { s with pending := c :: s.pending } = exec c s

/-- MODEL'S CHOICE (log 1, log 11). With no command waiting the engine finishes one pass of the grant in progress, unless
that is its last, which is left to GRANT_END: the result of the working copy joins the held results, and the engine copies
the key and block of the next pass (R103); with the engine IDLE nothing changes. -/
def Obligations.EmptyQueueStepFinishesOnePass : Prop :=
  ∀ s : State, s.pending = [] →
    (s.engine = none → step s = .next s) ∧
    (∀ g j, s.engine = some g → s.job g.slot = some j →
      let result := if g.work.deciphers then decipher g.work.key g.work.block else encipher g.work.key g.work.block
      (g.held.length + 1 < g.size →
        step s = .next { s with engine := some { g with
          held := g.held ++ [result], work := s.passInput (s.recordAll j (g.held ++ [result])) } }) ∧
      (g.size ≤ g.held.length + 1 → step s = .next s))

/-! ### Reset -/

/-- The values after the sweep of a part whose store was lost: that `State.reset` is this sweep's outcome with the pins at
rest is the MODEL'S CHOICE (log 3), and so is the spoil allowance 0 of an UNUSED batch (log 35). -/
def Obligations.ResetIsAPartAfterStoreLoss : Prop :=
  (∀ n, State.reset.entry n = .empty) ∧
  (∀ l, State.reset.binding l = ⟨3, [], 0, 0, 1, 30⟩) ∧
  (∀ n, State.reset.batch n = ⟨.unused, 0, List.replicate 12 0x20, 0, 0, 0, 0, 0, 0, 0, 0, []⟩) ∧
  State.reset.mode = .lockout ∧ State.reset.causes = [.storeLost] ∧ State.reset.firstCause = some .storeLost ∧
  State.reset.zeroisePending = false ∧ State.reset.markerGood = true ∧
  (∀ n, State.reset.job n = none) ∧ (∀ p, State.reset.liveOf p = []) ∧ State.reset.waitList = [] ∧
  (∀ n, State.reset.seq n = 0) ∧ State.reset.engine = none ∧ State.reset.pointer = .l0 ∧
  (∀ l, State.reset.deficit l = 0) ∧ State.reset.ceremony = none ∧
  (∀ p, (State.reset.port p).frame = .none ∧ (State.reset.port p).requests = [] ∧ (State.reset.port p).occupied = [] ∧
    (State.reset.port p).reserved = 0 ∧ (State.reset.port p).fault = .none ∧
    (State.reset.port p).attn = [.responseReady, .linkFault, .mode] ∧ State.reset.ready p = true ∧
    State.reset.attnHigh p = true ∧ State.reset.dataOut p = 0) ∧
  State.reset.notices = [⟨.restarted, 3⟩] ∧ State.reset.battery = .good ∧ State.reset.batteryBelow = false

/-- `State.reset` (log 3) meets every relation that the statements of the invariants say each step keeps. -/
def Obligations.ResetMeetsTheInvariants : Prop :=
  State.reset.queuesFit ∧ State.reset.listsOnce ∧ State.reset.batchesAgree ∧ State.reset.deficitsFit ∧
  State.reset.keysOk ∧ State.reset.jobsListed ∧ State.reset.streamsFit ∧ State.reset.positionsHeld ∧
  State.reset.countsAgree ∧ State.reset.grantAgrees

/-! ### The links -/

/-- A frame start (R141): with an entry free the frame reserves it, and READY falls when it was the eighth; with none free
the frame is unplaced. The first byte decides: 0x0F makes either a fetch frame, which needs no entry; any other keeps a
placing frame, and makes an unplaced one ignored with START_WHILE_FULL, unless a fault stands already (R144). Data out is low
in a request frame, in the code byte and before any byte (R140). -/
def Obligations.FrameStartReservesAnEntry : Prop :=
  ∀ (s : State) (p : Port), s.linkTakes p → s.tries = [] → (s.port p).selectLow = false → (s.port p).frame = .none →
    let becomes (c : Instr) (u : PortUnit) : Prop :=
      exec c s = .next (s.setPort p u) ∧ (s.setPort p u).dataOut p = 0
    ((s.port p).requests.length < 8 →
      becomes (.frameStart p []) { s.port p with selectLow := true, frame := .placing [] } ∧
      ((s.setPort p { s.port p with selectLow := true, frame := .placing [] }).ready p ↔
        (s.port p).requests.length + 1 < 8) ∧
      ∀ b, b ≠ 0x0F → becomes (.frameStart p [b]) { s.port p with selectLow := true, frame := .placing [b] }) ∧
    ((s.port p).requests.length = 8 →
      becomes (.frameStart p []) { s.port p with selectLow := true, frame := .unplaced } ∧
      ∀ b, b ≠ 0x0F →
        becomes (.frameStart p [b]) { s.port p with
          selectLow := true, frame := .ignored
          fault := if (s.port p).fault = .none then .startWhileFull else (s.port p).fault }) ∧
    ((s.port p).requests.length ≤ 8 →
      becomes (.frameStart p [0x0F]) { s.port p with
        selectLow := true, fetched := []
        frame := .fetching (s.statusHeader p) (((s.port p).occupied.head?.map Response.bytes).getD []) 0 })

/-- The end of a frame by frame select. A placing frame (R142) whose tests pass: the request joins the tail behind the requests
that wait, or, an urgent CANCEL, SET-ATTN, QUERY-BATCH or STATUS, becomes the head: of a port whose response queue is full, where
it waits (R89), or of one with an entry free, where, here, a CANCEL that finds no job is answered and the head it displaced is
tried again: it waits for a response entry, where that answer took the last, or, a DERIVE, for the quota, or, back at the tail of
the slot wait list, for a line slot (R93, R95). That the port of an urgent head, which needs no line slot, leaves the slot wait
list without a response entry is the MODEL'S CHOICE (log 22). A test fails: nothing is placed and FRAME_LENGTH is recorded if no
fault stands (R144). An unplaced frame whose first byte, if any, is no fetch code ends with START_WHILE_FULL (R141, R144); an
ignored one ends. Where a reset of the port is the next command, a request that becomes the head is placed and not tried, if the
two meet (R154), or tried (R89): the MODEL'S FREE CHOICE (log 39). -/
def Obligations.FrameEndPlacesOrDiscards : Prop :=
  ∀ (s : State) (p : Port) (bytes : List Byte), s.tries = [] →
    let recorded (f : LinkFault) : LinkFault := if (s.port p).fault = .none then f else (s.port p).fault
    ((s.port p).frame = .unplaced → bytes.head? ≠ some 0x0F →
      exec (.frameEnd p bytes) s = .next (s.setPort p { s.port p with
        frame := .none, selectLow := false, fault := recorded .startWhileFull })) ∧
    ((s.port p).frame = .ignored →
      exec (.frameEnd p bytes) s = .next (s.setPort p { s.port p with frame := .none, selectLow := false })) ∧
    (∀ got, (s.port p).frame = .placing got → (got = [] → bytes.head? ≠ some 0x0F) →
      (∀ code flags tag len body, got ++ bytes = code :: flags :: tag :: len :: body → len.toNat ≤ 88 →
        body.length = len.toNat → (s.port p).requests ≠ [] →
        (¬ (flags = 0x01 ∧ code ∈ [0x08, 0x09, 0x0A, 0x32]) →
          exec (.frameEnd p bytes) s = .next (s.setPort p { s.port p with
            frame := .none, selectLow := false, requests := (s.port p).requests ++ [⟨code, tag, body⟩] })) ∧
        (flags = 0x01 → code ∈ [0x08, 0x09, 0x0A, 0x32] → s.admitting → (s.port p).responsesFull →
          s.pending.head? ≠ some (.portReset p) →
          exec (.frameEnd p bytes) s = .next ((s.setPort p { s.port p with
            frame := .none, selectLow := false, wait := .entry
            requests := ⟨code, tag, body⟩ :: (s.port p).requests }).leaveWaitList p))) ∧
      (∀ code flags tag len body, got ++ bytes = code :: flags :: tag :: len :: body → len.toNat ≤ 88 →
        body.length = len.toNat → (s.port p).requests = [] ∨ flags = 0x01 ∧ code ∈ [0x08, 0x09, 0x0A, 0x32] →
        s.linkTakes p → s.pending.head? = some (.portReset p) →
        let placed : State := { s.setPort p { s.port p with
          frame := .none, selectLow := false, wait := .none, requests := ⟨code, tag, body⟩ :: (s.port p).requests } with
            choices := s.choices + 1 }
        exec (.frameEnd p bytes) s = .next placed ∨
          exec (.frameEnd p bytes) s = .next ({ placed with tries := [p] }.runTries true)) ∧
      (∀ tag target, got ++ bytes = [0x08, 0x01, tag, 0x01, target] → s.pending.head? ≠ some (.portReset p) → s.admitting → (p = .cp ∨ s.mode = .operating) →
        (s.liveOf p).find? (s.cancelTarget target) = none →
        let displaced (w : HeadWait) : State := (s.setPort p { s.port p with
          frame := .none, selectLow := false, wait := w
          occupied := (s.port p).occupied ++ [plainResponse 0x08 tag .notFound []] }).leaveWaitList p
        ((s.port p).requests ≠ [] → (s.port p).occupied.length + (s.port p).reserved = 15 →
          exec (.frameEnd p bytes) s = .next (displaced .entry)) ∧
        (∀ (l : LinePort) (t : Byte) (b serial m k : Nat) (keys : List Nat) (mk tk : Nat × CellId) (prior : PosState)
            (rest : List Request),
          p = .line l → (s.port p).requests = ⟨0x01, t, deriveBody b serial m k keys⟩ :: rest →
          s.deriveFits l b serial m k keys mk tk prior → (s.port p).occupied.length + (s.port p).reserved < 15 →
          (5 ≤ (s.liveOf p).length → exec (.frameEnd p bytes) s = .next (displaced .quota)) ∧
          ((s.liveOf p).length < 5 → (∀ i, i < 15 → (s.job i).isSome) →
            exec (.frameEnd p bytes) s =
              .next { displaced .slot with waitList := s.waitList.filter (· != l) ++ [l] }))) ∧
      (¬ (4 ≤ (got ++ bytes).length ∧ ((got ++ bytes).getD 3 0).toNat ≤ 88 ∧
          (got ++ bytes).length = 4 + ((got ++ bytes).getD 3 0).toNat) →
        exec (.frameEnd p bytes) s = .next (s.setPort p { s.port p with
          frame := .none, selectLow := false, fault := recorded .frameLength })))

/-- A fetch frame of `n` bytes after its code (R147, R148): the header as it stood at the code byte, then the oldest
response, then zeros are sent; four bytes set the link fault record to NONE; all bytes of the response remove it, and
the head is tried if it waits for a response entry (R89). While the frame goes on data out carries the byte sent last, and
after its end it is low (R140); `fetched` is the model's record of the bytes sent (log 5). -/
def Obligations.FetchFrameSendsHeaderAndOldestResponse : Prop :=
  ∀ (s : State) (p : Port) (n : Nat), s.linkTakes p → s.tries = [] → (s.port p).selectLow = false →
    (s.port p).frame = .none → (s.port p).requests.length ≤ 8 →
    let response := ((s.port p).occupied.head?.map Response.bytes).getD []
    let removed : Prop := (s.port p).occupied ≠ [] ∧ 4 + response.length ≤ n
    let sent : PortUnit := { s.port p with
      fetched := (List.range n).map fun i => (s.statusHeader p ++ response).getD i 0
      fault := if 4 ≤ n then .none else (s.port p).fault
      occupied := if (s.port p).occupied ≠ [] ∧ 4 + response.length ≤ n then (s.port p).occupied.tail
        else (s.port p).occupied }
    let after := s.setPort p { sent with frame := .none, selectLow := false }
    let still := s.setPort p { sent with frame := .fetching (s.statusHeader p) response n, selectLow := true }
    (¬ removed → exec (.fetchFrame p n true) s = .next after) ∧
    (removed → exec (.fetchFrame p n true) s = .next ((after.addTryIf p .entry).runTries true)) ∧
    ((s.port p).requests = [] → exec (.fetchFrame p n true) s = .next after) ∧
    (¬ removed ∨ (s.port p).requests = [] → exec (.fetchFrame p n false) s = .next still) ∧
    (still.dataOut p = if n = 0 then 0 else (s.statusHeader p ++ response).getD (n - 1) 0) ∧ after.dataOut p = 0

/-- The frame timeout (R143) by the frame in progress; frame select stays low, and a fault that stands is kept (R144). -/
def Obligations.FrameTimeoutEndsTheFrame : Prop :=
  ∀ (s : State) (p : Port), s.tries = [] →
    let ends (f : LinkFault) := s.setPort p { s.port p with
      frame := .none, fault := if (s.port p).fault = .none then f else (s.port p).fault }
    (∀ got, (s.port p).frame = .placing got → exec (.frameTimeout p []) s = .next (ends .frameTimeout)) ∧
    (∀ h r n, (s.port p).frame = .fetching h r n → exec (.frameTimeout p []) s = .next (ends .frameTimeout)) ∧
    ((s.port p).frame = .unplaced → exec (.frameTimeout p []) s = .next (ends .startWhileFull)) ∧
    ((s.port p).frame = .ignored →
      exec (.frameTimeout p []) s = .next (s.setPort p { s.port p with frame := .none })) ∧
    ((s.port p).frame = .none → exec (.frameTimeout p []) s = .next s)

/-! ### Checks common to all requests -/

/-- The checks of R90 in order, each refusal carrying the tag and no slot or stage (R40), written at the admission (R91):
unknown code (R151), request class (R39), LOCKOUT on a line port, body length. -/
def Obligations.CommonChecksRefuseInOrder : Prop :=
  ∀ (s : State) (p : Port) (flags tag : Byte) (body : List Byte), s.quiet p → body.length ≤ 88 →
    (∀ code, code ∉ knownCodes → code ≠ 0x0F →
      exec (.unknownRequest p code flags tag body) s =
        .next (s.served p ⟨code, tag, .unknownRequest, none, .none, []⟩)) ∧
    (∀ k : ReqKind,
      (k.allowedOn p = false →
        exec (requestCommand k p flags tag body) s =
          .next (s.served p ⟨k.code, tag, .notPermitted, none, .none, []⟩)) ∧
      (k.allowedOn p = true → p ≠ .cp → s.mode = .lockout →
        exec (requestCommand k p flags tag body) s = .next (s.served p ⟨k.code, tag, .lockout, none, .none, []⟩)) ∧
      (k.allowedOn p = true → (p = .cp ∨ s.mode = .operating) → k.lengthOk body = false →
        exec (requestCommand k p flags tag body) s = .next (s.served p ⟨k.code, tag, .malformed, none, .none, []⟩)))

/-- In ZEROISING and FAILED a request is placed and its head waits, holding nothing (R89, R156, R162). -/
def Obligations.RequestsWaitInZeroisingAndFailed : Prop :=
  ∀ (s : State) (p : Port) (k : ReqKind) (flags tag : Byte) (body : List Byte), s.linkTakes p → s.tries = [] →
    (s.mode = .zeroising ∨ s.mode = .failed) → (s.port p).selectLow = false → (s.port p).requests = [] →
    body.length ≤ 88 →
    exec (requestCommand k p flags tag body) s = .next (s.setPort p { s.port p with
      frame := .none, requests := [⟨k.code, tag, body⟩], wait := .mode })

/-! ### Requests answered at their admission -/

/-- SPOIL (R71): its checks in order, batch number, reach, state, serial and position; then the ISSUED position becomes SPOILT
and no counter changes. -/
def Obligations.SpoilMarksAnIssuedPosition : Prop :=
  ∀ (s : State) (l : LinePort) (flags tag : Byte) (n serial : Nat), s.quiet (.line l) → s.mode = .operating →
    n ≤ 255 → serial ≤ maxSerial →
    let b := s.batch n
    let pos := serial - b.first
    let refused (a : Answer) : Prop :=
      exec (.spoil (.line l) flags tag (spoilBody n serial)) s =
        .next (s.served (.line l) ⟨0x02, tag, a, none, .none, []⟩)
    (31 < n → refused .range) ∧
    (n ≤ 31 →
      (b.domain ∉ (s.binding l).domains → refused .domain) ∧
      (b.domain ∈ (s.binding l).domains →
        (b.state ≠ .opened → b.state ≠ .paused → refused .batchState) ∧
        (b.state = .opened ∨ b.state = .paused →
          (serial < b.first ∨ b.first + b.quantity ≤ serial → refused .outOfBatch) ∧
          (b.first ≤ serial → serial < b.first + b.quantity →
            (b.map[pos]? ≠ some .issued → refused .notIssued) ∧
            (b.map[pos]? = some .issued →
              exec (.spoil (.line l) flags tag (spoilBody n serial)) s =
                .next ((s.setBatch n { b with map := b.map.set pos .spoilt }).served (.line l)
                  (plainResponse 0x02 tag .done ([byte n] ++ beBytes 4 serial ++ beBytes 2 pos ++
                    [byte (b.allowance - b.reissued - b.reissueRes)]))))))))

/-- SET-ATTN (R150): an enable set without NOTICE on a line port takes effect; with it, RANGE; a body with a membership byte that
is neither 0x00 nor 0x01 is RANGE (R171). And what the enable set does
(R149): ATTN is high while a condition of the set holds, at a port that main power, main reset and its own reset let work. -/
def Obligations.SetAttnReplacesTheEnableSet : Prop :=
  (∀ (s : State) (p : Port) (flags tag : Byte) (conds : List AttnCond), s.quiet p → (p = .cp ∨ s.mode = .operating) →
    conds = allConds.filter conds.contains →
    ((p = .cp ∨ AttnCond.notice ∉ conds) →
      exec (.setAttn p flags tag (setBytes allConds conds)) s =
        .next ((s.setPort p { s.port p with
          frame := .none, wait := .none, attn := conds
          occupied := (s.port p).occupied ++ [plainResponse 0x09 tag .done (setBytes allConds conds)] }).leaveWaitList p)) ∧
    (p ≠ .cp → AttnCond.notice ∈ conds →
      exec (.setAttn p flags tag (setBytes allConds conds)) s =
        .next (s.served p ⟨0x09, tag, .range, none, .none, []⟩))) ∧
  (∀ (s : State) (p : Port) (flags tag : Byte) (body : List Byte), s.quiet p → (p = .cp ∨ s.mode = .operating) →
    body.length = 5 → (∃ x ∈ body, x ≠ 0x00 ∧ x ≠ 0x01) →
    exec (.setAttn p flags tag body) s = .next (s.served p ⟨0x09, tag, .range, none, .none, []⟩)) ∧
  (∀ (s : State) (p : Port),
    s.attnHigh p = true ↔
      s.mainPower = true ∧ s.resetHeld = false ∧ (s.port p).resetIn = false ∧
      ∃ c ∈ (s.port p).attn,
        match c with
        | .responseReady => (s.port p).occupied ≠ []
        | .requestSpace =>
          (∃ got, (s.port p).frame = .placing got) ∧ (s.port p).requests.length + 1 < 8 ∨
            (∀ got, (s.port p).frame ≠ .placing got) ∧ (s.port p).requests.length < 8
        | .linkFault => (s.port p).fault ≠ .none
        | .mode => s.mode ≠ .operating
        | .notice => p = .cp ∧ s.notices ≠ [])

/-- READ-ENTRY, QUERY-BATCH and READ-MAP return what stands in the tables and change nothing of it (R19, R33, R70, R69), or are
refused by their checks: RANGE for a slot, batch or position out of range, DOMAIN for a batch out of reach (R32), BATCH_STATE
for the map of an UNUSED batch. -/
def Obligations.ReadingRequestsReturnTheTables : Prop :=
  ∀ (s : State) (flags tag : Byte),
    let refusal (p : Port) (code : Byte) (a : Answer) :=
      Host.Outcome.next (ρ := Refusal) (φ := Fault) (s.served p ⟨code, tag, a, none, .none, []⟩)
    (∀ slot, s.quiet .cp → 127 < slot → slot ≤ 255 →
      exec (.readEntry .cp flags tag [byte slot]) s = refusal .cp 0x14 .range) ∧
    (∀ (p : Port) (n : Nat), s.quiet p → n ≤ 255 → (p = .cp ∨ s.mode = .operating) →
      (31 < n → exec (.queryBatch p flags tag [byte n]) s = refusal p 0x0A .range) ∧
      (n ≤ 31 → (∃ l, p = .line l ∧ (s.batch n).domain ∉ (s.binding l).domains) →
        exec (.queryBatch p flags tag [byte n]) s = refusal p 0x0A .domain)) ∧
    (∀ n p0, s.quiet .cp → n ≤ 255 → p0 < 65536 →
      let answers (o : Host.Outcome State Fault Refusal) : Prop :=
        exec (.readMap .cp flags tag ([byte n] ++ beBytes 2 p0)) s = o
      (31 < n → answers (refusal .cp 0x2C .range)) ∧
      (n ≤ 31 → (s.batch n).state = .unused → answers (refusal .cp 0x2C .batchState)) ∧
      (n ≤ 31 → (s.batch n).state ≠ .unused → (s.batch n).quantity ≤ p0 → answers (refusal .cp 0x2C .range))) ∧
    (∀ slot, s.quiet .cp → slot ≤ 127 →
      (s.entry slot = .empty →
        exec (.readEntry .cp flags tag [byte slot]) s =
          .next (s.served .cp (plainResponse 0x14 tag .done [byte slot, 0x00]))) ∧
      (∀ k, s.entry slot = .key k →
        exec (.readEntry .cp flags tag [byte slot]) s =
          .next (s.served .cp (plainResponse 0x14 tag .done
            ([byte slot, 0x01] ++ k.label ++ [k.cls.code] ++ setBytes allUses k.uses ++ [byte k.rank, optByte k.domain] ++
              [(k.serving.map CellId.code).getD 0xFF] ++
              ([k.cellA.state.code] ++ checkBytes (k.cellA.check.getD 0) ++ [byte k.cellA.inFlight]) ++
              ([k.cellB.state.code] ++ checkBytes (k.cellB.check.getD 0) ++ [byte k.cellB.inFlight]))))) ∧
      (∀ g, s.entry slot = .gate g →
        exec (.readEntry .cp flags tag [byte slot]) s =
          .next (s.served .cp (plainResponse 0x14 tag .done
            ([byte slot, 0x02] ++ g.label ++ [byte g.target, byte g.reach] ++ setBytes allUses g.uses ++
              [optByte g.batch]))))) ∧
    (∀ (p : Port) (n : Nat), s.quiet p → n ≤ 31 →
      (p = .cp ∨ s.mode = .operating ∧ ∃ l, p = .line l ∧ (s.batch n).domain ∈ (s.binding l).domains) →
      exec (.queryBatch p flags tag [byte n]) s =
        .next (s.served p (plainResponse 0x0A tag .done
          ([byte n, (s.batch n).state.code, byte (s.batch n).domain] ++ beBytes 4 (s.batch n).first ++
            beBytes 2 (s.batch n).quantity ++ beBytes 2 (s.batch n).derived ++
            [byte (s.batch n).reissued, byte (s.batch n).allowance, byte (s.batch n).freshRes,
              byte (s.batch n).reissueRes, byte (s.batch n).level])))) ∧
    (∀ n p0, s.quiet .cp → n ≤ 31 → (s.batch n).state ≠ .unused → p0 < (s.batch n).quantity → p0 < 65536 →
      exec (.readMap .cp flags tag ([byte n] ++ beBytes 2 p0)) s =
        .next (s.served .cp (plainResponse 0x2C tag .done
          ([byte n] ++ (s.batch n).label ++ beBytes 2 p0 ++ [byte (min 64 ((s.batch n).quantity - p0))] ++
            (((s.batch n).map.drop p0).take (min 64 ((s.batch n).quantity - p0))).map PosState.code))))

/-- CREATE-KEY-ENTRY and CREATE-GATE (R13, R3, R34), for every body of their length: fields that spell no entry in range are
RANGE, an entry in a slot that is not EMPTY is OCCUPIED, each with the slot named when it is 0 to 127 (R12, R40); in an EMPTY
slot the new KEY entry stands with both cells BLANK and no serving cell, or the gate; a gate to a slot without a KEY entry is
refused GATE_TARGET with that slot. -/
def Obligations.EntriesAreCreatedInEmptySlots : Prop :=
  ∀ (s : State) (flags tag : Byte) (body : List Byte), s.quiet .cp → body.length = 16 →
    let slot := (body.getD 0 0).toNat
    let refused (code : Byte) (a : Answer) (carried : Option Nat) :=
      Host.Outcome.next (ρ := Refusal) (φ := Fault) (s.served .cp ⟨code, tag, a, carried, .none, []⟩)
    let named := if slot ≤ 127 then some slot else none
    let keyFields (label : List Byte) (cls : KeyClass) (uses : List KeyUse) (rank : Nat) (domain : Option Nat) : Prop :=
      slot ≤ 127 ∧ label.length = 8 ∧ uses ≠ [] ∧ uses = allUses.filter uses.contains ∧
      (∀ u ∈ uses, u ∈ (match cls with
        | .master => [KeyUse.derive]
        | .data => [KeyUse.decryptIn]
        | .transport => [KeyUse.wrap, KeyUse.encryptOut])) ∧
      rank ≤ 3 ∧ (∀ d ∈ domain, d ≤ 15) ∧ (domain.isSome ∨ cls = .transport) ∧
      body = keyEntryBody slot label cls uses rank domain
    let gateFields (label : List Byte) (target reach : Nat) (uses : List KeyUse) (batch : Option Nat) : Prop :=
      slot ≤ 127 ∧ label.length = 8 ∧ target ≤ 127 ∧ reach ≤ 3 ∧ uses ≠ [] ∧ uses = allUses.filter uses.contains ∧
      (∀ b ∈ batch, b ≤ 31) ∧ body = gateBody slot label target reach uses batch
    ((∀ label cls uses rank domain, ¬ keyFields label cls uses rank domain) →
      exec (.createKeyEntry .cp flags tag body) s = refused 0x10 .range named) ∧
    (∀ label cls uses rank domain, keyFields label cls uses rank domain →
      (s.entry slot ≠ .empty → exec (.createKeyEntry .cp flags tag body) s = refused 0x10 .occupied named) ∧
      (s.entry slot = .empty →
        exec (.createKeyEntry .cp flags tag body) s =
          .next ((s.setEntry slot (.key { label := label, cls := cls, uses := uses, rank := rank, domain := domain,
                                          cellA := ⟨.blank, none, none, 0⟩, cellB := ⟨.blank, none, none, 0⟩,
                                          serving := none })).served .cp
            (plainResponse 0x10 tag .done [byte slot])))) ∧
    ((∀ label target reach uses batch, ¬ gateFields label target reach uses batch) →
      exec (.createGate .cp flags tag body) s = refused 0x15 .range named) ∧
    (∀ label target reach uses batch, gateFields label target reach uses batch →
      (s.entry slot ≠ .empty → exec (.createGate .cp flags tag body) s = refused 0x15 .occupied named) ∧
      (s.entry slot = .empty →
        ((∃ k, s.entry target = .key k) →
          exec (.createGate .cp flags tag body) s =
            .next ((s.setEntry slot (.gate ⟨label, target, reach, uses, batch⟩)).served .cp
              (plainResponse 0x15 tag .done [byte slot, byte target]))) ∧
        ((∀ k, s.entry target ≠ .key k) →
          exec (.createGate .cp flags tag body) s = refused 0x15 .gateTarget (some target))))

/-- REMOVE-ENTRY (R14) and DISCARD-CELL (R18): by the entry and by the state of the cell, the removal or the refusal with
the slot it named (R12); RANGE without a slot for a slot past 127, and for a byte that names no cell. -/
def Obligations.EntriesAndCellsAreGivenUp : Prop :=
  ∀ (s : State) (flags tag : Byte) (slot : Nat), s.quiet .cp →
    (127 < slot → slot ≤ 255 →
      exec (.removeEntry .cp flags tag [byte slot]) s = .next (s.served .cp ⟨0x11, tag, .range, none, .none, []⟩) ∧
      ∀ c : Byte, exec (.discardCell .cp flags tag [byte slot, c]) s =
        .next (s.served .cp ⟨0x13, tag, .range, none, .none, []⟩)) ∧
    (slot ≤ 127 →
    let refusal (code : Byte) (a : Answer) := Host.Outcome.next (s.served .cp ⟨code, tag, a, some slot, .none, []⟩)
    (∀ c : Byte, c ≠ 0x00 → c ≠ 0x01 → exec (.discardCell .cp flags tag [byte slot, c]) s = refusal 0x13 .range) ∧
    ((∀ k, s.entry slot ≠ .key k) → ∀ c : CellId,
      exec (.discardCell .cp flags tag [byte slot, c.code]) s = refusal 0x13 .cellState) ∧
    (s.entry slot = .empty → exec (.removeEntry .cp flags tag [byte slot]) s = refusal 0x11 .absent) ∧
    (∀ g, s.entry slot = .gate g →
      exec (.removeEntry .cp flags tag [byte slot]) s =
        .next ((s.setEntry slot .empty).served .cp (plainResponse 0x11 tag .done [byte slot, 0x02]))) ∧
    (∀ k, s.entry slot = .key k →
      (k.cellA.state = .blank → k.cellB.state = .blank →
        exec (.removeEntry .cp flags tag [byte slot]) s =
          .next ((s.setEntry slot .empty).served .cp (plainResponse 0x11 tag .done [byte slot, 0x01]))) ∧
      (k.cellA.state ≠ .blank ∨ k.cellB.state ≠ .blank →
        exec (.removeEntry .cp flags tag [byte slot]) s = refusal 0x11 .cellState) ∧
      ∀ c : CellId,
        ((k.cell c).state = .ready →
          exec (.discardCell .cp flags tag [byte slot, c.code]) s =
            .next ((s.setEntry slot (.key (k.setCell c ⟨.blank, none, none, 0⟩))).served .cp
              (plainResponse 0x13 tag .done ([byte slot, c.code] ++ checkBytes ((k.cell c).check.getD 0))))) ∧
        ((k.cell c).state = .draining →
          exec (.discardCell .cp flags tag [byte slot, c.code]) s = refusal 0x13 .busy) ∧
        ((k.cell c).state = .forming →
          exec (.discardCell .cp flags tag [byte slot, c.code]) s = refusal 0x13 .ceremonyState) ∧
        ((k.cell c).state = .serving ∨ (k.cell c).state = .blank →
          exec (.discardCell .cp flags tag [byte slot, c.code]) s = refusal 0x13 .cellState)))

/-- SWAP-CELL (R16): the other cell, READY, begins to serve, and the cell that served drains while jobs hold it and is READY
otherwise; where none served, cell A is taken if READY, else cell B; with no READY cell to serve, or no KEY entry, CELL_STATE;
with a slot past 127 RANGE (R12). -/
def Obligations.SwapCellPutsAReadyCellIntoService : Prop :=
  ∀ (s : State) (flags tag : Byte) (slot : Nat), s.quiet .cp → slot ≤ 255 →
    (127 < slot →
      exec (.swapCell .cp flags tag [byte slot]) s = .next (s.served .cp ⟨0x12, tag, .range, none, .none, []⟩)) ∧
    (slot ≤ 127 → (∀ k, s.entry slot ≠ .key k) →
      exec (.swapCell .cp flags tag [byte slot]) s = .next (s.served .cp ⟨0x12, tag, .cellState, some slot, .none, []⟩)) ∧
    ∀ k : KeyEntry, slot ≤ 127 → s.entry slot = .key k →
    (∀ x : CellId, k.serving = some x → (k.cell x.other).state = .ready →
      let old : CellState := if (k.cell x).inFlight = 0 then .ready else .draining
      exec (.swapCell .cp flags tag [byte slot]) s =
        .next ((s.setEntry slot (.key { (k.setCell x.other { k.cell x.other with state := .serving }).setCell x
              { k.cell x with state := old } with serving := some x.other })).served .cp
          (plainResponse 0x12 tag .done ([byte slot, x.other.code] ++ checkBytes ((k.cell x.other).check.getD 0) ++
            [x.code, old.code, byte (k.cell x).inFlight])))) ∧
    (∀ y : CellId, k.serving = none → (k.cell y).state = .ready → (y = .b → k.cellA.state ≠ .ready) →
      exec (.swapCell .cp flags tag [byte slot]) s =
        .next ((s.setEntry slot (.key { k.setCell y { k.cell y with state := .serving } with serving := some y })).served
          .cp (plainResponse 0x12 tag .done ([byte slot, y.code] ++ checkBytes ((k.cell y).check.getD 0) ++
            [y.other.code, (k.cell y.other).state.code, byte (k.cell y.other).inFlight])))) ∧
    ((∀ x : CellId, k.serving = some x → (k.cell x.other).state ≠ .ready) →
      (k.serving = none → k.cellA.state ≠ .ready ∧ k.cellB.state ≠ .ready) →
      exec (.swapCell .cp flags tag [byte slot]) s = .next (s.served .cp ⟨0x12, tag, .cellState, some slot, .none, []⟩))

/-- BIND-PORT (R28, R30), for every body of its length: fields that spell no binding in range are RANGE without a slot, and the
binding stays; else the whole binding is replaced, and the port's deficit clamped to four times the new weight plus three; the
response returns both. That an idle limit of 255 is in range is the MODEL'S CHOICE (log 32). -/
def Obligations.BindPortReplacesBindingAndClampsDeficit : Prop :=
  ∀ (s : State) (flags tag : Byte) (body : List Byte), s.quiet .cp → body.length = 22 →
    let fields (l : LinePort) (b : Binding) : Prop :=
      1 ≤ b.rank ∧ b.rank ≤ 3 ∧ b.domains = allDomains.filter b.domains.contains ∧ b.base ≤ 127 ∧ b.count ≤ 128 ∧
      b.base + b.count ≤ 128 ∧ 1 ≤ b.weight ∧ b.weight ≤ 8 ∧ b.idleLimit ≤ 255 ∧ body = bindBody l b
    ((∀ l b, ¬ fields l b) →
      exec (.bindPort .cp flags tag body) s = .next (s.served .cp ⟨0x16, tag, .range, none, .none, []⟩)) ∧
    (∀ l b, fields l b →
      exec (.bindPort .cp flags tag body) s =
        .next (((s.setBinding l b).setDeficit l (min (s.deficit l) (4 * b.weight + 3))).served .cp
          (plainResponse 0x16 tag .done (body ++ [byte (min (s.deficit l) (4 * b.weight + 3))]))))

/-- BEGIN-CEREMONY (R45, R7): its checks in order, slot and cell, record, entry, cell state, m, presence byte, each refusal
with the slot named; then the cell is FORMING and the record COLLECTING, with an empty list and an all-zero running value. -/
def Obligations.BeginCeremonyFormsTheCell : Prop :=
  ∀ (s : State) (flags tag : Byte) (slot m : Nat) (cell given : Byte) (check : List Byte), s.quiet .cp → slot ≤ 255 →
    m ≤ 255 → check.length = 3 →
    let answers (o : Host.Outcome State Fault Refusal) : Prop :=
      exec (.beginCeremony .cp flags tag ([byte slot, cell, byte m, given] ++ check)) s = o
    let refused (a : Answer) : Prop :=
      answers (.next (s.served .cp ⟨0x20, tag, a, if slot ≤ 127 then some slot else none, .none, []⟩))
    (127 < slot ∨ cell ≠ 0x00 ∧ cell ≠ 0x01 → refused .range) ∧
    (∀ c : CellId, slot ≤ 127 → cell = c.code →
      (s.ceremony ≠ none → refused .ceremonyState) ∧
      (s.ceremony = none →
        ((∀ k, s.entry slot ≠ .key k) → refused .absent) ∧
        (∀ k, s.entry slot = .key k →
          ((k.cell c).state ≠ .blank → refused .cellState) ∧
          ((k.cell c).state = .blank →
            (m < 2 ∨ 5 < m → refused .range) ∧
            (2 ≤ m → m ≤ 5 →
              (given ≠ 0x00 → given ≠ 0x01 → refused .range) ∧
              (∀ expected, (given = 0x00 ∧ expected = none ∨ ∃ v : Check, given = 0x01 ∧ checkBytes v = check ∧
                  expected = some v) →
                answers (.next (((s.setEntry slot (.key (k.setCell c ⟨.forming, none, none, 0⟩))).setCeremony
                    { combining := false, slot := slot, cell := c, required := m, expected := expected, received := [],
                      retained := [], running := 0 }).served .cp
                  (plainResponse 0x20 tag .done [byte slot, c.code, byte m, given])))))))))

/-- OPEN-BATCH (R64): its checks in order, batch number, state, domain, quantity and last serial; then a new run with every
position FRESH and every count 0. That an allowance of 255 is in range is the MODEL'S CHOICE (log 32). -/
def Obligations.OpenBatchBeginsANewRun : Prop :=
  ∀ (s : State) (flags tag : Byte) (n domain first quantity allowance : Nat) (label : List Byte), s.quiet .cp →
    n ≤ 255 → domain ≤ 255 → first ≤ 4294967295 → quantity ≤ 65535 → allowance ≤ 255 → label.length = 12 →
    let answers (o : Host.Outcome State Fault Refusal) : Prop :=
      exec (.openBatch .cp flags tag (openBatchBody n domain label first quantity allowance)) s = o
    let refused (a : Answer) : Prop := answers (.next (s.served .cp ⟨0x28, tag, a, none, .none, []⟩))
    (31 < n → refused .range) ∧
    (n ≤ 31 → (s.batch n).state ≠ .unused → (s.batch n).state ≠ .closed → refused .batchState) ∧
    (n ≤ 31 → ((s.batch n).state = .unused ∨ (s.batch n).state = .closed) →
      (15 < domain ∨ quantity = 0 ∨ 8192 < quantity ∨ 4294967295 < first + quantity - 1 → refused .range) ∧
      (domain ≤ 15 → 1 ≤ quantity → quantity ≤ 8192 → first + quantity - 1 ≤ 4294967295 →
        answers (.next ((s.setBatch n
            { state := .opened, domain := domain, label := label, first := first, quantity := quantity,
              allowance := allowance, derived := 0, reissued := 0, freshRes := 0, reissueRes := 0, level := 0,
              map := List.replicate quantity .fresh }).served .cp
          (plainResponse 0x28 tag .done ([byte n, 0x01] ++ beBytes 4 first ++ beBytes 2 quantity ++
            beBytes 4 (first + quantity - 1) ++ [byte allowance]))))))

/-- PAUSE-BATCH, RESUME-BATCH and CLOSE-BATCH by the state of the batch (R60, R65 to R67); a close with no reservation held
raises BATCH_CLOSED at once; a batch number past 31 is RANGE. -/
def Obligations.BatchStatesFollowTheCustodyRequests : Prop :=
  ∀ (s : State) (flags tag : Byte) (n : Nat), s.quiet .cp →
    (31 < n → n ≤ 255 →
      let range (code : Byte) := Host.Outcome.next (s.served .cp ⟨code, tag, .range, none, .none, []⟩)
      exec (.pauseBatch .cp flags tag [byte n]) s = range 0x29 ∧
      exec (.resumeBatch .cp flags tag [byte n]) s = range 0x2A ∧
      exec (.closeBatch .cp flags tag [byte n]) s = range 0x2B) ∧
    (n ≤ 31 →
    let b := s.batch n
    let refusal (code : Byte) := Host.Outcome.next (s.served .cp ⟨code, tag, .batchState, none, .none, []⟩)
    (b.state = .opened →
      exec (.pauseBatch .cp flags tag [byte n]) s = .next ((s.setBatch n { b with state := .paused }).served .cp
        (plainResponse 0x29 tag .done [byte n, 0x02, byte b.freshRes, byte b.reissueRes]))) ∧
    (b.state ≠ .opened → exec (.pauseBatch .cp flags tag [byte n]) s = refusal 0x29) ∧
    (b.state = .paused ∨ b.state = .suspended →
      exec (.resumeBatch .cp flags tag [byte n]) s = .next ((s.setBatch n { b with state := .opened }).served .cp
        (plainResponse 0x2A tag .done [byte n, 0x01]))) ∧
    (b.state ≠ .paused → b.state ≠ .suspended → exec (.resumeBatch .cp flags tag [byte n]) s = refusal 0x2A) ∧
    (b.state = .opened ∨ b.state = .paused ∨ b.state = .suspended →
      (0 < b.freshRes + b.reissueRes →
        exec (.closeBatch .cp flags tag [byte n]) s = .next ((s.setBatch n { b with state := .closing }).served .cp
          (plainResponse 0x2B tag .done [byte n, 0x03, byte b.freshRes, byte b.reissueRes]))) ∧
      (b.freshRes + b.reissueRes = 0 →
        exec (.closeBatch .cp flags tag [byte n]) s =
          .next (((s.setBatch n { b with state := .closed }).notice (.batchClosed n) 0).served .cp
            (plainResponse 0x2B tag .done [byte n, 0x04, 0, 0])))) ∧
    (b.state = .unused ∨ b.state = .closing ∨ b.state = .closed →
      exec (.closeBatch .cp flags tag [byte n]) s = refusal 0x2B))

/-- STATUS (R153): mode, tamper record, battery and the oldest notices, up to 12, which leave the list. The second
subject byte of BATCH_PROGRESS, BATCH_CLOSED and TAMPER is the MODEL'S CHOICE (log 33). -/
def Obligations.StatusReturnsAndRemovesNotices : Prop :=
  ∀ (s : State) (flags tag : Byte), s.quiet .cp →
    exec (.status .cp flags tag []) s =
      .next ({ s with notices := s.notices.drop 12 }.served .cp (plainResponse 0x32 tag .done
        ([s.mode.code] ++ setBytes allCauses s.causes ++ [(s.firstCause.map Cause.code).getD 0xFF, s.battery.code] ++
          beBytes 2 s.notices.length ++ [byte (min 12 s.notices.length)] ++
          (s.notices.take 12).flatMap Notice.bytes)))

/-- CLEAR-LOCKOUT (R165): in LOCKOUT with no line active the record is emptied and the mode becomes OPERATING (here with no
head waiting at any port); with a line active TAMPER_ACTIVE; in OPERATING BUSY. -/
def Obligations.ClearLockoutReturnsToOperating : Prop :=
  ∀ (s : State) (flags tag : Byte), s.quiet .cp →
    (s.mode = .lockout → (∀ l, s.tamperPins.get l = false) → s.noHeads →
      exec (.clearLockout .cp flags tag []) s =
        .next ({ s with causes := [], firstCause := none, mode := .operating }.served .cp
          (plainResponse 0x31 tag .done [0x01]))) ∧
    (s.mode = .lockout → (∃ l, s.tamperPins.get l = true) →
      exec (.clearLockout .cp flags tag []) s = .next (s.served .cp ⟨0x31, tag, .tamperActive, none, .none, []⟩)) ∧
    (s.mode = .operating →
      exec (.clearLockout .cp flags tag []) s = .next (s.served .cp ⟨0x31, tag, .busy, none, .none, []⟩))

/-! ### Requests that make, feed or end jobs -/

/-- The admission of a DERIVE that passes its checks and finds its slot (R115 to R117, R72, R8, R83, R88): the position
reserved, the two cells captured in order, the job WAITING in the lowest free line slot and last on its port's list; then
the arbiter decides if the engine is IDLE (R108). -/
def Obligations.DeriveAdmissionMakesAJob : Prop :=
  ∀ (s : State) (l : LinePort) (flags tag : Byte) (b serial m t slot : Nat) (keys : List Nat) (mk tk : Nat × CellId)
    (prior : PosState), s.quiet (.line l) → s.mode = .operating → s.deriveFits l b serial m t keys mk tk prior →
    s.slotFor l slot →
    let pos := serial - (s.batch b).first
    let reserved : Batch :=
      if prior = .fresh then
        { s.batch b with map := (s.batch b).map.set pos .reservedFresh, freshRes := (s.batch b).freshRes + 1 }
      else
        { s.batch b with map := (s.batch b).map.set pos .reservedSpoilt, reissueRes := (s.batch b).reissueRes + 1 }
    let job : Job :=
      { owner := .line l, tag := tag, state := .waiting, captured := [mk, tk], cancelPending := false
        ctx := .derive { batch := b, pos := pos, prior := prior, keys := keys, done := 0, results := [] } }
    exec (.derive (.line l) flags tag (deriveBody b serial m t keys)) s =
      .next (((((((s.taken (.line l)).setBatch b reserved).capture mk.1 mk.2).capture tk.1 tk.2).setJob slot
        (some job)).setLive (.line l) (s.liveOf (.line l) ++ [slot])).arbitrate)

/-- DERIVE by the steps of R116: fields out of range RANGE, a batch out of reach DOMAIN (R32), not OPEN BATCH_STATE, a serial
not of the batch OUT_OF_BATCH (R63); then an access check that fails refuses it with slot and stage (R40); a position that
cannot be reserved, DUPLICATE or ALLOWANCE (R72); with five live jobs it waits for the port's quota, and with no free line slot
the port joins the slot wait list (R84, R92, R93). -/
def Obligations.DeriveRefusedOrWaits : Prop :=
  ∀ (s : State) (l : LinePort) (flags tag : Byte) (b serial m t : Nat) (ks : List Byte), s.quiet (.line l) →
    s.mode = .operating → b ≤ 255 → m ≤ 255 → t ≤ 255 → serial ≤ maxSerial → ks.length = 3 →
    let body := [byte b] ++ beBytes 4 serial ++ [byte m, byte t] ++ ks
    let pos := serial - (s.batch b).first
    let refused (x : RefusalRec) : Prop :=
      exec (.derive (.line l) flags tag body) s =
        .next (s.served (.line l) ⟨0x01, tag, x.answer, x.slot, x.stage, []⟩)
    let waits (w : HeadWait) := s.setPort (.line l) { s.port (.line l) with
      frame := .none, requests := [⟨0x01, tag, body⟩], wait := w }
    (31 < b ∨ 127 < m ∨ 127 < t ∨ (∃ x ∈ ks, x ≠ 0x00 ∧ x ≠ 0x01) ∨ (∀ x ∈ ks, x = 0x00) →
      refused ⟨.range, none, .none⟩) ∧
    (b ≤ 31 → m ≤ 127 → t ≤ 127 → (∀ x ∈ ks, x = 0x00 ∨ x = 0x01) → (∃ x ∈ ks, x = 0x01) →
      ((s.batch b).domain ∉ (s.binding l).domains → refused ⟨.domain, none, .none⟩) ∧
      ((s.batch b).domain ∈ (s.binding l).domains →
        ((s.batch b).state ≠ .opened → refused ⟨.batchState, none, .none⟩) ∧
        ((s.batch b).state = .opened →
          (serial < (s.batch b).first ∨ (s.batch b).first + (s.batch b).quantity ≤ serial →
            refused ⟨.outOfBatch, none, .none⟩) ∧
          ((s.batch b).first ≤ serial → serial < (s.batch b).first + (s.batch b).quantity →
            (∀ x, s.accessCheck l m .derive (some b) = .error x → refused x) ∧
            (∀ mk, s.accessCheck l m .derive (some b) = .ok mk →
              (∀ x, s.accessCheck l t .wrap (some b) = .error x → refused x) ∧
              (∀ tk, s.accessCheck l t .wrap (some b) = .ok tk →
                (∀ st, (s.batch b).map[pos]? = some st → st = .issued ∨ st = .reservedFresh ∨ st = .reservedSpoilt →
                  refused ⟨.duplicate, none, .none⟩) ∧
                ((s.batch b).map[pos]? = some .spoilt →
                  (s.batch b).allowance ≤ (s.batch b).reissued + (s.batch b).reissueRes →
                  refused ⟨.allowance, none, .none⟩) ∧
                ((s.batch b).map[pos]? = some .fresh ∨ (s.batch b).map[pos]? = some .spoilt ∧
                    (s.batch b).reissued + (s.batch b).reissueRes < (s.batch b).allowance →
                  (5 ≤ (s.liveOf (.line l)).length →
                    exec (.derive (.line l) flags tag body) s = .next (waits .quota)) ∧
                  ((s.liveOf (.line l)).length < 5 → (∀ i, i < 15 → (s.job i).isSome) →
                    exec (.derive (.line l) flags tag body) s = .next { waits .slot with
                      waitList := if l ∈ s.waitList then s.waitList else s.waitList ++ [l] }))))))))

/-- STREAM-OPEN by the steps of R127: RANGE for a reference past 127 or a count of 0, an access check that fails with its slot and
stage (R37, R40), a wait for the port's quota or for a line slot (R84, R92, R93); else its admission (R128, R129, R136): two
cells captured, the stream IDLE with its chaining values and its idle timer running, and DONE with the new handle. -/
def Obligations.StreamOpenMakesAnIdleStream : Prop :=
  ∀ (s : State) (l : LinePort) (flags tag : Byte) (src dst n : Nat) (ivIn ivOut : Block), s.quiet (.line l) →
    s.mode = .operating → src ≤ 255 → dst ≤ 255 → n ≤ 65535 →
    let body := streamOpenBody src dst ivIn ivOut n
    let refused (x : RefusalRec) : Prop :=
      exec (.streamOpen (.line l) flags tag body) s =
        .next (s.served (.line l) ⟨0x03, tag, x.answer, x.slot, x.stage, []⟩)
    let waits (w : HeadWait) := s.setPort (.line l) { s.port (.line l) with
      frame := .none, requests := [⟨0x03, tag, body⟩], wait := w }
    (127 < src ∨ 127 < dst ∨ n = 0 → refused ⟨.range, none, .none⟩) ∧
    (src ≤ 127 → dst ≤ 127 → 1 ≤ n →
      (∀ x, s.accessCheck l src .decryptIn none = .error x → refused x) ∧
      (∀ sk, s.accessCheck l src .decryptIn none = .ok sk →
        (∀ x, s.accessCheck l dst .encryptOut none = .error x → refused x) ∧
        (∀ dk, s.accessCheck l dst .encryptOut none = .ok dk →
          (5 ≤ (s.liveOf (.line l)).length →
            exec (.streamOpen (.line l) flags tag body) s = .next (waits .quota)) ∧
          ((s.liveOf (.line l)).length < 5 → (∀ i, i < 15 → (s.job i).isSome) →
            exec (.streamOpen (.line l) flags tag body) s = .next { waits .slot with
              waitList := if l ∈ s.waitList then s.waitList else s.waitList ++ [l] }) ∧
          (∀ slot, s.slotFor l slot →
            let seq := s.seq slot + 1
            let job : Job :=
              { owner := .line l, tag := tag, state := .idle, captured := [sk, dk], cancelPending := false
                ctx := .stream { seq := seq, chainIn := ivIn, chainOut := ivOut, declared := n, done := 0,
                                 inService := none, staged := none, idle := some (s.binding l).idleLimit,
                                 closing := none } }
            exec (.streamOpen (.line l) flags tag body) s =
              .next ((((((s.served (.line l) (plainResponse 0x03 tag .done ([byte slot, seq] ++ beBytes 2 n))).capture sk.1
                sk.2).capture dk.1 dk.2).setJob slot (some job)).setLive (.line l) (s.liveOf (.line l) ++ [slot])).setSeq
                  slot seq)))))

/-- STREAM-CHUNK on a stream of the port (R129 to R131): refused OVERRUN past the declared count; into service in an IDLE
stream, which stops the timer and calls the arbiter if the engine is IDLE; staged when none is; else the head waits for the
staging place. A block count other than 1 to 4 is RANGE, a handle that names no stream of the port STREAM_STATE. -/
def Obligations.StreamChunkEntersServiceOrIsStaged : Prop :=
  ∀ (s : State) (l : LinePort) (flags tag seq : Byte) (slot : Nat) (blocks : List Block), s.quiet (.line l) →
    s.mode = .operating → slot ≤ 255 →
    let body := streamChunkBody slot seq blocks
    let chunk : Chunk := { tag := tag, blocks := blocks, done := 0, plain := [], out := [] }
    let refused (a : Answer) := Host.Outcome.next (s.served (.line l) ⟨0x04, tag, a, none, .none, []⟩)
    (blocks.length = 0 ∨ blocks.length = 5 → exec (.streamChunk (.line l) flags tag body) s = refused .range) ∧
    (1 ≤ blocks.length → blocks.length ≤ 4 →
      (15 ≤ slot ∨ (∀ j c, s.job slot = some j → j.ctx ≠ .stream c)) →
      exec (.streamChunk (.line l) flags tag body) s = refused .streamState) ∧
    (∀ j c, 1 ≤ blocks.length → blocks.length ≤ 4 → slot < 15 → s.job slot = some j → j.ctx = .stream c →
      (j.owner ≠ .line l ∨ c.seq ≠ seq ∨ j.cancelPending = true →
        exec (.streamChunk (.line l) flags tag body) s = refused .streamState) ∧
      (j.owner = .line l → c.seq = seq → j.cancelPending = false →
        (c.declared < c.accepted + blocks.length →
          exec (.streamChunk (.line l) flags tag body) s = refused .overrun) ∧
        (c.accepted + blocks.length ≤ c.declared →
          (j.state = .idle →
            exec (.streamChunk (.line l) flags tag body) s =
              .next (((s.taken (.line l)).setJob slot (some { j with
                state := .waiting, ctx := .stream { c with inService := some chunk, idle := none } })).arbitrate)) ∧
          (j.state ≠ .idle → c.staged = none →
            exec (.streamChunk (.line l) flags tag body) s =
              .next ((s.taken (.line l)).setJob slot (some { j with
                ctx := .stream { c with staged := some chunk } }))) ∧
          (j.state ≠ .idle → c.staged ≠ none →
            exec (.streamChunk (.line l) flags tag body) s =
              .next ((s.setPort (.line l) { s.port (.line l) with
                frame := .none, requests := [⟨0x04, tag, body⟩], wait := .staging slot }).leaveWaitList (.line l))))))

/-- STREAM-CLOSE (R135) and idle expiry (R136). A close that names no stream, a slot past 14 or one that holds no stream (R129), or
a stream that is not the port's, or closing already, is STREAM_STATE; a stream not IN_GRANT ends at the admission, here with no port waiting for a slot: its chunks answer CANCELLED, then the close
DONE with the blocks done; in grant it is deferred to the grant end. An IDLE stream whose limit is not 0 ends without a response
when its idle period reaches it. Then, for a waiting DERIVE, what becomes of the freed slot (R94, R89, R95): offered to the first
port on the slot wait list, whose head takes it, or is refused by its checks; passed over by a listed port without a response
entry, which keeps its place; or taken by the stream's own port, whose head waited for its quota. -/
def Obligations.StreamsEndByCloseOrIdleExpiry : Prop :=
  (∀ (s : State) (l : LinePort) (flags tag seq : Byte) (slot : Nat), s.quiet (.line l) → s.mode = .operating → slot ≤ 255 →
    (15 ≤ slot ∨ ∀ j c, s.job slot = some j → j.ctx ≠ .stream c) →
    exec (.streamClose (.line l) flags tag [byte slot, seq]) s =
      .next (s.served (.line l) ⟨0x05, tag, .streamState, none, .none, []⟩)) ∧
  ∀ (s : State) (slot : Nat) (j : Job) (c : StreamCtx), slot < 15 → s.job slot = some j → j.ctx = .stream c → s.tries = [] →
    (∀ (l : LinePort) (flags tag seq : Byte), s.quiet (.line l) → s.mode = .operating →
      (j.owner ≠ .line l ∨ c.seq ≠ seq ∨ j.cancelPending = true →
        exec (.streamClose (.line l) flags tag [byte slot, seq]) s =
          .next (s.served (.line l) ⟨0x05, tag, .streamState, none, .none, []⟩)) ∧
      (j.owner = .line l → c.seq = seq → j.cancelPending = false →
        let answers :=
          (c.inService.toList.map fun ch => plainResponse 0x04 ch.tag .cancelled []) ++
          (c.staged.toList.map fun ch => plainResponse 0x04 ch.tag .cancelled []) ++
          [plainResponse 0x05 tag .done ([byte slot, c.seq] ++ beBytes 2 c.done)]
        (j.state = .inGrant →
          exec (.streamClose (.line l) flags tag [byte slot, seq]) s =
            .next ((s.taken (.line l)).setJob slot (some { j with
              cancelPending := true, ctx := .stream { c with closing := some tag } }))) ∧
        (j.state ≠ .inGrant → s.waitList = [] → answers.length ≤ (s.port (.line l)).reserved + 1 →
          exec (.streamClose (.line l) flags tag [byte slot, seq]) s =
            .next (State.jobGone (s.setPort (.line l) { s.port (.line l) with
              frame := .none, wait := .none, occupied := (s.port (.line l)).occupied ++ answers
              reserved := (s.port (.line l)).reserved + 1 - answers.length }) slot j)))) ∧
    (j.state ≠ .idle ∨ c.idle = some 0 → exec (.streamIdleExpiry slot) s = .next s) ∧
    (∀ limit, j.state = .idle → c.idle = some limit → limit ≠ 0 →
      let ended := State.jobGone s slot j
      (s.waitList = [] → s.noHeads → exec (.streamIdleExpiry slot) s = .next ended) ∧
      (∀ (l : LinePort) (tag : Byte) (b serial m t : Nat) (keys : List Nat), s.mode = .operating →
        let head : Request := ⟨0x01, tag, deriveBody b serial m t keys⟩
        let pos := serial - (ended.batch b).first
        (∀ mk tk prior free, ended.deriveFits l b serial m t keys mk tk prior → ended.slotFor l free →
          (s.onlyHead (.line l) head →
            (s.waitList = [l] ∨ s.waitList = [] ∧ j.owner = .line l ∧ (s.port (.line l)).wait = .quota) →
            exec (.streamIdleExpiry slot) s =
              .next ((ended.headTaken (.line l)).withDerive l tag b pos prior keys mk tk free).arbitrate) ∧
          (∀ full q, full ≠ l → s.waitList = [full, l] → s.admitting → (s.port (.line full)).requests = [q] →
            needsSlot (.line full) q → (s.port (.line full)).responsesFull → (s.port (.line l)).requests = [head] →
            (s.port (.line l)).responsesFull = false →
            (∀ p, p ≠ .line full → p ≠ .line l → (s.port p).requests = []) →
            exec (.streamIdleExpiry slot) s =
              .next (((ended.setPort (.line full) { s.port (.line full) with wait := .entry }).headTaken
                (.line l)).withDerive l tag b pos prior keys mk tk free).arbitrate)) ∧
        (∀ x, ended.deriveNames l b serial m t keys → ended.accessCheck l m .derive (some b) = .error x →
          s.onlyHead (.line l) head → s.waitList = [l] →
          exec (.streamIdleExpiry slot) s =
            .next (ended.headRefused (.line l) ⟨0x01, tag, x.answer, x.slot, x.stage, []⟩))))

/-- CANCEL (R96, R54): NOT_FOUND with no such job; else ACCEPTED, and the oldest DERIVE or CUSTODY job with the tag is flagged
when IN_GRANT, left as it is when already flagged, and otherwise ends with CANCELLED behind the ACCEPTED: a DERIVE releases
its position and cells (R74, R10), a CUSTODY job due for its combination pass takes the ceremony with it; no decision of
the arbiter is made (R114). -/
def Obligations.CancelEndsOrFlagsTheOldestJob : Prop :=
  ∀ (s : State) (p : Port) (flags tag target : Byte), s.quiet p → (p = .cp ∨ s.mode = .operating) →
    let accepted := plainResponse 0x08 tag .accepted []
    ((s.liveOf p).find? (s.cancelTarget target) = none →
      exec (.cancel p flags tag [target]) s = .next (s.served p (plainResponse 0x08 tag .notFound []))) ∧
    (∀ slot j, slot < 16 → (s.liveOf p).find? (s.cancelTarget target) = some slot → s.job slot = some j → j.owner = p →
      (j.cancelPending = true → exec (.cancel p flags tag [target]) s = .next (s.served p accepted)) ∧
      (j.cancelPending = false → j.state = .inGrant →
        exec (.cancel p flags tag [target]) s =
          .next ((s.served p accepted).setJob slot (some { j with cancelPending := true }))) ∧
      (j.cancelPending = false → j.state ≠ .inGrant → s.waitList = [] → 1 ≤ (s.port p).reserved →
        let answered (code : Byte) := s.setPort p { s.port p with
          frame := .none, wait := .none, reserved := (s.port p).reserved - 1
          occupied := (s.port p).occupied ++ [accepted, plainResponse code j.tag .cancelled []] }
        (∀ c, j.ctx = .derive c → slot < 15 →
          exec (.cancel p flags tag [target]) s =
            .next (State.jobGone ((answered 0x01).releasePos c.batch c.pos) slot j)) ∧
        (∀ c, j.ctx = .custody c → c.abandon = none → p = .cp →
          (c.due = .component →
            exec (.cancel p flags tag [target]) s =
              .next (((answered 0x21).setJob slot none).setLive p ((s.liveOf p).filter (· != slot)))) ∧
          (c.due = .combination →
            exec (.cancel p flags tag [target]) s =
              .next ((((answered 0x21).setJob slot none).setLive p
                ((s.liveOf p).filter (· != slot))).closeCeremony)))))

/-- COMPONENT (R46, R47): the four checks in order; with slot 15 free the CUSTODY job due for its component pass, which the
arbiter grants at once if the engine is IDLE (R108, R109); with it held the head waits for it (R92). -/
def Obligations.ComponentMakesTheCustodyJob : Prop :=
  ∀ (s : State) (flags tag : Byte) (custodian : Nat) (value : Block), s.quiet .cp → custodian ≤ 255 →
    let body := componentBody custodian value
    let refused (a : Answer) := Host.Outcome.next (s.served .cp ⟨0x21, tag, a, none, .none, []⟩)
    (s.ceremony = none → exec (.component .cp flags tag body) s = refused .ceremonyState) ∧
    (∀ cer, s.ceremony = some cer →
      (cer.combining = true → exec (.component .cp flags tag body) s = refused .ceremonyState) ∧
      (cer.combining = false →
        (custodian = 0 ∨ 15 < custodian → exec (.component .cp flags tag body) s = refused .range) ∧
        (1 ≤ custodian → custodian ≤ 15 →
          ((∃ x ∈ cer.received, x.1 = custodian) →
            exec (.component .cp flags tag body) s = refused .duplicateCustodian) ∧
          ((∀ x ∈ cer.received, x.1 ≠ custodian) →
            (value = 0 ∨ value ∈ cer.retained → exec (.component .cp flags tag body) s = refused .weakComponent) ∧
            (value ≠ 0 → value ∉ cer.retained →
              (s.job 15 = none →
                exec (.component .cp flags tag body) s =
                  .next ((((s.taken .cp).setJob 15 (some
                    { owner := .cp, tag := tag, state := .waiting, captured := [(cer.slot, cer.cell)],
                      cancelPending := false
                      ctx := .custody { custodian := custodian, value := value, due := .component, abandon := none } })).setLive
                    .cp (s.liveOf .cp ++ [15])).arbitrate)) ∧
              (s.job 15 ≠ none →
                exec (.component .cp flags tag body) s = .next (s.setPort .cp { s.port .cp with
                  frame := .none, requests := [⟨0x21, tag, body⟩], wait := .slot15 })))))))

/-- ABANDON-CEREMONY (R52, R53): refused CEREMONY_STATE with the record CLOSED or an abandonment pending; with no live CUSTODY
job the record closes at once; a WAITING job ends CANCELLED first, without a decision of the arbiter (R114); a job in grant
defers it to the grant end. -/
def Obligations.AbandonCeremonyClosesTheRecord : Prop :=
  ∀ (s : State) (flags tag : Byte), s.quiet .cp →
    (s.ceremony = none →
      exec (.abandonCeremony .cp flags tag []) s = .next (s.served .cp ⟨0x22, tag, .ceremonyState, none, .none, []⟩)) ∧
    (∀ cer, s.ceremony = some cer →
      let done := plainResponse 0x22 tag .done [byte cer.slot, cer.cell.code, byte cer.received.length]
      (s.job 15 = none → exec (.abandonCeremony .cp flags tag []) s = .next (s.closeCeremony.served .cp done)) ∧
      (∀ j c, s.job 15 = some j → j.ctx = .custody c → j.owner = .cp →
        (j.cancelPending = true →
          exec (.abandonCeremony .cp flags tag []) s =
            .next (s.served .cp ⟨0x22, tag, .ceremonyState, none, .none, []⟩)) ∧
        (j.cancelPending = false → j.state = .inGrant →
          exec (.abandonCeremony .cp flags tag []) s =
            .next ((s.taken .cp).setJob 15 (some { j with
              cancelPending := true, ctx := .custody { c with abandon := some tag } }))) ∧
        (j.cancelPending = false → j.state ≠ .inGrant → 1 ≤ (s.port .cp).reserved →
          exec (.abandonCeremony .cp flags tag []) s =
            .next ((((s.setPort .cp { s.port .cp with
              frame := .none, wait := .none, reserved := (s.port .cp).reserved - 1
              occupied := (s.port .cp).occupied ++ [plainResponse 0x21 j.tag .cancelled [], done] }).setJob 15
              none).setLive .cp ((s.liveOf .cp).filter (· != 15))).closeCeremony))))

/-- ZEROISE-ALL (R159): REQUESTED is recorded, the part enters ZEROISING, and the response entry is held for the end of the
zeroisation. That the cells are cleared within the event is the MODEL'S CHOICE (log 20). -/
def Obligations.ZeroiseAllEntersZeroising : Prop :=
  ∀ (s : State) (flags tag : Byte), s.quiet .cp → (∀ x ∈ s.causes, x ∈ allCauses) →
    ∃ t, exec (.zeroiseAll .cp flags tag []) s = .next t ∧ EnteredZeroising .requested (s.taken .cp) t ∧
      t.zeroTag = some tag ∧ (t.port .cp).requests = [] ∧
      ((∀ n j, s.job n = some j → j.owner ≠ .cp) → (t.port .cp).reserved = (s.port .cp).reserved + 1)

/-! ### The engine -/

/-- The size of a grant (R105): the passes of a unit by kind; 4 when the passes done are a multiple of 4 and at least 4
passes remain, else 1; it never crosses the end of a unit; and the grants of every unit that the rule's table lists. -/
def Obligations.GrantSizeFollowsPassesDone : Prop :=
  (∀ (j : Job) (c : DeriveCtx), j.ctx = .derive c → j.unitPasses = 3 * c.keys.length ∧ j.passesDone = c.done) ∧
  (∀ (j : Job) (c : StreamCtx) (ch : Chunk), j.ctx = .stream c → c.inService = some ch →
    j.unitPasses = 2 * ch.blocks.length ∧ j.passesDone = ch.done) ∧
  (∀ (j : Job) (c : CustodyCtx), j.ctx = .custody c → j.unitPasses = 1 ∧ j.passesDone = 0) ∧
  (∀ j : Job, j.passesDone < j.unitPasses →
    (j.grantSize = 4 ↔ j.passesDone % 4 = 0 ∧ 4 ≤ j.unitPasses - j.passesDone) ∧
    (j.grantSize = 4 ∨ j.grantSize = 1) ∧ j.passesDone + j.grantSize ≤ j.unitPasses) ∧
  (∀ (tag : Byte) (blocks : List Block), (newChunk tag blocks).done = 0) ∧
  (∀ (j : Job), j.passesDone = 0 →
    (j.unitPasses = 3 → j.grantSize = 1) ∧ (j.unitPasses = 2 → j.grantSize = 1) ∧ (j.unitPasses = 1 → j.grantSize = 1) ∧
    (4 ≤ j.unitPasses → j.grantSize = 4)) ∧
  (∀ (j : Job), (j.passesDone = 4 →
    (j.unitPasses = 6 → j.grantSize = 1) ∧ (j.unitPasses = 8 → j.grantSize = 4) ∧ (j.unitPasses = 9 → j.grantSize = 4)) ∧
    (j.passesDone = 5 → j.unitPasses = 6 → j.grantSize = 1) ∧ (j.passesDone = 8 → j.unitPasses = 9 → j.grantSize = 1))

/-- The arbiter's decision with the engine IDLE (R108, R104, R103): the custody job first, at no charge; else the oldest WAITING job
of the port under visit, if its deficit covers the grant; else the visit ends, with the deficit kept by a port that still
has a WAITING job and 0 otherwise, and the pointer moves to the next port with one, which gets four times its weight and is
granted, the engine taking the working copy of its first pass. With no job WAITING nothing changes. -/
def Obligations.ArbiterDecidesByRotation : Prop :=
  ∀ s : State, s.engine = none →
    let started (t : State) (slot : Nat) (j : Job) : State :=
      { t.setJob slot (some { j with state := .inGrant }) with
        engine := some ⟨slot, j.grantSize, [], s.passInput j⟩ }
    (∀ j, s.job 15 = some j → j.state = .waiting → j.owner = .cp → s.arbitrate = started s 15 j) ∧
    ((∀ j, s.job 15 = some j → j.state ≠ .waiting) →
      ((∀ l, s.oldestWaiting (.line l) = none) → s.arbitrate = s) ∧
      (∀ slot j, s.oldestWaiting (.line s.pointer) = some slot → s.job slot = some j → j.owner = .line s.pointer →
        j.grantSize ≤ s.deficit s.pointer →
        s.arbitrate = started (s.setDeficit s.pointer (s.deficit s.pointer - j.grantSize)) slot j) ∧
      (∀ l slot j, (∀ x y, s.oldestWaiting (.line s.pointer) = some x → s.job x = some y →
          s.deficit s.pointer < y.grantSize) →
        (rotationFrom s.pointer).find? (fun x => (s.oldestWaiting (.line x)).isSome) = some l →
        s.oldestWaiting (.line l) = some slot → s.job slot = some j → j.owner = .line l → 1 ≤ (s.binding l).weight →
        let left := if (s.oldestWaiting (.line s.pointer)).isSome then s.deficit s.pointer else 0
        let before := if l = s.pointer then left else s.deficit l
        s.arbitrate = started { (s.setDeficit s.pointer left).setDeficit l
          (before + 4 * (s.binding l).weight - j.grantSize) with pointer := l } slot j))

/-- GRANT_END of a DERIVE (R106, R121, R122, R98). Results go to the context. With passes left it is WAITING again; with its
passes done and no port waiting for a slot it completes: commit, releases in order, DONE with serial, issue kind, key set
and key entries, slot freed; a listed port's DERIVE takes the slot before the engine is free (R94). Then the engine is free and
the arbiter decides. -/
def Obligations.GrantEndMovesOrCompletesADerive : Prop :=
  ∀ (s : State) (g : Grant) (j : Job) (c : DeriveCtx) (l : LinePort), s.engine = some g → s.job g.slot = some j →
    j.owner = .line l → j.cancelPending = false → s.tries = [] →
    (s.recordAll j (s.grantResults j g)).ctx = .derive c →
    let j' := s.recordAll j (s.grantResults j g)
    (c.done < 3 * c.keys.length →
      exec .grantEnd s =
        .next ({ s.setJob g.slot (some { j' with state := .waiting }) with engine := none }.arbitrate)) ∧
    (3 * c.keys.length ≤ c.done → g.slot < 15 → 1 ≤ (s.port (.line l)).reserved →
      let s1 := s.commitPos c.batch c.pos
      let done := plainResponse 0x01 j.tag .done
        ([byte c.batch] ++ beBytes 4 ((s.batch c.batch).first + c.pos) ++ [if c.prior = .spoilt then 0x02 else 0x01] ++
          setBytes allKeyIndices c.keys ++
          c.results.flatMap fun k => [byte k.index] ++ blockBytes (k.wrapped.getD 0) ++ checkBytes (k.check.getD 0))
      let ended := State.jobGone (s1.setPort (.line l) { s1.port (.line l) with
        reserved := (s1.port (.line l)).reserved - 1
        occupied := (s1.port (.line l)).occupied ++ [done] }) g.slot j
      (s.waitList = [] → s.noHeads → exec .grantEnd s = .next ({ ended with engine := none }.arbitrate)) ∧
      (∀ (o : LinePort) (tag : Byte) (b serial m t free : Nat) (keys : List Nat) (mk tk : Nat × CellId) (prior : PosState),
        s.mode = .operating → s.waitList = [o] →
        s.onlyHead (.line o) ⟨0x01, tag, deriveBody b serial m t keys⟩ →
        ended.deriveFits o b serial m t keys mk tk prior → ended.slotFor o free →
        exec .grantEnd s = .next ({ (ended.headTaken (.line o)).withDerive o tag b (serial - (ended.batch b).first) prior
          keys mk tk free with engine := none }.arbitrate)))

/-- GRANT_END of a STREAM (R106, R133, R134). With passes left in the chunk it is WAITING; at the chunk's end FINAL ends the
stream at its declared count, and otherwise DONE is written and the staged chunk enters service, or the stream is IDLE with
a new idle period under the limit now bound (R31). A chunk at the head that waits for the staging place takes it as the staged
chunk enters service (R89, R131). -/
def Obligations.GrantEndMovesAStream : Prop :=
  ∀ (s : State) (g : Grant) (j : Job) (c : StreamCtx) (ch : Chunk) (l : LinePort), s.engine = some g →
    s.job g.slot = some j → j.owner = .line l → j.cancelPending = false → s.tries = [] → g.slot < 15 →
    (s.recordAll j (s.grantResults j g)).ctx = .stream c → c.inService = some ch →
    let j' := s.recordAll j (s.grantResults j g)
    let b := ch.blocks.length
    let answer (a : Answer) := plainResponse 0x04 ch.tag a (beBytes 2 c.done ++ [byte b] ++ ch.out.flatMap blockBytes)
    let answered (a : Answer) := s.setPort (.line l) { s.port (.line l) with
      reserved := (s.port (.line l)).reserved - 1, occupied := (s.port (.line l)).occupied ++ [answer a] }
    (ch.done < 2 * b →
      exec .grantEnd s =
        .next ({ s.setJob g.slot (some { j' with state := .waiting }) with engine := none }.arbitrate)) ∧
    (2 * b ≤ ch.done → 1 ≤ (s.port (.line l)).reserved →
      (c.done + b = c.declared → s.waitList = [] → s.noHeads →
        exec .grantEnd s = .next ({ State.jobGone (answered .final) g.slot j with engine := none }.arbitrate)) ∧
      (c.done + b ≠ c.declared →
        (∀ next, c.staged = some next →
          let goesOn (staged : Option Chunk) := some { j' with
            state := .waiting
            ctx := .stream { c with done := c.done + b, inService := some next, staged := staged } }
          (s.noHeads →
            exec .grantEnd s =
              .next ({ (answered .done).setJob g.slot (goesOn none) with engine := none }.arbitrate)) ∧
          (∀ (tag : Byte) (blocks : List Block), s.mode = .operating → (s.port (.line l)).wait = .staging g.slot →
            s.onlyHead (.line l) ⟨0x04, tag, streamChunkBody g.slot c.seq blocks⟩ → 1 ≤ blocks.length →
            blocks.length ≤ 4 → c.done + b + next.blocks.length + blocks.length ≤ c.declared →
            exec .grantEnd s = .next ({ ((answered .done).headTaken (.line l)).setJob g.slot (goesOn (some
              { tag := tag, blocks := blocks, done := 0, plain := [], out := [] })) with engine := none }.arbitrate))) ∧
        (c.staged = none → s.noHeads →
          exec .grantEnd s = .next ({ (answered .done).setJob g.slot (some { j' with
            state := .idle
            ctx := .stream { c with
              done := c.done + b, inService := none, idle := some (s.binding l).idleLimit } }) with
                engine := none }.arbitrate))))

/-- GRANT_END of a component pass (R48, R49): the custodian and the check value of the component join the received list, the
component the retained ones and the running value; a list that is short of m answers DONE and frees slot 15, where a COMPONENT
that waits for it is tried and becomes the next CUSTODY job (R89, R51), before the arbitration by the MODEL'S CHOICE (log 7); a
full one makes the record COMBINING and the job WAITING for its combination pass, which the arbiter grants in the same event (R106
step 4, R108 step 1, R109): so it stands against row 3 of R55 by the MODEL'S CHOICE (log 36). -/
def Obligations.GrantEndJoinsAComponent : Prop :=
  ∀ (s : State) (g : Grant) (j : Job) (c : CustodyCtx) (cer : Ceremony), s.engine = some g → g.slot = 15 →
    s.job 15 = some j → j.owner = .cp → j.ctx = .custody c → c.due = .component → j.cancelPending = false →
    g.size = 1 → g.held = [] → g.work = s.passInput j → s.ceremony = some cer → s.tries = [] →
    let check := firstThree (encipher c.value 0)
    let joined : Ceremony := { cer with
      received := cer.received ++ [(c.custodian, check)], retained := cer.retained ++ [c.value]
      running := cer.running ^^^ c.value }
    (cer.received.length + 1 < cer.required → 1 ≤ (s.port .cp).reserved →
      let ended := (((s.setCeremony joined).setPort .cp { s.port .cp with
        reserved := (s.port .cp).reserved - 1
        occupied := (s.port .cp).occupied ++ [plainResponse 0x21 j.tag .done
          ([byte c.custodian] ++ checkBytes check ++ [byte (cer.received.length + 1), byte cer.required, 0x00] ++
            [0, 0, 0])] }).setJob 15 none).setLive .cp ((s.liveOf .cp).filter (· != 15))
      (s.noHeads → exec .grantEnd s = .next ({ ended with engine := none }.arbitrate)) ∧
      (∀ (tag : Byte) (custodian : Nat) (value : Block), cer.combining = false → (s.port .cp).wait = .slot15 →
        s.onlyHead .cp ⟨0x21, tag, componentBody custodian value⟩ → 1 ≤ custodian → custodian ≤ 15 →
        (∀ x ∈ joined.received, x.1 ≠ custodian) → value ≠ 0 → value ∉ joined.retained →
        exec .grantEnd s =
          .next ({ ((ended.headTaken .cp).setJob 15 (some
            { owner := .cp, tag := tag, state := .waiting, captured := [(cer.slot, cer.cell)], cancelPending := false
              ctx := .custody { custodian := custodian, value := value, due := .component, abandon := none } })).setLive .cp
                (ended.liveOf .cp ++ [15]) with engine := none }.arbitrate))) ∧
    (cer.required ≤ cer.received.length + 1 → s.noHeads →
      let combining : State := { (s.setCeremony { joined with combining := true }).setJob 15 (some { j with
        state := .waiting, ctx := .custody { c with due := .combination } }) with engine := none }
      exec .grantEnd s = .next (combining.startGrant 15))

/-- GRANT_END of a combination pass (R50, R5): WEAK_KEY for an all-zero running value, KCV_MISMATCH for a check value other
than the expected one, else LOADED, which makes the target cell READY with the combined value and its check value; the other
results leave it BLANK. The record closes and the COMPONENT is answered. -/
def Obligations.GrantEndCombinesTheComponents : Prop :=
  ∀ (s : State) (g : Grant) (j : Job) (c : CustodyCtx) (cer : Ceremony) (k : KeyEntry), s.engine = some g →
    g.slot = 15 → s.job 15 = some j → j.owner = .cp → j.ctx = .custody c → c.due = .combination →
    j.cancelPending = false → g.size = 1 → g.held = [] → g.work = s.passInput j → s.ceremony = some cer →
    s.entry cer.slot = .key k → s.tries = [] → s.noHeads → 1 ≤ (s.port .cp).reserved →
    let combined := firstThree (encipher cer.running 0)
    let own := (cer.received.getLast?.map Prod.snd).getD 0
    let ends (cell : Cell) (result : Byte) (shown : Check) :=
      Host.Outcome.next (ρ := Refusal) (φ := Fault)
        ({ ((((s.setEntry cer.slot (.key (k.setCell cer.cell cell))).setPort .cp { s.port .cp with
          reserved := (s.port .cp).reserved - 1
          occupied := (s.port .cp).occupied ++ [plainResponse 0x21 j.tag .done
            ([byte c.custodian] ++ checkBytes own ++ [byte cer.received.length, byte cer.required, result] ++
              checkBytes shown)] }).setJob 15 none).setLive .cp ((s.liveOf .cp).filter (· != 15))) with
            engine := none, ceremony := none }.arbitrate)
    (cer.running = 0 → exec .grantEnd s = ends ⟨.blank, none, none, 0⟩ 0x02 0) ∧
    (cer.running ≠ 0 → (∃ e, cer.expected = some e ∧ e ≠ combined) →
      exec .grantEnd s = ends ⟨.blank, none, none, 0⟩ 0x03 combined) ∧
    (cer.running ≠ 0 → (cer.expected = none ∨ cer.expected = some combined) →
      exec .grantEnd s = ends ⟨.ready, some cer.running, some combined, 0⟩ 0x01 combined)

/-- GRANT_END of a job whose cancel-pending flag is set (R96, R97, R106), whatever its passes: their results are discarded. A
DERIVE does not commit; its position and cells are released and it answers CANCELLED. A STREAM ends by its pending STREAM-CLOSE:
its chunks answer CANCELLED, the close DONE with the blocks done (R135). A CUSTODY job cancelled by CANCEL answers CANCELLED, with
the record kept at its component pass and closed at its combination pass (R54); by a deferred ABANDON-CEREMONY the record closes
and that request is answered DONE behind it (R53). -/
def Obligations.GrantEndOfACancelledDeriveReleases : Prop :=
  ∀ (s : State) (g : Grant) (j : Job), s.engine = some g → s.job g.slot = some j → j.cancelPending = true → s.tries = [] →
    s.waitList = [] → s.noHeads →
    let answered (t : State) (rs : List Response) : State := t.setPort j.owner { t.port j.owner with
      reserved := (t.port j.owner).reserved - rs.length, occupied := (t.port j.owner).occupied ++ rs }
    (∀ (c : DeriveCtx) (l : LinePort), g.slot < 15 → j.owner = .line l → j.ctx = .derive c →
      1 ≤ (s.port (.line l)).reserved →
      exec .grantEnd s = .next ({ State.jobGone (answered (s.releasePos c.batch c.pos)
        [plainResponse 0x01 j.tag .cancelled []]) g.slot j with engine := none }.arbitrate)) ∧
    (∀ (c : StreamCtx) (l : LinePort) (tag : Byte), g.slot < 15 → j.owner = .line l → j.ctx = .stream c →
      c.closing = some tag →
      let answers :=
        (c.inService.toList.map fun ch => plainResponse 0x04 ch.tag .cancelled []) ++
        (c.staged.toList.map fun ch => plainResponse 0x04 ch.tag .cancelled []) ++
        [plainResponse 0x05 tag .done ([byte g.slot, c.seq] ++ beBytes 2 c.done)]
      answers.length ≤ (s.port (.line l)).reserved →
      exec .grantEnd s = .next ({ State.jobGone (answered s answers) g.slot j with engine := none }.arbitrate)) ∧
    (∀ c : CustodyCtx, g.slot = 15 → j.owner = .cp → j.ctx = .custody c →
      let ended (rs : List Response) :=
        ((answered s rs).setJob 15 none).setLive .cp ((s.liveOf .cp).filter (· != 15))
      let cancelled := plainResponse 0x21 j.tag .cancelled []
      (c.abandon = none → 1 ≤ (s.port .cp).reserved →
        (c.due = .component →
          exec .grantEnd s = .next ({ ended [cancelled] with engine := none }.arbitrate)) ∧
        (c.due = .combination →
          exec .grantEnd s = .next ({ (ended [cancelled]).closeCeremony with engine := none }.arbitrate))) ∧
      (∀ tag cer, c.abandon = some tag → s.ceremony = some cer → 2 ≤ (s.port .cp).reserved →
        exec .grantEnd s = .next ({ (ended [cancelled, plainResponse 0x22 tag .done
          [byte cer.slot, cer.cell.code, byte cer.received.length]]).closeCeremony with engine := none }.arbitrate)))

/-! ### Port resets, tamper, battery and power -/

/-- PORT_RESET (R154, R100, R112) and its release. The port's queues are empty, its unit has its start values, READY, ATTN and
data out are low and its live jobs are gone. With no port waiting for a slot and no other head, all that becomes of the rest: a
grant of the port is abandoned; its jobs end in list order without a response, releasing positions and cells (R79, R24); it
leaves the slot wait list, a line port's deficit is 0, the custody port's ceremony closes (R56); after an abandoned grant the
arbiter decides; nothing else changes. That the port is emptied before its jobs end is the MODEL'S CHOICE (log 13). -/
def Obligations.PortResetEmptiesThePort : Prop :=
  ∀ (s : State) (p : Port),
    let unit : PortUnit :=
      { frame := .none, selectLow := (s.port p).selectLow, resetIn := true, requests := [], occupied := [], reserved := 0,
        fault := .none, attn := [.responseReady, .linkFault, .mode], fetched := [], wait := .none }
    (s.alive → (s.port p).resetIn = false → s.tries = [] → s.jobsListed →
      ∃ t, exec (.portReset p) s = .next t ∧ t.liveOf p = [] ∧ t.port p = unit ∧
        t.ready p = false ∧ t.attnHigh p = false ∧ t.dataOut p = 0) ∧
    (s.alive → (s.port p).resetIn = false → s.tries = [] → s.liveOf p = [] → s.grantOwnedBy p = false →
      (∀ l, p = .line l →
        exec (.portReset p) s = .next (((s.setPort p unit).leaveWaitList p).setDeficit l 0)) ∧
      (p = .cp → exec (.portReset p) s = .next { (s.setPort p unit).closeCeremony with zeroTag := none })) ∧
    (s.alive → (s.port p).resetIn = false → s.tries = [] → s.jobsListed → s.waitList = [] →
      (∀ q, q ≠ p → (s.port q).requests = []) →
      let ended (t : State) : State := (s.liveOf p).foldl State.jobReset (t.setPort p unit)
      let cleared (t : State) : State :=
        match p with
        | .line l => (ended t).setDeficit l 0
        | .cp => { (ended t).closeCeremony with zeroTag := none }
      ((∀ g j, s.engine = some g → s.job g.slot = some j → j.owner ≠ p) →
        exec (.portReset p) s = .next (cleared s)) ∧
      (∀ g j, s.engine = some g → s.job g.slot = some j → j.owner = p →
        exec (.portReset p) s = .next (cleared { s with engine := none }).arbitrate)) ∧
    exec (.portResetRelease p) s = .next (s.setPort p { s.port p with resetIn := false })

/-- TAMPER_EVENT in OPERATING or LOCKOUT. With the part at work (R157): the line is recorded, the part enters ZEROISING, and TAMPER
stands in the notice list. On battery alone, above the store holding level, or with the main reset line held (R164, R169): the
line is recorded, the zeroisation begins, each OPEN or PAUSED batch is SUSPENDED with its reservations left for the sweep, and no
notice is raised. While the power-up sweep runs the event is held to its end (R168). That every cell is cleared within the event
is the MODEL'S CHOICE (log 20). -/
def Obligations.TamperEventEntersZeroising : Prop :=
  ∀ (s : State) (l : TamperLine), s.tamperPins.get l = false →
    (s.alive → s.sweep = .idle → (s.mode = .operating ∨ s.mode = .lockout) → (∀ x ∈ s.causes, x ∈ allCauses) →
      ∃ t, exec (.tamperEvent l) s = .next t ∧ EnteredZeroising (.line l) s t ∧
        t.tamperPins = s.tamperPins.set l true ∧ (∃ n ∈ t.notices, n.key = .tamper l)) ∧
    (s.mainPower = false ∧ s.holdingLost = false ∨ s.mainPower = true ∧ s.resetHeld = true → s.sweep = .idle →
      (s.mode = .operating ∨ s.mode = .lockout) →
      ∃ t, exec (.tamperEvent l) s = .next t ∧
        t = { s with
          tamperPins := s.tamperPins.set l true
          causes := allCauses.filter fun x => x == .line l || s.causes.contains x
          firstCause := if s.causes.isEmpty then some (.line l) else s.firstCause
          mode := .zeroising, zeroisePending := true, zeroRun := some 0, keys := t.keys, batches := t.batches } ∧
        (∀ n, t.entry n = (s.entry n).zeroised) ∧
        (∀ n, t.batch n = { s.batch n with
          state := if (s.batch n).state = .opened ∨ (s.batch n).state = .paused then .suspended
            else (s.batch n).state })) ∧
    (s.mainPower = true ∨ s.holdingLost = false → (∃ c, s.sweep = .running c ∨ s.sweep = .clearing c) →
      exec (.tamperEvent l) s =
        .next { s with tamperPins := s.tamperPins.set l true, heldTamper := s.heldTamper ++ [l] })

/-- TAMPER_EVENT while ZEROISING or FAILED is recorded, raises TAMPER where main power is present and the main reset line
released, and changes nothing else (R157, R158, R163); on battery alone it raises none (R157), and none with the main reset line
held, by the MODEL'S CHOICE (log 14): R169 says so for OPERATING and LOCKOUT only. A line already active gives no event (R157); a
line becoming inactive changes the line alone. -/
def Obligations.TamperEventIsOnlyRecordedInZeroising : Prop :=
  ∀ (s : State) (l : TamperLine),
    (s.tamperPins.get l = true → exec (.tamperEvent l) s = .next s) ∧
    (s.tamperPins.get l = false → (s.sweep = .idle ∨ ∃ c, s.sweep = .due c) → (s.mode = .zeroising ∨ s.mode = .failed) →
      let recorded : State := { s with
        tamperPins := s.tamperPins.set l true
        causes := allCauses.filter fun x => x == .line l || s.causes.contains x
        firstCause := if s.causes.isEmpty then some (.line l) else s.firstCause }
      (s.alive → exec (.tamperEvent l) s = .next (recorded.notice (.tamper l) 0)) ∧
      (s.mainPower = false ∧ s.holdingLost = false ∨ s.mainPower = true ∧ s.resetHeld = true →
        exec (.tamperEvent l) s = .next recorded)) ∧
    exec (.tamperLineInactive l) s = .next { s with tamperPins := s.tamperPins.set l false }

/-- READ_BACK_ATTEMPT_END (R161, R159), here with no head waiting: a passing attempt ends the zeroisation in LOCKOUT with ZEROISED;
a third failure ends it in FAILED with zeroise-pending still set; either answers the ZEROISE-ALL that started it with the mode and
the attempts made; an earlier failure only counts, over a cleared table. Without main power, or with the main reset line held, a
passing attempt clears zeroise-pending and leaves LOCKOUT in the store, a third failure leaves ZEROISING there, and there is no
notice and no response (R163, R164, R169), under the held line by the MODEL'S CHOICE (logs 14, 25). A sweep that waited for the end
begins at it (R163, R164), after a third failure with the mode ZEROISING of the store by the MODEL'S CHOICE (log 25); a sweep that
repeated the zeroisation goes on with its steps 3 to 5 at it (R168 step 2), here with no tamper event held. -/
def Obligations.ReadBackEndsTheZeroisation : Prop :=
  ∀ (s : State) (n : Nat), s.zeroRun = some n → s.tries = [] → s.noHeads →
    let answered (t : State) (mode : Byte) : State :=
      match s.zeroTag with
      | none => t
      | some tag => { t.setPort .cp { s.port .cp with
          reserved := (s.port .cp).reserved - 1
          occupied := (s.port .cp).occupied ++ [plainResponse 0x30 tag .done [mode, byte (n + 1)]] } with zeroTag := none }
    let passed := answered { s.notice .zeroised 0 with zeroisePending := false, mode := .lockout, zeroRun := none } 0x03
    let failed := answered { s with mode := .failed, zeroRun := none } 0x04
    (n + 1 < 3 → exec (.readBackAttemptEnd false) s = .next { s.clearCells with zeroRun := some (n + 1) }) ∧
    (s.alive = false → s.sweep = .idle →
      exec (.readBackAttemptEnd true) s =
        .next { s with zeroisePending := false, mode := .lockout, zeroRun := none } ∧
      (s.mode = .zeroising → 3 ≤ n + 1 →
        exec (.readBackAttemptEnd false) s = .next { s with mode := .zeroising, zeroRun := none })) ∧
    (s.alive → (s.zeroTag.isSome → 1 ≤ (s.port .cp).reserved) →
      (s.sweep = .idle →
        exec (.readBackAttemptEnd true) s = .next passed ∧
        (3 ≤ n + 1 → exec (.readBackAttemptEnd false) s = .next failed)) ∧
      (∀ c, s.sweep = .due c →
        exec (.readBackAttemptEnd true) s = .next { passed with sweep := .running c } ∧
        (3 ≤ n + 1 →
          exec (.readBackAttemptEnd false) s = .next { failed with mode := .zeroising, sweep := .running c })) ∧
      (∀ c, s.sweep = .clearing c → c ≠ .storeLost → s.heldTamper = [] →
        let raised (first : List Notice) :=
          (first ++ s.sweepNotices c).foldl (fun ns x => raiseIn x.key x.content ns) s.notices
        (s.battery = .good →
          ∃ t, exec (.readBackAttemptEnd true) s = .next t ∧ SweptOver s t ∧ t.mode = .lockout ∧ t.zeroisePending = false ∧
            t.zeroRun = none ∧ t.notices = raised [⟨.zeroised, 0⟩]) ∧
        (s.battery = .good → 3 ≤ n + 1 →
          ∃ t, exec (.readBackAttemptEnd false) s = .next t ∧ SweptOver s t ∧ t.mode = .failed ∧ t.zeroRun = none ∧
            t.zeroisePending = s.zeroisePending ∧ t.notices = raised [])))

/-- BATTERY_STATE_CHANGE (R166) and STORE_HOLDING_LOST with main power off (R167, R163, R157). Measured, a battery that falls below
the battery low level is LOW with BATTERY_LOW raised, and one that rises above it GOOD with nothing raised; in the sweep, without
main power or with the main reset line held (the last by the MODEL'S CHOICE, log 24) it is not measured, and only its level
changes. Below the store holding level the store marker goes bad, a zeroisation stops unfinished and the lines are watched no
more while the supply stays there, and a supply above the battery low level, which lies above the holding level, stands above it
again. The contents of the store are not kept: its mode and its tamper record are free, within R156. The MODEL'S CHOICES: the
tables read as empty at once and nothing changes with main power present (log 17), the spoil allowance of an UNUSED batch is 0
(log 35), and a supply below a level falls below it no more (log 18). -/
def Obligations.BatteryAndStoreLevelsActOnTheirState : Prop :=
  ∀ s : State,
    (s.alive → s.sweep = .idle →
      (s.battery = .good →
        exec (.batteryStateChange true) s =
          .next ({ s with batteryBelow := true, battery := .low }.notice .batteryLow 0)) ∧
      (s.battery = .low → exec (.batteryStateChange true) s = .next { s with batteryBelow := true }) ∧
      exec (.batteryStateChange false) s =
        .next { s with batteryBelow := false, holdingLost := false, battery := .good }) ∧
    (s.alive = false ∨ s.sweep ≠ .idle →
      exec (.batteryStateChange true) s = .next { s with batteryBelow := true } ∧
      exec (.batteryStateChange false) s = .next { s with batteryBelow := false, holdingLost := false }) ∧
    (s.mainPower = true → exec .storeHoldingLost s = .next s) ∧
    (s.mainPower = false →
      (s.holdingLost = false →
        ∃ t, exec .storeHoldingLost s = .next t ∧
          t = { s with
            keys := Vector.replicate 128 .empty
            bindings := ⟨⟨3, [], 0, 0, 1, 30⟩, ⟨3, [], 0, 0, 1, 30⟩, ⟨3, [], 0, 0, 1, 30⟩, ⟨3, [], 0, 0, 1, 30⟩⟩
            batches := Vector.replicate 32 unusedBatch
            mode := t.mode, causes := t.causes, firstCause := t.firstCause, zeroisePending := t.zeroisePending
            markerGood := false, zeroRun := none, batteryBelow := true, holdingLost := true, choices := t.choices } ∧
          t.mode ≠ .failed ∧ (t.zeroisePending = true ↔ t.mode = .zeroising)) ∧
      (s.holdingLost = true → exec .storeHoldingLost s = .next s) ∧
      ∀ l, s.holdingLost = true → s.tamperPins.get l = false →
        exec (.tamperEvent l) s = .next { s with tamperPins := s.tamperPins.set l true })

/-- MAIN_POWER_LOSS and MAIN_RESET with no tamper event held by a sweep (R58, R99, R101, R107, R155, R163, R167, R169): what is
volatile is lost at the event, without any job-end event or response; what the store holds stays. The MODEL'S CHOICES here: in
ZEROISING the main reset takes queues and notices at once (log 14), the port units take their start values at the loss (log 15),
a line already held gives no event (log 18), and in-flight counts, FORMING cells and reservations stand until the sweep (log
19). -/
def Obligations.PowerLossAndMainResetTakeVolatileState : Prop :=
  ∀ s : State, s.mainPower = true → s.heldTamper = [] →
    exec .mainPowerLoss s = .next (State.volatileLost s false s.resetHeld) ∧
    (s.resetHeld = false → exec .mainReset s = .next (State.volatileLost s true true)) ∧
    (s.resetHeld = true → exec .mainReset s = .next s)

/-- MAIN_POWER_ON and MAIN_RESET_RELEASE begin the sweep, or leave it due at the end of a zeroisation that runs (R168, R163,
R164, R169). That a battery supply which fell below the store holding level counts as above it again from MAIN_POWER_ON on is the
MODEL'S CHOICE (log 17). -/
def Obligations.PowerOnAndReleaseBeginTheSweep : Prop :=
  ∀ s : State,
    (s.mainPower = false → s.resetHeld = false →
      (s.zeroRun = none → exec .mainPowerOn s =
        .next { s with mainPower := true, holdingLost := false, sweep := .running .power }) ∧
      (s.zeroRun ≠ none → exec .mainPowerOn s =
        .next { s with mainPower := true, holdingLost := false, sweep := .due .power })) ∧
    (s.mainPower = true → s.resetHeld = true →
      (s.zeroRun = none → exec .mainResetRelease s =
        .next { s with resetHeld := false, sweep := .running .resetLine }) ∧
      (s.zeroRun ≠ none → exec .mainResetRelease s =
        .next { s with resetHeld := false, sweep := .due .resetLine }))

/-- POWER_UP_SWEEP after power or main reset with a good store marker, no head placed and no tamper event held (R168, R21, R81, R58,
R101, R107, R129, R166). With zeroise-pending clear: the values after the sweep, BATCH_CLOSED in ascending batch order, then
RESTARTED, then BATTERY_LOW for a battery found low. With it set the zeroisation is begun again first (R168 step 2), and the
batches that were OPEN or PAUSED are SUSPENDED (R80); that its cells are cleared within this event is the MODEL'S CHOICE
(log 20). -/
def Obligations.SweepPutsAGoodStoreRight : Prop :=
  ∀ (s : State) (c : SweepCause), s.sweep = .running c → (c = .power ∨ c = .resetLine) → s.markerGood = true →
    s.tries = [] → s.noHeads → s.heldTamper = [] →
    (s.zeroisePending = false → s.alive →
      ∃ t, exec .powerUpSweep s = .next t ∧ SweptOver s t ∧ t.mode = s.mode ∧ t.notices = s.sweepNotices c) ∧
    (s.zeroisePending = true →
      ∃ t, exec .powerUpSweep s = .next t ∧
        t = { s with
          sweep := .clearing c, mode := .zeroising, zeroRun := some 0, notices := [], battery := .good
          keys := t.keys, batches := t.batches } ∧
        (∀ n, t.entry n = (s.entry n).zeroised) ∧
        ∀ n, t.batch n = { s.batch n with
          state := if (s.batch n).state = .opened ∨ (s.batch n).state = .paused then .suspended
            else (s.batch n).state })

/-- POWER_UP_SWEEP with a bad store marker (R170), with no request placed meanwhile: every entry is EMPTY (R23), every batch
record UNUSED with the values of R59 (R82) and every binding at its default (R27), whatever the store held. With no tamper line
active and no event held, also the mode LOCKOUT, the record {STORE_LOST} with STORE_LOST first, zeroise-pending clear, and
RESTARTED(STORE_LOST) as the first notice, before BATTERY_LOW for a battery found low (R166). That the spoil allowance of an
UNUSED batch is 0 is the MODEL'S CHOICE (log 35). -/
def Obligations.StoreLossEmptiesTheTables : Prop :=
  ∀ (s : State) (c : SweepCause), s.sweep = .running c → s.markerGood = false → s.noHeads →
    ∃ t, exec .powerUpSweep s = .next t ∧ (∀ n, t.entry n = .empty) ∧
      (∀ n, t.batch n = ⟨.unused, 0, List.replicate 12 0x20, 0, 0, 0, 0, 0, 0, 0, 0, []⟩) ∧ t.markerGood = true ∧
      (∀ l, t.binding l = ⟨3, [], 0, 0, 1, 30⟩) ∧
      ((∀ l, s.tamperPins.get l = false) → s.heldTamper = [] →
        t.mode = .lockout ∧ t.causes = [.storeLost] ∧ t.firstCause = some .storeLost ∧ t.zeroisePending = false ∧
        t.zeroRun = none ∧ t.sweep = .idle ∧
        t.notices = ⟨.restarted, 3⟩ :: if s.batteryBelow then [⟨.batteryLow, 0⟩] else [])

/-! ### Tests and computations -/

/-- The access check passes exactly when every step of R37 passes, and then names the SERVING cell of the key it resolves:
window, entry; for a gate its reach rank, uses and batch binding, its target a KEY entry and that key's uses; for a key its
rank and uses; then the domains and the serving cell. -/
def Obligations.AccessCheckPassesWhenEveryStepPasses : Prop :=
  ∀ (s : State) (l : LinePort) (r : Nat) (u : KeyUse) (batch : Option Nat) (n : Nat) (c : CellId),
    s.accessCheck l r u batch = .ok (n, c) ↔
      (s.binding l).base ≤ r ∧ r < (s.binding l).base + (s.binding l).count ∧
      ∃ k, s.entry n = .key k ∧ u ∈ k.uses ∧ (∀ d, k.domain = some d → d ∈ (s.binding l).domains) ∧
        (u = .derive → k.domain = batch.map fun b => (s.batch b).domain) ∧ k.serving = some c ∧
        (n = r ∧ (s.binding l).rank ≤ k.rank ∨
          ∃ g, s.entry r = .gate g ∧ g.target = n ∧ (s.binding l).rank ≤ g.reach ∧ u ∈ g.uses ∧
            (g.batch = none ∨ g.batch = batch))

/-- The access check step by step, in the order of R37 with the first failure deciding: window; entry; for a gate its reach rank,
uses, batch binding and target, and the target's uses; for a key its rank and uses; then the domains of the key it resolves, at
the stage it was resolved, and its serving cell. -/
def Obligations.AccessCheckRefusesAtItsFirstFailingStep : Prop :=
  ∀ (s : State) (l : LinePort) (r : Nat) (u : KeyUse) (batch : Option Nat),
    let bd := s.binding l
    let answers (x : Except RefusalRec (Nat × CellId)) : Prop := s.accessCheck l r u batch = x
    let resolved (k : KeyEntry) (n : Nat) (stage : Stage) : Prop :=
      (∀ d, k.domain = some d → d ∉ bd.domains → answers (.error ⟨.domain, some n, stage⟩)) ∧
      ((∀ d, k.domain = some d → d ∈ bd.domains) →
        (u = .derive → k.domain ≠ (batch.map fun b => (s.batch b).domain) →
          answers (.error ⟨.domain, some n, stage⟩)) ∧
        ((u = .derive → k.domain = batch.map fun b => (s.batch b).domain) →
          (k.serving = none → answers (.error ⟨.cellEmpty, some n, stage⟩)) ∧
          ∀ c, k.serving = some c → answers (.ok (n, c))))
    (r < bd.base ∨ bd.base + bd.count ≤ r → answers (.error ⟨.window, some r, .direct⟩)) ∧
    (bd.base ≤ r → r < bd.base + bd.count →
      (s.entry r = .empty → answers (.error ⟨.absent, some r, .direct⟩)) ∧
      (∀ g, s.entry r = .gate g →
        (g.reach < bd.rank → answers (.error ⟨.rank, some r, .direct⟩)) ∧
        (bd.rank ≤ g.reach →
          (u ∉ g.uses → answers (.error ⟨.use, some r, .direct⟩)) ∧
          (u ∈ g.uses →
            (∀ b, g.batch = some b → batch ≠ some b → answers (.error ⟨.binding, some r, .direct⟩)) ∧
            (g.batch = none ∨ g.batch = batch →
              ((∀ k, s.entry g.target ≠ .key k) → answers (.error ⟨.gateTarget, some g.target, .throughGate⟩)) ∧
              ∀ k, s.entry g.target = .key k →
                (u ∉ k.uses → answers (.error ⟨.use, some g.target, .throughGate⟩)) ∧
                (u ∈ k.uses → resolved k g.target .throughGate))))) ∧
      ∀ k, s.entry r = .key k →
        (k.rank < bd.rank → answers (.error ⟨.rank, some r, .direct⟩)) ∧
        (bd.rank ≤ k.rank →
          (u ∉ k.uses → answers (.error ⟨.use, some r, .direct⟩)) ∧ (u ∈ k.uses → resolved k r .direct)))

/-- A position through its life (R72 to R75, R68): what the reservation test answers in each state; what a commit and a
release make of a reserved position and its counters, whatever the state of the batch; the level and BATCH_PROGRESS of a
fresh commit; and the close of a CLOSING batch that a commit or release empties. -/
def Obligations.PositionsAreReservedCommittedAndReleased : Prop :=
  (∀ (b : Batch) (pos : Nat) (st : PosState), b.map[pos]? = some st →
    (st = .fresh → b.reserveTest pos = .ok .fresh) ∧
    (st = .spoilt → b.reissued + b.reissueRes < b.allowance → b.reserveTest pos = .ok .spoilt) ∧
    (st = .spoilt → b.allowance ≤ b.reissued + b.reissueRes → b.reserveTest pos = .error .allowance) ∧
    (st = .issued ∨ st = .reservedFresh ∨ st = .reservedSpoilt → b.reserveTest pos = .error .duplicate)) ∧
  (∀ (s : State) (n pos : Nat), n < 32 →
    let b := s.batch n
    let closes : Prop := b.state = .closing ∧ b.freshRes + b.reissueRes = 1
    let level := (List.range 5).foldl (fun top k => if (k * b.quantity + 3) / 4 ≤ b.derived + 1 then k else top) 0
    (b.map[pos]? = some .reservedFresh → 1 ≤ b.freshRes →
      (¬ closes → s.releasePos n pos =
        s.setBatch n { b with map := b.map.set pos .fresh, freshRes := b.freshRes - 1 }) ∧
      (closes → s.releasePos n pos = (s.setBatch n { b with
        map := b.map.set pos .fresh, freshRes := b.freshRes - 1, state := .closed }).notice (.batchClosed n) 0) ∧
      (¬ closes → level ≤ b.level → s.commitPos n pos =
        s.setBatch n { b with map := b.map.set pos .issued, freshRes := b.freshRes - 1, derived := b.derived + 1 }) ∧
      (¬ closes → b.level < level → s.commitPos n pos = (s.setBatch n { b with
        map := b.map.set pos .issued, freshRes := b.freshRes - 1, derived := b.derived + 1, level := level }).notice
          (.batchProgress n) level) ∧
      (closes → level ≤ b.level → s.commitPos n pos = (s.setBatch n { b with
        map := b.map.set pos .issued, freshRes := b.freshRes - 1, derived := b.derived + 1,
        state := .closed }).notice (.batchClosed n) 0) ∧
      (closes → b.level < level → s.commitPos n pos = ((s.setBatch n { b with
        map := b.map.set pos .issued, freshRes := b.freshRes - 1, derived := b.derived + 1, level := level,
        state := .closed }).notice (.batchProgress n) level).notice (.batchClosed n) 0)) ∧
    (b.map[pos]? = some .reservedSpoilt → 1 ≤ b.reissueRes →
      (¬ closes → s.releasePos n pos =
        s.setBatch n { b with map := b.map.set pos .spoilt, reissueRes := b.reissueRes - 1 }) ∧
      (closes → s.releasePos n pos = (s.setBatch n { b with
        map := b.map.set pos .spoilt, reissueRes := b.reissueRes - 1, state := .closed }).notice (.batchClosed n) 0) ∧
      (¬ closes → s.commitPos n pos = s.setBatch n { b with
        map := b.map.set pos .issued, reissueRes := b.reissueRes - 1, reissued := b.reissued + 1 }) ∧
      (closes → s.commitPos n pos = (s.setBatch n { b with
        map := b.map.set pos .issued, reissueRes := b.reissueRes - 1, reissued := b.reissued + 1,
        state := .closed }).notice (.batchClosed n) 0)))

/-- The release of one hold on a cell (R10, R11): the count falls by one; a SERVING cell goes on serving; a DRAINING cell drains
on above 0, and at 0 is READY with its values kept and CELL_DRAINED raised, but by tamper without that notice. -/
def Obligations.ReleaseLowersTheCountAndEndsDrains : Prop :=
  ∀ (s : State) (slot : Nat) (c : CellId) (k : KeyEntry) (loud : Bool), s.entry slot = .key k →
    let x := k.cell c
    let become (y : Cell) := s.setEntry slot (.key (k.setCell c y))
    (x.state = .serving → s.releaseCell loud (slot, c) = become { x with inFlight := x.inFlight - 1 }) ∧
    (x.state = .draining → 2 ≤ x.inFlight →
      s.releaseCell loud (slot, c) = become { x with inFlight := x.inFlight - 1 }) ∧
    (x.state = .draining → x.inFlight = 1 →
      s.releaseCell true (slot, c) = (become { x with state := .ready, inFlight := 0 }).notice (.cellDrained slot c) 0 ∧
      s.releaseCell false (slot, c) = become { x with state := .ready, inFlight := 0 })

/-- What the passes compute. A DERIVE of one to three indices (R118 to R120), for each index in order: X from the serial, its
complement, the domain and the index; Y is X enciphered under the master value, C is Y xor X, V the first three bytes of the zero
block enciphered under C, W is C enciphered under the transport value. A chunk of one to four blocks (R132): each plain block is
the deciphered input xor the input before it, each output the plain block xor the output before it, enciphered; both chains begin
at the context's values and carry on in them. -/
def Obligations.PassesComputeCardKeysAndChains : Prop :=
  (∀ (s : State) (j : Job) (c : DeriveCtx), j.ctx = .derive c → c.done = 0 → 1 ≤ c.keys.length → c.keys.length ≤ 3 →
    c.results = [] →
    let serial := beBytes 4 ((s.batch c.batch).first + c.pos)
    let x (k : Nat) := blockOf (serial ++ serial.map (fun b => 255 - b) ++ [byte (s.batch c.batch).domain, byte k] ++
      List.replicate 6 0)
    let card (k : Nat) := encipher (s.capturedValue j 0) (x k) ^^^ x k
    s.recordAll j (s.passes (3 * c.keys.length) j) = { j with ctx := .derive { c with
      done := 3 * c.keys.length
      results := c.keys.map fun k =>
        { index := k, key := card k, check := some (firstThree (encipher (card k) 0))
          wrapped := some (encipher (s.capturedValue j 1) (card k)) } } }) ∧
  (∀ (s : State) (j : Job) (c : StreamCtx) (ch : Chunk), j.ctx = .stream c → c.inService = some ch →
    1 ≤ ch.blocks.length → ch.blocks.length ≤ 4 → ch.done = 0 → ch.plain = [] → ch.out = [] →
    let n := ch.blocks.length
    ∃ plain out : List Block, plain.length = n ∧ out.length = n ∧
      (∀ i, i < n →
        plain.getD i 0 = decipher (s.capturedValue j 0) (ch.blocks.getD i 0) ^^^
          (if i = 0 then c.chainIn else ch.blocks.getD (i - 1) 0) ∧
        out.getD i 0 = encipher (s.capturedValue j 1) (plain.getD i 0 ^^^
          (if i = 0 then c.chainOut else out.getD (i - 1) 0))) ∧
      s.recordAll j (s.passes (2 * n) j) = { j with ctx := .stream { c with
        chainIn := ch.blocks.getD (n - 1) 0, chainOut := out.getD (n - 1) 0
        inService := some { ch with done := 2 * n, plain := plain, out := out } } })

/-- Decipherment under a key is the inverse of encipherment under it, and encipherment a permutation of the blocks (R102). -/
def Obligations.DeciphermentInvertsEncipherment : Prop :=
  ∀ key : Block, (∀ b : Block, decipher key (encipher key b) = b) ∧ (∀ b : Block, encipher key (decipher key b) = b)

/-! ### Relations that every step keeps -/

/-- No port's request queue ever holds more than its entries, nor its response queue (R145, R146); the slot wait list holds no
port twice (R93), and the notice list one notice of a kind and subject (R152). -/
def Obligations.StepKeepsQueuesAndLists : Prop :=
  ∀ s t : State, s.queuesFit → s.listsOnce → step s = .next t → t.queuesFit ∧ t.listsOnce

/-- The counters of every batch agree with its issue map, and reissues stay within the allowance (R62, R72); and each reserved
position is held by exactly one live DERIVE, which recorded the state it had (R62), with an UNUSED or CLOSED batch holding no
reservation and a CLOSING one some (R60, R67, R68). The second relation rests on the live-job lists and slots being as
R83 to R88 say. -/
def Obligations.StepKeepsBatchCountersInAgreement : Prop :=
  (∀ s t : State, s.batchesAgree → step s = .next t → t.batchesAgree) ∧
  (∀ s t : State, s.positionsHeld → s.jobsListed → step s = .next t → t.positionsHeld)

/-- Each line port's deficit never exceeds four times its weight plus three (R110). -/
def Obligations.StepKeepsDeficitsBounded : Prop :=
  ∀ s t : State, s.deficitsFit → step s = .next t →
    t.deficitsFit ∧ ∀ l, t.deficit l ≤ 4 * (t.binding l).weight + 3

/-- While the part is ZEROISING or FAILED no job is live, no ceremony open and the engine IDLE (R156, R162), and the stored mode
is ZEROISING exactly while zeroise-pending is set (R156). -/
def Obligations.StepKeepsZeroisingWithoutWork : Prop :=
  ∀ s t : State, s.zeroisingIdle → step s = .next t → t.zeroisingIdle

/-- Every cell is as R4 says, a KEY entry has at most one SERVING cell, which its serving indicator names, and a cell is DRAINING
only while its count is above zero (R4, R6); an open ceremony's target is FORMING (R7). And every cell's in-flight count is the
number of live jobs that captured it (R10), where the live-job lists and slots are as R83 to R88 say. -/
def Obligations.StepKeepsKeyEntriesConsistent : Prop :=
  (∀ s t : State, s.keysOk → step s = .next t → t.keysOk) ∧
  (∀ s t : State, s.countsAgree → s.jobsListed → step s = .next t → t.countsAgree)

/-- The live-job lists hold exactly the live jobs of their ports, within the quotas, and slot 15 the custody port's alone (R83,
R84, R88). And the job IN_GRANT is the one whose grant the engine holds, with a pass still to finish and the working copy of that
pass, and a STREAM is IDLE exactly while it has no chunk in service (R87, R103, R9, R111, R131, R134). -/
def Obligations.StepKeepsJobListsAndQuotas : Prop :=
  (∀ s t : State, s.jobsListed → step s = .next t → t.jobsListed) ∧
  (∀ s t : State, s.grantAgrees → step s = .next t → t.grantAgrees)

/-- A stream never accepts more blocks than it declared (R130, R131). -/
def Obligations.StepKeepsStreamsWithinTheirCount : Prop :=
  ∀ s t : State, s.streamsFit → step s = .next t → t.streamsFit
end

