-- ==== Sys2Proof/Laws/Bytes.lean ====
section
/-! SUPPORT. Numbers, blocks and sets survive their bytes (R171). -/

namespace Sys2Proof.Machine

@[simp] theorem beBytes_length (k n : Nat) : (beBytes k n).length = k := by
  induction k with
  | zero => rfl
  | succ k ih => simp [beBytes, ih]

@[simp] theorem setBytes_length {α : Type} [BEq α] (all set : List α) : (setBytes all set).length = all.length := by
  simp [setBytes]

@[simp] theorem blockBytes_length (b : Block) : (blockBytes b).length = 16 := by simp [blockBytes]

theorem byte_toNat (n : Nat) (h : n < 256) : (byte n).toNat = n := by simp [byte, h]

/-- The first field of a body (Figure 14). -/
theorem field_zero (n : Nat) (h : n < 256) (rest : List Byte) : field (byte n :: rest) 0 = n := by simp [field, byte, h]

theorem foldl_beBytes (k n acc : Nat) :
    (beBytes k n).foldl (fun acc b => acc * 256 + b.toNat) acc = acc * 256 ^ k + n % 256 ^ k := by
  induction k generalizing acc with
  | zero => simp [beBytes, Nat.mod_one]
  | succ k ih =>
    simp only [beBytes, List.foldl_cons, ih, BitVec.toNat_ofNat]
    have h1 : n / 256 ^ k % 2 ^ 8 * 256 ^ k + n % 256 ^ k = n % 256 ^ (k + 1) := by
      show n / 256 ^ k % 256 * 256 ^ k + n % 256 ^ k = _
      have h := Nat.mod_mul (a := 256 ^ k) (b := 256) (x := n)
      rw [Nat.pow_succ, h, Nat.mul_comm (256 ^ k) (n / 256 ^ k % 256), Nat.add_comm]
    calc (acc * 256 + n / 256 ^ k % 2 ^ 8) * 256 ^ k + n % 256 ^ k
        = acc * 256 ^ (k + 1) + (n / 256 ^ k % 2 ^ 8 * 256 ^ k + n % 256 ^ k) := by ring
      _ = _ := by rw [h1]

/-- A number that fits its bytes is read back from them. -/
theorem beNat_beBytes (k n : Nat) (h : n < 256 ^ k) : beNat (beBytes k n) = n := by
  unfold beNat
  rw [foldl_beBytes]
  simp [Nat.mod_eq_of_lt h]

/-- A byte joined behind a block that is being spelt. -/
theorem joined_toNat (acc : Block) (b : Byte) :
    ((acc <<< 8) ||| b.setWidth 128).toNat = (acc.toNat * 256 + b.toNat) % 2 ^ 128 := by
  have h : (acc <<< 8) &&& b.setWidth 128 = 0#128 := by
    apply BitVec.eq_of_getLsbD_eq
    intro i hi
    by_cases h8 : i < 8
    · simp [h8]
    · have : b.getLsbD i = false := BitVec.getLsbD_of_ge _ _ (by omega)
      simp [this]
  rw [← BitVec.add_eq_or_of_and_eq_zero _ _ h, BitVec.toNat_add, BitVec.toNat_shiftLeft, Nat.shiftLeft_eq]
  simp only [BitVec.toNat_setWidth]
  have hb := b.isLt
  omega

/-- A block spelt by bytes is the number they spell, below 2 to the 128th. -/
theorem blockOf_toNat (bytes : List Byte) : (blockOf bytes).toNat = beNat bytes % 2 ^ 128 := by
  have h : ∀ (acc : Block) (n : Nat), acc.toNat = n % 2 ^ 128 →
      (bytes.foldl (fun (acc : Block) (b : Byte) => (acc <<< 8) ||| b.setWidth 128) acc).toNat =
        bytes.foldl (fun acc b => acc * 256 + b.toNat) n % 2 ^ 128 := by
    induction bytes with
    | nil => intro acc n h; exact h
    | cons b bs ih =>
      intro acc n h
      refine ih _ _ ?_
      rw [joined_toNat, h]
      show _ = (n * 256 + b.toNat) % 2 ^ 128
      omega
  exact h 0 0 rfl

/-- The bytes of a block are those of its number (R171). -/
theorem blockBytes_eq (b : Block) : blockBytes b = beBytes 16 b.toNat := by
  simp [blockBytes, List.range, List.range.loop, byteAt, beBytes, BitVec.extractLsb', Nat.shiftRight_eq_div_pow]

/-- A block is read back from its 16 bytes (R171). -/
@[simp] theorem blockOf_blockBytes (b : Block) : blockOf (blockBytes b) = b := by
  apply BitVec.eq_of_toNat_eq
  have hb := b.isLt
  rw [blockOf_toNat, blockBytes_eq, beNat_beBytes _ _ (by simpa using hb)]
  omega

/-- Blocks are read back from their bytes (R171). -/
theorem blocksOf_flatMap (bs : List Block) : blocksOf bs.length (bs.flatMap blockBytes) = bs := by
  induction bs with
  | nil => rfl
  | cons b bs ih =>
    simp only [List.length_cons, blocksOf, List.flatMap_cons]
    rw [List.take_left' (blockBytes_length b), List.drop_left' (blockBytes_length b), ih, blockOf_blockBytes]

/-- A set in member order is read back from its membership bytes. -/
theorem readSet_setBytes {α : Type} [BEq α] [LawfulBEq α] (all set : List α) :
    readSet all (setBytes all set) = some (all.filter set.contains) := by
  have h1 : (setBytes all set).all (fun b => b == 0 || b == 1) = true := by
    simp only [setBytes, List.all_map, List.all_eq_true, Function.comp]
    intro a _
    cases set.contains a <;> rfl
  have h2 : ∀ l : List α, (l.zip (setBytes l set)).filterMap (fun m => if m.2 == 1 then some m.1 else none) =
      l.filter set.contains := by
    intro l
    induction l with
    | nil => rfl
    | cons a l ih =>
      have hb : setBytes (a :: l) set = (if set.contains a then 1 else 0) :: setBytes l set := rfl
      rw [hb, List.zip_cons_cons, List.filterMap_cons, List.filter_cons, ih]
      cases set.contains a <;> rfl
  unfold readSet
  rw [if_pos h1, h2]

end Sys2Proof.Machine
end

