-- ==== Sys2Proof/Laws/State.lean ====
section
/-! SUPPORT. One lemma per field per update of State: an update leaves every other field as it was. -/

namespace Sys2Proof.Machine

/-! ### setPort changes `ports` alone -/

@[simp] theorem State.setPort_keys (s : State) (p : Port) (u : PortUnit) : (s.setPort p u).keys = s.keys := rfl
@[simp] theorem State.setPort_bindings (s : State) (p : Port) (u : PortUnit) : (s.setPort p u).bindings = s.bindings := rfl
@[simp] theorem State.setPort_batches (s : State) (p : Port) (u : PortUnit) : (s.setPort p u).batches = s.batches := rfl
@[simp] theorem State.setPort_slots (s : State) (p : Port) (u : PortUnit) : (s.setPort p u).slots = s.slots := rfl
@[simp] theorem State.setPort_live (s : State) (p : Port) (u : PortUnit) : (s.setPort p u).live = s.live := rfl
@[simp] theorem State.setPort_waitList (s : State) (p : Port) (u : PortUnit) : (s.setPort p u).waitList = s.waitList := rfl
@[simp] theorem State.setPort_seqs (s : State) (p : Port) (u : PortUnit) : (s.setPort p u).seqs = s.seqs := rfl
@[simp] theorem State.setPort_engine (s : State) (p : Port) (u : PortUnit) : (s.setPort p u).engine = s.engine := rfl
@[simp] theorem State.setPort_pointer (s : State) (p : Port) (u : PortUnit) : (s.setPort p u).pointer = s.pointer := rfl
@[simp] theorem State.setPort_deficits (s : State) (p : Port) (u : PortUnit) : (s.setPort p u).deficits = s.deficits := rfl
@[simp] theorem State.setPort_ceremony (s : State) (p : Port) (u : PortUnit) : (s.setPort p u).ceremony = s.ceremony := rfl
@[simp] theorem State.setPort_notices (s : State) (p : Port) (u : PortUnit) : (s.setPort p u).notices = s.notices := rfl
@[simp] theorem State.setPort_mode (s : State) (p : Port) (u : PortUnit) : (s.setPort p u).mode = s.mode := rfl
@[simp] theorem State.setPort_causes (s : State) (p : Port) (u : PortUnit) : (s.setPort p u).causes = s.causes := rfl
@[simp] theorem State.setPort_firstCause (s : State) (p : Port) (u : PortUnit) : (s.setPort p u).firstCause = s.firstCause := rfl
@[simp] theorem State.setPort_zeroisePending (s : State) (p : Port) (u : PortUnit) : (s.setPort p u).zeroisePending = s.zeroisePending := rfl
@[simp] theorem State.setPort_markerGood (s : State) (p : Port) (u : PortUnit) : (s.setPort p u).markerGood = s.markerGood := rfl
@[simp] theorem State.setPort_zeroRun (s : State) (p : Port) (u : PortUnit) : (s.setPort p u).zeroRun = s.zeroRun := rfl
@[simp] theorem State.setPort_zeroTag (s : State) (p : Port) (u : PortUnit) : (s.setPort p u).zeroTag = s.zeroTag := rfl
@[simp] theorem State.setPort_battery (s : State) (p : Port) (u : PortUnit) : (s.setPort p u).battery = s.battery := rfl
@[simp] theorem State.setPort_batteryBelow (s : State) (p : Port) (u : PortUnit) : (s.setPort p u).batteryBelow = s.batteryBelow := rfl
@[simp] theorem State.setPort_tamperPins (s : State) (p : Port) (u : PortUnit) : (s.setPort p u).tamperPins = s.tamperPins := rfl
@[simp] theorem State.setPort_mainPower (s : State) (p : Port) (u : PortUnit) : (s.setPort p u).mainPower = s.mainPower := rfl
@[simp] theorem State.setPort_resetHeld (s : State) (p : Port) (u : PortUnit) : (s.setPort p u).resetHeld = s.resetHeld := rfl
@[simp] theorem State.setPort_holdingLost (s : State) (p : Port) (u : PortUnit) : (s.setPort p u).holdingLost = s.holdingLost := rfl
@[simp] theorem State.setPort_sweep (s : State) (p : Port) (u : PortUnit) : (s.setPort p u).sweep = s.sweep := rfl
@[simp] theorem State.setPort_heldTamper (s : State) (p : Port) (u : PortUnit) : (s.setPort p u).heldTamper = s.heldTamper := rfl
@[simp] theorem State.setPort_tries (s : State) (p : Port) (u : PortUnit) : (s.setPort p u).tries = s.tries := rfl
@[simp] theorem State.setPort_choices (s : State) (p : Port) (u : PortUnit) : (s.setPort p u).choices = s.choices := rfl
@[simp] theorem State.setPort_pending (s : State) (p : Port) (u : PortUnit) : (s.setPort p u).pending = s.pending := rfl

/-! ### setLive changes `live` alone -/

@[simp] theorem State.setLive_keys (s : State) (p : Port) (l : List Nat) : (s.setLive p l).keys = s.keys := rfl
@[simp] theorem State.setLive_bindings (s : State) (p : Port) (l : List Nat) : (s.setLive p l).bindings = s.bindings := rfl
@[simp] theorem State.setLive_batches (s : State) (p : Port) (l : List Nat) : (s.setLive p l).batches = s.batches := rfl
@[simp] theorem State.setLive_slots (s : State) (p : Port) (l : List Nat) : (s.setLive p l).slots = s.slots := rfl
@[simp] theorem State.setLive_waitList (s : State) (p : Port) (l : List Nat) : (s.setLive p l).waitList = s.waitList := rfl
@[simp] theorem State.setLive_seqs (s : State) (p : Port) (l : List Nat) : (s.setLive p l).seqs = s.seqs := rfl
@[simp] theorem State.setLive_engine (s : State) (p : Port) (l : List Nat) : (s.setLive p l).engine = s.engine := rfl
@[simp] theorem State.setLive_pointer (s : State) (p : Port) (l : List Nat) : (s.setLive p l).pointer = s.pointer := rfl
@[simp] theorem State.setLive_deficits (s : State) (p : Port) (l : List Nat) : (s.setLive p l).deficits = s.deficits := rfl
@[simp] theorem State.setLive_ceremony (s : State) (p : Port) (l : List Nat) : (s.setLive p l).ceremony = s.ceremony := rfl
@[simp] theorem State.setLive_ports (s : State) (p : Port) (l : List Nat) : (s.setLive p l).ports = s.ports := rfl
@[simp] theorem State.setLive_notices (s : State) (p : Port) (l : List Nat) : (s.setLive p l).notices = s.notices := rfl
@[simp] theorem State.setLive_mode (s : State) (p : Port) (l : List Nat) : (s.setLive p l).mode = s.mode := rfl
@[simp] theorem State.setLive_causes (s : State) (p : Port) (l : List Nat) : (s.setLive p l).causes = s.causes := rfl
@[simp] theorem State.setLive_firstCause (s : State) (p : Port) (l : List Nat) : (s.setLive p l).firstCause = s.firstCause := rfl
@[simp] theorem State.setLive_zeroisePending (s : State) (p : Port) (l : List Nat) : (s.setLive p l).zeroisePending = s.zeroisePending := rfl
@[simp] theorem State.setLive_markerGood (s : State) (p : Port) (l : List Nat) : (s.setLive p l).markerGood = s.markerGood := rfl
@[simp] theorem State.setLive_zeroRun (s : State) (p : Port) (l : List Nat) : (s.setLive p l).zeroRun = s.zeroRun := rfl
@[simp] theorem State.setLive_zeroTag (s : State) (p : Port) (l : List Nat) : (s.setLive p l).zeroTag = s.zeroTag := rfl
@[simp] theorem State.setLive_battery (s : State) (p : Port) (l : List Nat) : (s.setLive p l).battery = s.battery := rfl
@[simp] theorem State.setLive_batteryBelow (s : State) (p : Port) (l : List Nat) : (s.setLive p l).batteryBelow = s.batteryBelow := rfl
@[simp] theorem State.setLive_tamperPins (s : State) (p : Port) (l : List Nat) : (s.setLive p l).tamperPins = s.tamperPins := rfl
@[simp] theorem State.setLive_mainPower (s : State) (p : Port) (l : List Nat) : (s.setLive p l).mainPower = s.mainPower := rfl
@[simp] theorem State.setLive_resetHeld (s : State) (p : Port) (l : List Nat) : (s.setLive p l).resetHeld = s.resetHeld := rfl
@[simp] theorem State.setLive_holdingLost (s : State) (p : Port) (l : List Nat) : (s.setLive p l).holdingLost = s.holdingLost := rfl
@[simp] theorem State.setLive_sweep (s : State) (p : Port) (l : List Nat) : (s.setLive p l).sweep = s.sweep := rfl
@[simp] theorem State.setLive_heldTamper (s : State) (p : Port) (l : List Nat) : (s.setLive p l).heldTamper = s.heldTamper := rfl
@[simp] theorem State.setLive_tries (s : State) (p : Port) (l : List Nat) : (s.setLive p l).tries = s.tries := rfl
@[simp] theorem State.setLive_choices (s : State) (p : Port) (l : List Nat) : (s.setLive p l).choices = s.choices := rfl
@[simp] theorem State.setLive_pending (s : State) (p : Port) (l : List Nat) : (s.setLive p l).pending = s.pending := rfl

/-! ### setBinding changes `bindings` alone -/

@[simp] theorem State.setBinding_keys (s : State) (l : LinePort) (b : Binding) : (s.setBinding l b).keys = s.keys := rfl
@[simp] theorem State.setBinding_batches (s : State) (l : LinePort) (b : Binding) : (s.setBinding l b).batches = s.batches := rfl
@[simp] theorem State.setBinding_slots (s : State) (l : LinePort) (b : Binding) : (s.setBinding l b).slots = s.slots := rfl
@[simp] theorem State.setBinding_live (s : State) (l : LinePort) (b : Binding) : (s.setBinding l b).live = s.live := rfl
@[simp] theorem State.setBinding_waitList (s : State) (l : LinePort) (b : Binding) : (s.setBinding l b).waitList = s.waitList := rfl
@[simp] theorem State.setBinding_seqs (s : State) (l : LinePort) (b : Binding) : (s.setBinding l b).seqs = s.seqs := rfl
@[simp] theorem State.setBinding_engine (s : State) (l : LinePort) (b : Binding) : (s.setBinding l b).engine = s.engine := rfl
@[simp] theorem State.setBinding_pointer (s : State) (l : LinePort) (b : Binding) : (s.setBinding l b).pointer = s.pointer := rfl
@[simp] theorem State.setBinding_deficits (s : State) (l : LinePort) (b : Binding) : (s.setBinding l b).deficits = s.deficits := rfl
@[simp] theorem State.setBinding_ceremony (s : State) (l : LinePort) (b : Binding) : (s.setBinding l b).ceremony = s.ceremony := rfl
@[simp] theorem State.setBinding_ports (s : State) (l : LinePort) (b : Binding) : (s.setBinding l b).ports = s.ports := rfl
@[simp] theorem State.setBinding_notices (s : State) (l : LinePort) (b : Binding) : (s.setBinding l b).notices = s.notices := rfl
@[simp] theorem State.setBinding_mode (s : State) (l : LinePort) (b : Binding) : (s.setBinding l b).mode = s.mode := rfl
@[simp] theorem State.setBinding_causes (s : State) (l : LinePort) (b : Binding) : (s.setBinding l b).causes = s.causes := rfl
@[simp] theorem State.setBinding_firstCause (s : State) (l : LinePort) (b : Binding) : (s.setBinding l b).firstCause = s.firstCause := rfl
@[simp] theorem State.setBinding_zeroisePending (s : State) (l : LinePort) (b : Binding) : (s.setBinding l b).zeroisePending = s.zeroisePending := rfl
@[simp] theorem State.setBinding_markerGood (s : State) (l : LinePort) (b : Binding) : (s.setBinding l b).markerGood = s.markerGood := rfl
@[simp] theorem State.setBinding_zeroRun (s : State) (l : LinePort) (b : Binding) : (s.setBinding l b).zeroRun = s.zeroRun := rfl
@[simp] theorem State.setBinding_zeroTag (s : State) (l : LinePort) (b : Binding) : (s.setBinding l b).zeroTag = s.zeroTag := rfl
@[simp] theorem State.setBinding_battery (s : State) (l : LinePort) (b : Binding) : (s.setBinding l b).battery = s.battery := rfl
@[simp] theorem State.setBinding_batteryBelow (s : State) (l : LinePort) (b : Binding) : (s.setBinding l b).batteryBelow = s.batteryBelow := rfl
@[simp] theorem State.setBinding_tamperPins (s : State) (l : LinePort) (b : Binding) : (s.setBinding l b).tamperPins = s.tamperPins := rfl
@[simp] theorem State.setBinding_mainPower (s : State) (l : LinePort) (b : Binding) : (s.setBinding l b).mainPower = s.mainPower := rfl
@[simp] theorem State.setBinding_resetHeld (s : State) (l : LinePort) (b : Binding) : (s.setBinding l b).resetHeld = s.resetHeld := rfl
@[simp] theorem State.setBinding_holdingLost (s : State) (l : LinePort) (b : Binding) : (s.setBinding l b).holdingLost = s.holdingLost := rfl
@[simp] theorem State.setBinding_sweep (s : State) (l : LinePort) (b : Binding) : (s.setBinding l b).sweep = s.sweep := rfl
@[simp] theorem State.setBinding_heldTamper (s : State) (l : LinePort) (b : Binding) : (s.setBinding l b).heldTamper = s.heldTamper := rfl
@[simp] theorem State.setBinding_tries (s : State) (l : LinePort) (b : Binding) : (s.setBinding l b).tries = s.tries := rfl
@[simp] theorem State.setBinding_choices (s : State) (l : LinePort) (b : Binding) : (s.setBinding l b).choices = s.choices := rfl
@[simp] theorem State.setBinding_pending (s : State) (l : LinePort) (b : Binding) : (s.setBinding l b).pending = s.pending := rfl

/-! ### setDeficit changes `deficits` alone -/

@[simp] theorem State.setDeficit_keys (s : State) (l : LinePort) (d : Nat) : (s.setDeficit l d).keys = s.keys := rfl
@[simp] theorem State.setDeficit_bindings (s : State) (l : LinePort) (d : Nat) : (s.setDeficit l d).bindings = s.bindings := rfl
@[simp] theorem State.setDeficit_batches (s : State) (l : LinePort) (d : Nat) : (s.setDeficit l d).batches = s.batches := rfl
@[simp] theorem State.setDeficit_slots (s : State) (l : LinePort) (d : Nat) : (s.setDeficit l d).slots = s.slots := rfl
@[simp] theorem State.setDeficit_live (s : State) (l : LinePort) (d : Nat) : (s.setDeficit l d).live = s.live := rfl
@[simp] theorem State.setDeficit_waitList (s : State) (l : LinePort) (d : Nat) : (s.setDeficit l d).waitList = s.waitList := rfl
@[simp] theorem State.setDeficit_seqs (s : State) (l : LinePort) (d : Nat) : (s.setDeficit l d).seqs = s.seqs := rfl
@[simp] theorem State.setDeficit_engine (s : State) (l : LinePort) (d : Nat) : (s.setDeficit l d).engine = s.engine := rfl
@[simp] theorem State.setDeficit_pointer (s : State) (l : LinePort) (d : Nat) : (s.setDeficit l d).pointer = s.pointer := rfl
@[simp] theorem State.setDeficit_ceremony (s : State) (l : LinePort) (d : Nat) : (s.setDeficit l d).ceremony = s.ceremony := rfl
@[simp] theorem State.setDeficit_ports (s : State) (l : LinePort) (d : Nat) : (s.setDeficit l d).ports = s.ports := rfl
@[simp] theorem State.setDeficit_notices (s : State) (l : LinePort) (d : Nat) : (s.setDeficit l d).notices = s.notices := rfl
@[simp] theorem State.setDeficit_mode (s : State) (l : LinePort) (d : Nat) : (s.setDeficit l d).mode = s.mode := rfl
@[simp] theorem State.setDeficit_causes (s : State) (l : LinePort) (d : Nat) : (s.setDeficit l d).causes = s.causes := rfl
@[simp] theorem State.setDeficit_firstCause (s : State) (l : LinePort) (d : Nat) : (s.setDeficit l d).firstCause = s.firstCause := rfl
@[simp] theorem State.setDeficit_zeroisePending (s : State) (l : LinePort) (d : Nat) : (s.setDeficit l d).zeroisePending = s.zeroisePending := rfl
@[simp] theorem State.setDeficit_markerGood (s : State) (l : LinePort) (d : Nat) : (s.setDeficit l d).markerGood = s.markerGood := rfl
@[simp] theorem State.setDeficit_zeroRun (s : State) (l : LinePort) (d : Nat) : (s.setDeficit l d).zeroRun = s.zeroRun := rfl
@[simp] theorem State.setDeficit_zeroTag (s : State) (l : LinePort) (d : Nat) : (s.setDeficit l d).zeroTag = s.zeroTag := rfl
@[simp] theorem State.setDeficit_battery (s : State) (l : LinePort) (d : Nat) : (s.setDeficit l d).battery = s.battery := rfl
@[simp] theorem State.setDeficit_batteryBelow (s : State) (l : LinePort) (d : Nat) : (s.setDeficit l d).batteryBelow = s.batteryBelow := rfl
@[simp] theorem State.setDeficit_tamperPins (s : State) (l : LinePort) (d : Nat) : (s.setDeficit l d).tamperPins = s.tamperPins := rfl
@[simp] theorem State.setDeficit_mainPower (s : State) (l : LinePort) (d : Nat) : (s.setDeficit l d).mainPower = s.mainPower := rfl
@[simp] theorem State.setDeficit_resetHeld (s : State) (l : LinePort) (d : Nat) : (s.setDeficit l d).resetHeld = s.resetHeld := rfl
@[simp] theorem State.setDeficit_holdingLost (s : State) (l : LinePort) (d : Nat) : (s.setDeficit l d).holdingLost = s.holdingLost := rfl
@[simp] theorem State.setDeficit_sweep (s : State) (l : LinePort) (d : Nat) : (s.setDeficit l d).sweep = s.sweep := rfl
@[simp] theorem State.setDeficit_heldTamper (s : State) (l : LinePort) (d : Nat) : (s.setDeficit l d).heldTamper = s.heldTamper := rfl
@[simp] theorem State.setDeficit_tries (s : State) (l : LinePort) (d : Nat) : (s.setDeficit l d).tries = s.tries := rfl
@[simp] theorem State.setDeficit_choices (s : State) (l : LinePort) (d : Nat) : (s.setDeficit l d).choices = s.choices := rfl
@[simp] theorem State.setDeficit_pending (s : State) (l : LinePort) (d : Nat) : (s.setDeficit l d).pending = s.pending := rfl

/-! ### setEntry changes `keys` alone -/

@[simp] theorem State.setEntry_bindings (s : State) (n : Nat) (e : Entry) : (s.setEntry n e).bindings = s.bindings := rfl
@[simp] theorem State.setEntry_batches (s : State) (n : Nat) (e : Entry) : (s.setEntry n e).batches = s.batches := rfl
@[simp] theorem State.setEntry_slots (s : State) (n : Nat) (e : Entry) : (s.setEntry n e).slots = s.slots := rfl
@[simp] theorem State.setEntry_live (s : State) (n : Nat) (e : Entry) : (s.setEntry n e).live = s.live := rfl
@[simp] theorem State.setEntry_waitList (s : State) (n : Nat) (e : Entry) : (s.setEntry n e).waitList = s.waitList := rfl
@[simp] theorem State.setEntry_seqs (s : State) (n : Nat) (e : Entry) : (s.setEntry n e).seqs = s.seqs := rfl
@[simp] theorem State.setEntry_engine (s : State) (n : Nat) (e : Entry) : (s.setEntry n e).engine = s.engine := rfl
@[simp] theorem State.setEntry_pointer (s : State) (n : Nat) (e : Entry) : (s.setEntry n e).pointer = s.pointer := rfl
@[simp] theorem State.setEntry_deficits (s : State) (n : Nat) (e : Entry) : (s.setEntry n e).deficits = s.deficits := rfl
@[simp] theorem State.setEntry_ceremony (s : State) (n : Nat) (e : Entry) : (s.setEntry n e).ceremony = s.ceremony := rfl
@[simp] theorem State.setEntry_ports (s : State) (n : Nat) (e : Entry) : (s.setEntry n e).ports = s.ports := rfl
@[simp] theorem State.setEntry_notices (s : State) (n : Nat) (e : Entry) : (s.setEntry n e).notices = s.notices := rfl
@[simp] theorem State.setEntry_mode (s : State) (n : Nat) (e : Entry) : (s.setEntry n e).mode = s.mode := rfl
@[simp] theorem State.setEntry_causes (s : State) (n : Nat) (e : Entry) : (s.setEntry n e).causes = s.causes := rfl
@[simp] theorem State.setEntry_firstCause (s : State) (n : Nat) (e : Entry) : (s.setEntry n e).firstCause = s.firstCause := rfl
@[simp] theorem State.setEntry_zeroisePending (s : State) (n : Nat) (e : Entry) : (s.setEntry n e).zeroisePending = s.zeroisePending := rfl
@[simp] theorem State.setEntry_markerGood (s : State) (n : Nat) (e : Entry) : (s.setEntry n e).markerGood = s.markerGood := rfl
@[simp] theorem State.setEntry_zeroRun (s : State) (n : Nat) (e : Entry) : (s.setEntry n e).zeroRun = s.zeroRun := rfl
@[simp] theorem State.setEntry_zeroTag (s : State) (n : Nat) (e : Entry) : (s.setEntry n e).zeroTag = s.zeroTag := rfl
@[simp] theorem State.setEntry_battery (s : State) (n : Nat) (e : Entry) : (s.setEntry n e).battery = s.battery := rfl
@[simp] theorem State.setEntry_batteryBelow (s : State) (n : Nat) (e : Entry) : (s.setEntry n e).batteryBelow = s.batteryBelow := rfl
@[simp] theorem State.setEntry_tamperPins (s : State) (n : Nat) (e : Entry) : (s.setEntry n e).tamperPins = s.tamperPins := rfl
@[simp] theorem State.setEntry_mainPower (s : State) (n : Nat) (e : Entry) : (s.setEntry n e).mainPower = s.mainPower := rfl
@[simp] theorem State.setEntry_resetHeld (s : State) (n : Nat) (e : Entry) : (s.setEntry n e).resetHeld = s.resetHeld := rfl
@[simp] theorem State.setEntry_holdingLost (s : State) (n : Nat) (e : Entry) : (s.setEntry n e).holdingLost = s.holdingLost := rfl
@[simp] theorem State.setEntry_sweep (s : State) (n : Nat) (e : Entry) : (s.setEntry n e).sweep = s.sweep := rfl
@[simp] theorem State.setEntry_heldTamper (s : State) (n : Nat) (e : Entry) : (s.setEntry n e).heldTamper = s.heldTamper := rfl
@[simp] theorem State.setEntry_tries (s : State) (n : Nat) (e : Entry) : (s.setEntry n e).tries = s.tries := rfl
@[simp] theorem State.setEntry_choices (s : State) (n : Nat) (e : Entry) : (s.setEntry n e).choices = s.choices := rfl
@[simp] theorem State.setEntry_pending (s : State) (n : Nat) (e : Entry) : (s.setEntry n e).pending = s.pending := rfl

/-! ### setBatch changes `batches` alone -/

@[simp] theorem State.setBatch_keys (s : State) (n : Nat) (b : Batch) : (s.setBatch n b).keys = s.keys := rfl
@[simp] theorem State.setBatch_bindings (s : State) (n : Nat) (b : Batch) : (s.setBatch n b).bindings = s.bindings := rfl
@[simp] theorem State.setBatch_slots (s : State) (n : Nat) (b : Batch) : (s.setBatch n b).slots = s.slots := rfl
@[simp] theorem State.setBatch_live (s : State) (n : Nat) (b : Batch) : (s.setBatch n b).live = s.live := rfl
@[simp] theorem State.setBatch_waitList (s : State) (n : Nat) (b : Batch) : (s.setBatch n b).waitList = s.waitList := rfl
@[simp] theorem State.setBatch_seqs (s : State) (n : Nat) (b : Batch) : (s.setBatch n b).seqs = s.seqs := rfl
@[simp] theorem State.setBatch_engine (s : State) (n : Nat) (b : Batch) : (s.setBatch n b).engine = s.engine := rfl
@[simp] theorem State.setBatch_pointer (s : State) (n : Nat) (b : Batch) : (s.setBatch n b).pointer = s.pointer := rfl
@[simp] theorem State.setBatch_deficits (s : State) (n : Nat) (b : Batch) : (s.setBatch n b).deficits = s.deficits := rfl
@[simp] theorem State.setBatch_ceremony (s : State) (n : Nat) (b : Batch) : (s.setBatch n b).ceremony = s.ceremony := rfl
@[simp] theorem State.setBatch_ports (s : State) (n : Nat) (b : Batch) : (s.setBatch n b).ports = s.ports := rfl
@[simp] theorem State.setBatch_notices (s : State) (n : Nat) (b : Batch) : (s.setBatch n b).notices = s.notices := rfl
@[simp] theorem State.setBatch_mode (s : State) (n : Nat) (b : Batch) : (s.setBatch n b).mode = s.mode := rfl
@[simp] theorem State.setBatch_causes (s : State) (n : Nat) (b : Batch) : (s.setBatch n b).causes = s.causes := rfl
@[simp] theorem State.setBatch_firstCause (s : State) (n : Nat) (b : Batch) : (s.setBatch n b).firstCause = s.firstCause := rfl
@[simp] theorem State.setBatch_zeroisePending (s : State) (n : Nat) (b : Batch) : (s.setBatch n b).zeroisePending = s.zeroisePending := rfl
@[simp] theorem State.setBatch_markerGood (s : State) (n : Nat) (b : Batch) : (s.setBatch n b).markerGood = s.markerGood := rfl
@[simp] theorem State.setBatch_zeroRun (s : State) (n : Nat) (b : Batch) : (s.setBatch n b).zeroRun = s.zeroRun := rfl
@[simp] theorem State.setBatch_zeroTag (s : State) (n : Nat) (b : Batch) : (s.setBatch n b).zeroTag = s.zeroTag := rfl
@[simp] theorem State.setBatch_battery (s : State) (n : Nat) (b : Batch) : (s.setBatch n b).battery = s.battery := rfl
@[simp] theorem State.setBatch_batteryBelow (s : State) (n : Nat) (b : Batch) : (s.setBatch n b).batteryBelow = s.batteryBelow := rfl
@[simp] theorem State.setBatch_tamperPins (s : State) (n : Nat) (b : Batch) : (s.setBatch n b).tamperPins = s.tamperPins := rfl
@[simp] theorem State.setBatch_mainPower (s : State) (n : Nat) (b : Batch) : (s.setBatch n b).mainPower = s.mainPower := rfl
@[simp] theorem State.setBatch_resetHeld (s : State) (n : Nat) (b : Batch) : (s.setBatch n b).resetHeld = s.resetHeld := rfl
@[simp] theorem State.setBatch_holdingLost (s : State) (n : Nat) (b : Batch) : (s.setBatch n b).holdingLost = s.holdingLost := rfl
@[simp] theorem State.setBatch_sweep (s : State) (n : Nat) (b : Batch) : (s.setBatch n b).sweep = s.sweep := rfl
@[simp] theorem State.setBatch_heldTamper (s : State) (n : Nat) (b : Batch) : (s.setBatch n b).heldTamper = s.heldTamper := rfl
@[simp] theorem State.setBatch_tries (s : State) (n : Nat) (b : Batch) : (s.setBatch n b).tries = s.tries := rfl
@[simp] theorem State.setBatch_choices (s : State) (n : Nat) (b : Batch) : (s.setBatch n b).choices = s.choices := rfl
@[simp] theorem State.setBatch_pending (s : State) (n : Nat) (b : Batch) : (s.setBatch n b).pending = s.pending := rfl

/-! ### setJob changes `slots` alone -/

@[simp] theorem State.setJob_keys (s : State) (n : Nat) (j : Option Job) : (s.setJob n j).keys = s.keys := rfl
@[simp] theorem State.setJob_bindings (s : State) (n : Nat) (j : Option Job) : (s.setJob n j).bindings = s.bindings := rfl
@[simp] theorem State.setJob_batches (s : State) (n : Nat) (j : Option Job) : (s.setJob n j).batches = s.batches := rfl
@[simp] theorem State.setJob_live (s : State) (n : Nat) (j : Option Job) : (s.setJob n j).live = s.live := rfl
@[simp] theorem State.setJob_waitList (s : State) (n : Nat) (j : Option Job) : (s.setJob n j).waitList = s.waitList := rfl
@[simp] theorem State.setJob_seqs (s : State) (n : Nat) (j : Option Job) : (s.setJob n j).seqs = s.seqs := rfl
@[simp] theorem State.setJob_engine (s : State) (n : Nat) (j : Option Job) : (s.setJob n j).engine = s.engine := rfl
@[simp] theorem State.setJob_pointer (s : State) (n : Nat) (j : Option Job) : (s.setJob n j).pointer = s.pointer := rfl
@[simp] theorem State.setJob_deficits (s : State) (n : Nat) (j : Option Job) : (s.setJob n j).deficits = s.deficits := rfl
@[simp] theorem State.setJob_ceremony (s : State) (n : Nat) (j : Option Job) : (s.setJob n j).ceremony = s.ceremony := rfl
@[simp] theorem State.setJob_ports (s : State) (n : Nat) (j : Option Job) : (s.setJob n j).ports = s.ports := rfl
@[simp] theorem State.setJob_notices (s : State) (n : Nat) (j : Option Job) : (s.setJob n j).notices = s.notices := rfl
@[simp] theorem State.setJob_mode (s : State) (n : Nat) (j : Option Job) : (s.setJob n j).mode = s.mode := rfl
@[simp] theorem State.setJob_causes (s : State) (n : Nat) (j : Option Job) : (s.setJob n j).causes = s.causes := rfl
@[simp] theorem State.setJob_firstCause (s : State) (n : Nat) (j : Option Job) : (s.setJob n j).firstCause = s.firstCause := rfl
@[simp] theorem State.setJob_zeroisePending (s : State) (n : Nat) (j : Option Job) : (s.setJob n j).zeroisePending = s.zeroisePending := rfl
@[simp] theorem State.setJob_markerGood (s : State) (n : Nat) (j : Option Job) : (s.setJob n j).markerGood = s.markerGood := rfl
@[simp] theorem State.setJob_zeroRun (s : State) (n : Nat) (j : Option Job) : (s.setJob n j).zeroRun = s.zeroRun := rfl
@[simp] theorem State.setJob_zeroTag (s : State) (n : Nat) (j : Option Job) : (s.setJob n j).zeroTag = s.zeroTag := rfl
@[simp] theorem State.setJob_battery (s : State) (n : Nat) (j : Option Job) : (s.setJob n j).battery = s.battery := rfl
@[simp] theorem State.setJob_batteryBelow (s : State) (n : Nat) (j : Option Job) : (s.setJob n j).batteryBelow = s.batteryBelow := rfl
@[simp] theorem State.setJob_tamperPins (s : State) (n : Nat) (j : Option Job) : (s.setJob n j).tamperPins = s.tamperPins := rfl
@[simp] theorem State.setJob_mainPower (s : State) (n : Nat) (j : Option Job) : (s.setJob n j).mainPower = s.mainPower := rfl
@[simp] theorem State.setJob_resetHeld (s : State) (n : Nat) (j : Option Job) : (s.setJob n j).resetHeld = s.resetHeld := rfl
@[simp] theorem State.setJob_holdingLost (s : State) (n : Nat) (j : Option Job) : (s.setJob n j).holdingLost = s.holdingLost := rfl
@[simp] theorem State.setJob_sweep (s : State) (n : Nat) (j : Option Job) : (s.setJob n j).sweep = s.sweep := rfl
@[simp] theorem State.setJob_heldTamper (s : State) (n : Nat) (j : Option Job) : (s.setJob n j).heldTamper = s.heldTamper := rfl
@[simp] theorem State.setJob_tries (s : State) (n : Nat) (j : Option Job) : (s.setJob n j).tries = s.tries := rfl
@[simp] theorem State.setJob_choices (s : State) (n : Nat) (j : Option Job) : (s.setJob n j).choices = s.choices := rfl
@[simp] theorem State.setJob_pending (s : State) (n : Nat) (j : Option Job) : (s.setJob n j).pending = s.pending := rfl

/-! ### setSeq changes `seqs` alone -/

@[simp] theorem State.setSeq_keys (s : State) (n : Nat) (v : Byte) : (s.setSeq n v).keys = s.keys := rfl
@[simp] theorem State.setSeq_bindings (s : State) (n : Nat) (v : Byte) : (s.setSeq n v).bindings = s.bindings := rfl
@[simp] theorem State.setSeq_batches (s : State) (n : Nat) (v : Byte) : (s.setSeq n v).batches = s.batches := rfl
@[simp] theorem State.setSeq_slots (s : State) (n : Nat) (v : Byte) : (s.setSeq n v).slots = s.slots := rfl
@[simp] theorem State.setSeq_live (s : State) (n : Nat) (v : Byte) : (s.setSeq n v).live = s.live := rfl
@[simp] theorem State.setSeq_waitList (s : State) (n : Nat) (v : Byte) : (s.setSeq n v).waitList = s.waitList := rfl
@[simp] theorem State.setSeq_engine (s : State) (n : Nat) (v : Byte) : (s.setSeq n v).engine = s.engine := rfl
@[simp] theorem State.setSeq_pointer (s : State) (n : Nat) (v : Byte) : (s.setSeq n v).pointer = s.pointer := rfl
@[simp] theorem State.setSeq_deficits (s : State) (n : Nat) (v : Byte) : (s.setSeq n v).deficits = s.deficits := rfl
@[simp] theorem State.setSeq_ceremony (s : State) (n : Nat) (v : Byte) : (s.setSeq n v).ceremony = s.ceremony := rfl
@[simp] theorem State.setSeq_ports (s : State) (n : Nat) (v : Byte) : (s.setSeq n v).ports = s.ports := rfl
@[simp] theorem State.setSeq_notices (s : State) (n : Nat) (v : Byte) : (s.setSeq n v).notices = s.notices := rfl
@[simp] theorem State.setSeq_mode (s : State) (n : Nat) (v : Byte) : (s.setSeq n v).mode = s.mode := rfl
@[simp] theorem State.setSeq_causes (s : State) (n : Nat) (v : Byte) : (s.setSeq n v).causes = s.causes := rfl
@[simp] theorem State.setSeq_firstCause (s : State) (n : Nat) (v : Byte) : (s.setSeq n v).firstCause = s.firstCause := rfl
@[simp] theorem State.setSeq_zeroisePending (s : State) (n : Nat) (v : Byte) : (s.setSeq n v).zeroisePending = s.zeroisePending := rfl
@[simp] theorem State.setSeq_markerGood (s : State) (n : Nat) (v : Byte) : (s.setSeq n v).markerGood = s.markerGood := rfl
@[simp] theorem State.setSeq_zeroRun (s : State) (n : Nat) (v : Byte) : (s.setSeq n v).zeroRun = s.zeroRun := rfl
@[simp] theorem State.setSeq_zeroTag (s : State) (n : Nat) (v : Byte) : (s.setSeq n v).zeroTag = s.zeroTag := rfl
@[simp] theorem State.setSeq_battery (s : State) (n : Nat) (v : Byte) : (s.setSeq n v).battery = s.battery := rfl
@[simp] theorem State.setSeq_batteryBelow (s : State) (n : Nat) (v : Byte) : (s.setSeq n v).batteryBelow = s.batteryBelow := rfl
@[simp] theorem State.setSeq_tamperPins (s : State) (n : Nat) (v : Byte) : (s.setSeq n v).tamperPins = s.tamperPins := rfl
@[simp] theorem State.setSeq_mainPower (s : State) (n : Nat) (v : Byte) : (s.setSeq n v).mainPower = s.mainPower := rfl
@[simp] theorem State.setSeq_resetHeld (s : State) (n : Nat) (v : Byte) : (s.setSeq n v).resetHeld = s.resetHeld := rfl
@[simp] theorem State.setSeq_holdingLost (s : State) (n : Nat) (v : Byte) : (s.setSeq n v).holdingLost = s.holdingLost := rfl
@[simp] theorem State.setSeq_sweep (s : State) (n : Nat) (v : Byte) : (s.setSeq n v).sweep = s.sweep := rfl
@[simp] theorem State.setSeq_heldTamper (s : State) (n : Nat) (v : Byte) : (s.setSeq n v).heldTamper = s.heldTamper := rfl
@[simp] theorem State.setSeq_tries (s : State) (n : Nat) (v : Byte) : (s.setSeq n v).tries = s.tries := rfl
@[simp] theorem State.setSeq_choices (s : State) (n : Nat) (v : Byte) : (s.setSeq n v).choices = s.choices := rfl
@[simp] theorem State.setSeq_pending (s : State) (n : Nat) (v : Byte) : (s.setSeq n v).pending = s.pending := rfl

/-! ### addTry changes `tries` alone -/

@[simp] theorem State.addTry_keys (s : State) (p : Port) : (s.addTry p).keys = s.keys := rfl
@[simp] theorem State.addTry_bindings (s : State) (p : Port) : (s.addTry p).bindings = s.bindings := rfl
@[simp] theorem State.addTry_batches (s : State) (p : Port) : (s.addTry p).batches = s.batches := rfl
@[simp] theorem State.addTry_slots (s : State) (p : Port) : (s.addTry p).slots = s.slots := rfl
@[simp] theorem State.addTry_live (s : State) (p : Port) : (s.addTry p).live = s.live := rfl
@[simp] theorem State.addTry_waitList (s : State) (p : Port) : (s.addTry p).waitList = s.waitList := rfl
@[simp] theorem State.addTry_seqs (s : State) (p : Port) : (s.addTry p).seqs = s.seqs := rfl
@[simp] theorem State.addTry_engine (s : State) (p : Port) : (s.addTry p).engine = s.engine := rfl
@[simp] theorem State.addTry_pointer (s : State) (p : Port) : (s.addTry p).pointer = s.pointer := rfl
@[simp] theorem State.addTry_deficits (s : State) (p : Port) : (s.addTry p).deficits = s.deficits := rfl
@[simp] theorem State.addTry_ceremony (s : State) (p : Port) : (s.addTry p).ceremony = s.ceremony := rfl
@[simp] theorem State.addTry_ports (s : State) (p : Port) : (s.addTry p).ports = s.ports := rfl
@[simp] theorem State.addTry_notices (s : State) (p : Port) : (s.addTry p).notices = s.notices := rfl
@[simp] theorem State.addTry_mode (s : State) (p : Port) : (s.addTry p).mode = s.mode := rfl
@[simp] theorem State.addTry_causes (s : State) (p : Port) : (s.addTry p).causes = s.causes := rfl
@[simp] theorem State.addTry_firstCause (s : State) (p : Port) : (s.addTry p).firstCause = s.firstCause := rfl
@[simp] theorem State.addTry_zeroisePending (s : State) (p : Port) : (s.addTry p).zeroisePending = s.zeroisePending := rfl
@[simp] theorem State.addTry_markerGood (s : State) (p : Port) : (s.addTry p).markerGood = s.markerGood := rfl
@[simp] theorem State.addTry_zeroRun (s : State) (p : Port) : (s.addTry p).zeroRun = s.zeroRun := rfl
@[simp] theorem State.addTry_zeroTag (s : State) (p : Port) : (s.addTry p).zeroTag = s.zeroTag := rfl
@[simp] theorem State.addTry_battery (s : State) (p : Port) : (s.addTry p).battery = s.battery := rfl
@[simp] theorem State.addTry_batteryBelow (s : State) (p : Port) : (s.addTry p).batteryBelow = s.batteryBelow := rfl
@[simp] theorem State.addTry_tamperPins (s : State) (p : Port) : (s.addTry p).tamperPins = s.tamperPins := rfl
@[simp] theorem State.addTry_mainPower (s : State) (p : Port) : (s.addTry p).mainPower = s.mainPower := rfl
@[simp] theorem State.addTry_resetHeld (s : State) (p : Port) : (s.addTry p).resetHeld = s.resetHeld := rfl
@[simp] theorem State.addTry_holdingLost (s : State) (p : Port) : (s.addTry p).holdingLost = s.holdingLost := rfl
@[simp] theorem State.addTry_sweep (s : State) (p : Port) : (s.addTry p).sweep = s.sweep := rfl
@[simp] theorem State.addTry_heldTamper (s : State) (p : Port) : (s.addTry p).heldTamper = s.heldTamper := rfl
@[simp] theorem State.addTry_choices (s : State) (p : Port) : (s.addTry p).choices = s.choices := rfl
@[simp] theorem State.addTry_pending (s : State) (p : Port) : (s.addTry p).pending = s.pending := rfl

/-! ### setWait changes `ports` alone -/

@[simp] theorem State.setWait_keys (s : State) (p : Port) (w : HeadWait) : (s.setWait p w).keys = s.keys := rfl
@[simp] theorem State.setWait_bindings (s : State) (p : Port) (w : HeadWait) : (s.setWait p w).bindings = s.bindings := rfl
@[simp] theorem State.setWait_batches (s : State) (p : Port) (w : HeadWait) : (s.setWait p w).batches = s.batches := rfl
@[simp] theorem State.setWait_slots (s : State) (p : Port) (w : HeadWait) : (s.setWait p w).slots = s.slots := rfl
@[simp] theorem State.setWait_live (s : State) (p : Port) (w : HeadWait) : (s.setWait p w).live = s.live := rfl
@[simp] theorem State.setWait_waitList (s : State) (p : Port) (w : HeadWait) : (s.setWait p w).waitList = s.waitList := rfl
@[simp] theorem State.setWait_seqs (s : State) (p : Port) (w : HeadWait) : (s.setWait p w).seqs = s.seqs := rfl
@[simp] theorem State.setWait_engine (s : State) (p : Port) (w : HeadWait) : (s.setWait p w).engine = s.engine := rfl
@[simp] theorem State.setWait_pointer (s : State) (p : Port) (w : HeadWait) : (s.setWait p w).pointer = s.pointer := rfl
@[simp] theorem State.setWait_deficits (s : State) (p : Port) (w : HeadWait) : (s.setWait p w).deficits = s.deficits := rfl
@[simp] theorem State.setWait_ceremony (s : State) (p : Port) (w : HeadWait) : (s.setWait p w).ceremony = s.ceremony := rfl
@[simp] theorem State.setWait_notices (s : State) (p : Port) (w : HeadWait) : (s.setWait p w).notices = s.notices := rfl
@[simp] theorem State.setWait_mode (s : State) (p : Port) (w : HeadWait) : (s.setWait p w).mode = s.mode := rfl
@[simp] theorem State.setWait_causes (s : State) (p : Port) (w : HeadWait) : (s.setWait p w).causes = s.causes := rfl
@[simp] theorem State.setWait_firstCause (s : State) (p : Port) (w : HeadWait) : (s.setWait p w).firstCause = s.firstCause := rfl
@[simp] theorem State.setWait_zeroisePending (s : State) (p : Port) (w : HeadWait) : (s.setWait p w).zeroisePending = s.zeroisePending := rfl
@[simp] theorem State.setWait_markerGood (s : State) (p : Port) (w : HeadWait) : (s.setWait p w).markerGood = s.markerGood := rfl
@[simp] theorem State.setWait_zeroRun (s : State) (p : Port) (w : HeadWait) : (s.setWait p w).zeroRun = s.zeroRun := rfl
@[simp] theorem State.setWait_zeroTag (s : State) (p : Port) (w : HeadWait) : (s.setWait p w).zeroTag = s.zeroTag := rfl
@[simp] theorem State.setWait_battery (s : State) (p : Port) (w : HeadWait) : (s.setWait p w).battery = s.battery := rfl
@[simp] theorem State.setWait_batteryBelow (s : State) (p : Port) (w : HeadWait) : (s.setWait p w).batteryBelow = s.batteryBelow := rfl
@[simp] theorem State.setWait_tamperPins (s : State) (p : Port) (w : HeadWait) : (s.setWait p w).tamperPins = s.tamperPins := rfl
@[simp] theorem State.setWait_mainPower (s : State) (p : Port) (w : HeadWait) : (s.setWait p w).mainPower = s.mainPower := rfl
@[simp] theorem State.setWait_resetHeld (s : State) (p : Port) (w : HeadWait) : (s.setWait p w).resetHeld = s.resetHeld := rfl
@[simp] theorem State.setWait_holdingLost (s : State) (p : Port) (w : HeadWait) : (s.setWait p w).holdingLost = s.holdingLost := rfl
@[simp] theorem State.setWait_sweep (s : State) (p : Port) (w : HeadWait) : (s.setWait p w).sweep = s.sweep := rfl
@[simp] theorem State.setWait_heldTamper (s : State) (p : Port) (w : HeadWait) : (s.setWait p w).heldTamper = s.heldTamper := rfl
@[simp] theorem State.setWait_tries (s : State) (p : Port) (w : HeadWait) : (s.setWait p w).tries = s.tries := rfl
@[simp] theorem State.setWait_choices (s : State) (p : Port) (w : HeadWait) : (s.setWait p w).choices = s.choices := rfl
@[simp] theorem State.setWait_pending (s : State) (p : Port) (w : HeadWait) : (s.setWait p w).pending = s.pending := rfl

/-! ### notice changes `notices` alone -/

@[simp] theorem State.notice_keys (s : State) (k : NoticeKey) (c : Nat) : (s.notice k c).keys = s.keys := rfl
@[simp] theorem State.notice_bindings (s : State) (k : NoticeKey) (c : Nat) : (s.notice k c).bindings = s.bindings := rfl
@[simp] theorem State.notice_batches (s : State) (k : NoticeKey) (c : Nat) : (s.notice k c).batches = s.batches := rfl
@[simp] theorem State.notice_slots (s : State) (k : NoticeKey) (c : Nat) : (s.notice k c).slots = s.slots := rfl
@[simp] theorem State.notice_live (s : State) (k : NoticeKey) (c : Nat) : (s.notice k c).live = s.live := rfl
@[simp] theorem State.notice_waitList (s : State) (k : NoticeKey) (c : Nat) : (s.notice k c).waitList = s.waitList := rfl
@[simp] theorem State.notice_seqs (s : State) (k : NoticeKey) (c : Nat) : (s.notice k c).seqs = s.seqs := rfl
@[simp] theorem State.notice_engine (s : State) (k : NoticeKey) (c : Nat) : (s.notice k c).engine = s.engine := rfl
@[simp] theorem State.notice_pointer (s : State) (k : NoticeKey) (c : Nat) : (s.notice k c).pointer = s.pointer := rfl
@[simp] theorem State.notice_deficits (s : State) (k : NoticeKey) (c : Nat) : (s.notice k c).deficits = s.deficits := rfl
@[simp] theorem State.notice_ceremony (s : State) (k : NoticeKey) (c : Nat) : (s.notice k c).ceremony = s.ceremony := rfl
@[simp] theorem State.notice_ports (s : State) (k : NoticeKey) (c : Nat) : (s.notice k c).ports = s.ports := rfl
@[simp] theorem State.notice_mode (s : State) (k : NoticeKey) (c : Nat) : (s.notice k c).mode = s.mode := rfl
@[simp] theorem State.notice_causes (s : State) (k : NoticeKey) (c : Nat) : (s.notice k c).causes = s.causes := rfl
@[simp] theorem State.notice_firstCause (s : State) (k : NoticeKey) (c : Nat) : (s.notice k c).firstCause = s.firstCause := rfl
@[simp] theorem State.notice_zeroisePending (s : State) (k : NoticeKey) (c : Nat) : (s.notice k c).zeroisePending = s.zeroisePending := rfl
@[simp] theorem State.notice_markerGood (s : State) (k : NoticeKey) (c : Nat) : (s.notice k c).markerGood = s.markerGood := rfl
@[simp] theorem State.notice_zeroRun (s : State) (k : NoticeKey) (c : Nat) : (s.notice k c).zeroRun = s.zeroRun := rfl
@[simp] theorem State.notice_zeroTag (s : State) (k : NoticeKey) (c : Nat) : (s.notice k c).zeroTag = s.zeroTag := rfl
@[simp] theorem State.notice_battery (s : State) (k : NoticeKey) (c : Nat) : (s.notice k c).battery = s.battery := rfl
@[simp] theorem State.notice_batteryBelow (s : State) (k : NoticeKey) (c : Nat) : (s.notice k c).batteryBelow = s.batteryBelow := rfl
@[simp] theorem State.notice_tamperPins (s : State) (k : NoticeKey) (c : Nat) : (s.notice k c).tamperPins = s.tamperPins := rfl
@[simp] theorem State.notice_mainPower (s : State) (k : NoticeKey) (c : Nat) : (s.notice k c).mainPower = s.mainPower := rfl
@[simp] theorem State.notice_resetHeld (s : State) (k : NoticeKey) (c : Nat) : (s.notice k c).resetHeld = s.resetHeld := rfl
@[simp] theorem State.notice_holdingLost (s : State) (k : NoticeKey) (c : Nat) : (s.notice k c).holdingLost = s.holdingLost := rfl
@[simp] theorem State.notice_sweep (s : State) (k : NoticeKey) (c : Nat) : (s.notice k c).sweep = s.sweep := rfl
@[simp] theorem State.notice_heldTamper (s : State) (k : NoticeKey) (c : Nat) : (s.notice k c).heldTamper = s.heldTamper := rfl
@[simp] theorem State.notice_tries (s : State) (k : NoticeKey) (c : Nat) : (s.notice k c).tries = s.tries := rfl
@[simp] theorem State.notice_choices (s : State) (k : NoticeKey) (c : Nat) : (s.notice k c).choices = s.choices := rfl
@[simp] theorem State.notice_pending (s : State) (k : NoticeKey) (c : Nat) : (s.notice k c).pending = s.pending := rfl

/-! ### setCeremony changes `ceremony` alone -/

@[simp] theorem State.setCeremony_keys (s : State) (c : Ceremony) : (s.setCeremony c).keys = s.keys := rfl
@[simp] theorem State.setCeremony_bindings (s : State) (c : Ceremony) : (s.setCeremony c).bindings = s.bindings := rfl
@[simp] theorem State.setCeremony_batches (s : State) (c : Ceremony) : (s.setCeremony c).batches = s.batches := rfl
@[simp] theorem State.setCeremony_slots (s : State) (c : Ceremony) : (s.setCeremony c).slots = s.slots := rfl
@[simp] theorem State.setCeremony_live (s : State) (c : Ceremony) : (s.setCeremony c).live = s.live := rfl
@[simp] theorem State.setCeremony_waitList (s : State) (c : Ceremony) : (s.setCeremony c).waitList = s.waitList := rfl
@[simp] theorem State.setCeremony_seqs (s : State) (c : Ceremony) : (s.setCeremony c).seqs = s.seqs := rfl
@[simp] theorem State.setCeremony_engine (s : State) (c : Ceremony) : (s.setCeremony c).engine = s.engine := rfl
@[simp] theorem State.setCeremony_pointer (s : State) (c : Ceremony) : (s.setCeremony c).pointer = s.pointer := rfl
@[simp] theorem State.setCeremony_deficits (s : State) (c : Ceremony) : (s.setCeremony c).deficits = s.deficits := rfl
@[simp] theorem State.setCeremony_ports (s : State) (c : Ceremony) : (s.setCeremony c).ports = s.ports := rfl
@[simp] theorem State.setCeremony_notices (s : State) (c : Ceremony) : (s.setCeremony c).notices = s.notices := rfl
@[simp] theorem State.setCeremony_mode (s : State) (c : Ceremony) : (s.setCeremony c).mode = s.mode := rfl
@[simp] theorem State.setCeremony_causes (s : State) (c : Ceremony) : (s.setCeremony c).causes = s.causes := rfl
@[simp] theorem State.setCeremony_firstCause (s : State) (c : Ceremony) : (s.setCeremony c).firstCause = s.firstCause := rfl
@[simp] theorem State.setCeremony_zeroisePending (s : State) (c : Ceremony) : (s.setCeremony c).zeroisePending = s.zeroisePending := rfl
@[simp] theorem State.setCeremony_markerGood (s : State) (c : Ceremony) : (s.setCeremony c).markerGood = s.markerGood := rfl
@[simp] theorem State.setCeremony_zeroRun (s : State) (c : Ceremony) : (s.setCeremony c).zeroRun = s.zeroRun := rfl
@[simp] theorem State.setCeremony_zeroTag (s : State) (c : Ceremony) : (s.setCeremony c).zeroTag = s.zeroTag := rfl
@[simp] theorem State.setCeremony_battery (s : State) (c : Ceremony) : (s.setCeremony c).battery = s.battery := rfl
@[simp] theorem State.setCeremony_batteryBelow (s : State) (c : Ceremony) : (s.setCeremony c).batteryBelow = s.batteryBelow := rfl
@[simp] theorem State.setCeremony_tamperPins (s : State) (c : Ceremony) : (s.setCeremony c).tamperPins = s.tamperPins := rfl
@[simp] theorem State.setCeremony_mainPower (s : State) (c : Ceremony) : (s.setCeremony c).mainPower = s.mainPower := rfl
@[simp] theorem State.setCeremony_resetHeld (s : State) (c : Ceremony) : (s.setCeremony c).resetHeld = s.resetHeld := rfl
@[simp] theorem State.setCeremony_holdingLost (s : State) (c : Ceremony) : (s.setCeremony c).holdingLost = s.holdingLost := rfl
@[simp] theorem State.setCeremony_sweep (s : State) (c : Ceremony) : (s.setCeremony c).sweep = s.sweep := rfl
@[simp] theorem State.setCeremony_heldTamper (s : State) (c : Ceremony) : (s.setCeremony c).heldTamper = s.heldTamper := rfl
@[simp] theorem State.setCeremony_tries (s : State) (c : Ceremony) : (s.setCeremony c).tries = s.tries := rfl
@[simp] theorem State.setCeremony_choices (s : State) (c : Ceremony) : (s.setCeremony c).choices = s.choices := rfl
@[simp] theorem State.setCeremony_pending (s : State) (c : Ceremony) : (s.setCeremony c).pending = s.pending := rfl

/-! ### leaveWaitList changes `waitList` alone -/

@[simp] theorem State.leaveWaitList_keys (s : State) (p : Port) : (s.leaveWaitList p).keys = s.keys := by cases p <;> rfl
@[simp] theorem State.leaveWaitList_bindings (s : State) (p : Port) : (s.leaveWaitList p).bindings = s.bindings := by cases p <;> rfl
@[simp] theorem State.leaveWaitList_batches (s : State) (p : Port) : (s.leaveWaitList p).batches = s.batches := by cases p <;> rfl
@[simp] theorem State.leaveWaitList_slots (s : State) (p : Port) : (s.leaveWaitList p).slots = s.slots := by cases p <;> rfl
@[simp] theorem State.leaveWaitList_live (s : State) (p : Port) : (s.leaveWaitList p).live = s.live := by cases p <;> rfl
@[simp] theorem State.leaveWaitList_seqs (s : State) (p : Port) : (s.leaveWaitList p).seqs = s.seqs := by cases p <;> rfl
@[simp] theorem State.leaveWaitList_engine (s : State) (p : Port) : (s.leaveWaitList p).engine = s.engine := by cases p <;> rfl
@[simp] theorem State.leaveWaitList_pointer (s : State) (p : Port) : (s.leaveWaitList p).pointer = s.pointer := by cases p <;> rfl
@[simp] theorem State.leaveWaitList_deficits (s : State) (p : Port) : (s.leaveWaitList p).deficits = s.deficits := by cases p <;> rfl
@[simp] theorem State.leaveWaitList_ceremony (s : State) (p : Port) : (s.leaveWaitList p).ceremony = s.ceremony := by cases p <;> rfl
@[simp] theorem State.leaveWaitList_ports (s : State) (p : Port) : (s.leaveWaitList p).ports = s.ports := by cases p <;> rfl
@[simp] theorem State.leaveWaitList_notices (s : State) (p : Port) : (s.leaveWaitList p).notices = s.notices := by cases p <;> rfl
@[simp] theorem State.leaveWaitList_mode (s : State) (p : Port) : (s.leaveWaitList p).mode = s.mode := by cases p <;> rfl
@[simp] theorem State.leaveWaitList_causes (s : State) (p : Port) : (s.leaveWaitList p).causes = s.causes := by cases p <;> rfl
@[simp] theorem State.leaveWaitList_firstCause (s : State) (p : Port) : (s.leaveWaitList p).firstCause = s.firstCause := by cases p <;> rfl
@[simp] theorem State.leaveWaitList_zeroisePending (s : State) (p : Port) : (s.leaveWaitList p).zeroisePending = s.zeroisePending := by cases p <;> rfl
@[simp] theorem State.leaveWaitList_markerGood (s : State) (p : Port) : (s.leaveWaitList p).markerGood = s.markerGood := by cases p <;> rfl
@[simp] theorem State.leaveWaitList_zeroRun (s : State) (p : Port) : (s.leaveWaitList p).zeroRun = s.zeroRun := by cases p <;> rfl
@[simp] theorem State.leaveWaitList_zeroTag (s : State) (p : Port) : (s.leaveWaitList p).zeroTag = s.zeroTag := by cases p <;> rfl
@[simp] theorem State.leaveWaitList_battery (s : State) (p : Port) : (s.leaveWaitList p).battery = s.battery := by cases p <;> rfl
@[simp] theorem State.leaveWaitList_batteryBelow (s : State) (p : Port) : (s.leaveWaitList p).batteryBelow = s.batteryBelow := by cases p <;> rfl
@[simp] theorem State.leaveWaitList_tamperPins (s : State) (p : Port) : (s.leaveWaitList p).tamperPins = s.tamperPins := by cases p <;> rfl
@[simp] theorem State.leaveWaitList_mainPower (s : State) (p : Port) : (s.leaveWaitList p).mainPower = s.mainPower := by cases p <;> rfl
@[simp] theorem State.leaveWaitList_resetHeld (s : State) (p : Port) : (s.leaveWaitList p).resetHeld = s.resetHeld := by cases p <;> rfl
@[simp] theorem State.leaveWaitList_holdingLost (s : State) (p : Port) : (s.leaveWaitList p).holdingLost = s.holdingLost := by cases p <;> rfl
@[simp] theorem State.leaveWaitList_sweep (s : State) (p : Port) : (s.leaveWaitList p).sweep = s.sweep := by cases p <;> rfl
@[simp] theorem State.leaveWaitList_heldTamper (s : State) (p : Port) : (s.leaveWaitList p).heldTamper = s.heldTamper := by cases p <;> rfl
@[simp] theorem State.leaveWaitList_tries (s : State) (p : Port) : (s.leaveWaitList p).tries = s.tries := by cases p <;> rfl
@[simp] theorem State.leaveWaitList_choices (s : State) (p : Port) : (s.leaveWaitList p).choices = s.choices := by cases p <;> rfl
@[simp] theorem State.leaveWaitList_pending (s : State) (p : Port) : (s.leaveWaitList p).pending = s.pending := by cases p <;> rfl

/-! ### joinWaitList changes `waitList` alone -/

@[simp] theorem State.joinWaitList_keys (s : State) (p : Port) : (s.joinWaitList p).keys = s.keys := by cases p <;> rfl
@[simp] theorem State.joinWaitList_bindings (s : State) (p : Port) : (s.joinWaitList p).bindings = s.bindings := by cases p <;> rfl
@[simp] theorem State.joinWaitList_batches (s : State) (p : Port) : (s.joinWaitList p).batches = s.batches := by cases p <;> rfl
@[simp] theorem State.joinWaitList_slots (s : State) (p : Port) : (s.joinWaitList p).slots = s.slots := by cases p <;> rfl
@[simp] theorem State.joinWaitList_live (s : State) (p : Port) : (s.joinWaitList p).live = s.live := by cases p <;> rfl
@[simp] theorem State.joinWaitList_seqs (s : State) (p : Port) : (s.joinWaitList p).seqs = s.seqs := by cases p <;> rfl
@[simp] theorem State.joinWaitList_engine (s : State) (p : Port) : (s.joinWaitList p).engine = s.engine := by cases p <;> rfl
@[simp] theorem State.joinWaitList_pointer (s : State) (p : Port) : (s.joinWaitList p).pointer = s.pointer := by cases p <;> rfl
@[simp] theorem State.joinWaitList_deficits (s : State) (p : Port) : (s.joinWaitList p).deficits = s.deficits := by cases p <;> rfl
@[simp] theorem State.joinWaitList_ceremony (s : State) (p : Port) : (s.joinWaitList p).ceremony = s.ceremony := by cases p <;> rfl
@[simp] theorem State.joinWaitList_ports (s : State) (p : Port) : (s.joinWaitList p).ports = s.ports := by cases p <;> rfl
@[simp] theorem State.joinWaitList_notices (s : State) (p : Port) : (s.joinWaitList p).notices = s.notices := by cases p <;> rfl
@[simp] theorem State.joinWaitList_mode (s : State) (p : Port) : (s.joinWaitList p).mode = s.mode := by cases p <;> rfl
@[simp] theorem State.joinWaitList_causes (s : State) (p : Port) : (s.joinWaitList p).causes = s.causes := by cases p <;> rfl
@[simp] theorem State.joinWaitList_firstCause (s : State) (p : Port) : (s.joinWaitList p).firstCause = s.firstCause := by cases p <;> rfl
@[simp] theorem State.joinWaitList_zeroisePending (s : State) (p : Port) : (s.joinWaitList p).zeroisePending = s.zeroisePending := by cases p <;> rfl
@[simp] theorem State.joinWaitList_markerGood (s : State) (p : Port) : (s.joinWaitList p).markerGood = s.markerGood := by cases p <;> rfl
@[simp] theorem State.joinWaitList_zeroRun (s : State) (p : Port) : (s.joinWaitList p).zeroRun = s.zeroRun := by cases p <;> rfl
@[simp] theorem State.joinWaitList_zeroTag (s : State) (p : Port) : (s.joinWaitList p).zeroTag = s.zeroTag := by cases p <;> rfl
@[simp] theorem State.joinWaitList_battery (s : State) (p : Port) : (s.joinWaitList p).battery = s.battery := by cases p <;> rfl
@[simp] theorem State.joinWaitList_batteryBelow (s : State) (p : Port) : (s.joinWaitList p).batteryBelow = s.batteryBelow := by cases p <;> rfl
@[simp] theorem State.joinWaitList_tamperPins (s : State) (p : Port) : (s.joinWaitList p).tamperPins = s.tamperPins := by cases p <;> rfl
@[simp] theorem State.joinWaitList_mainPower (s : State) (p : Port) : (s.joinWaitList p).mainPower = s.mainPower := by cases p <;> rfl
@[simp] theorem State.joinWaitList_resetHeld (s : State) (p : Port) : (s.joinWaitList p).resetHeld = s.resetHeld := by cases p <;> rfl
@[simp] theorem State.joinWaitList_holdingLost (s : State) (p : Port) : (s.joinWaitList p).holdingLost = s.holdingLost := by cases p <;> rfl
@[simp] theorem State.joinWaitList_sweep (s : State) (p : Port) : (s.joinWaitList p).sweep = s.sweep := by cases p <;> rfl
@[simp] theorem State.joinWaitList_heldTamper (s : State) (p : Port) : (s.joinWaitList p).heldTamper = s.heldTamper := by cases p <;> rfl
@[simp] theorem State.joinWaitList_tries (s : State) (p : Port) : (s.joinWaitList p).tries = s.tries := by cases p <;> rfl
@[simp] theorem State.joinWaitList_choices (s : State) (p : Port) : (s.joinWaitList p).choices = s.choices := by cases p <;> rfl
@[simp] theorem State.joinWaitList_pending (s : State) (p : Port) : (s.joinWaitList p).pending = s.pending := by cases p <;> rfl

end Sys2Proof.Machine
end

