-- ==== Sys2Proof/Laws/Tables.lean ====
section
/-! SUPPORT. Reading one thing after writing one thing: the same place gives what was written, every other place what it
held. -/

namespace Sys2Proof.Machine

@[simp] theorem PerPort.get_set_same {α : Type} (x : PerPort α) (p : Port) (v : α) : (x.set p v).get p = v := by
  cases p with
  | cp => rfl
  | line l => cases l <;> rfl

@[simp] theorem PerPort.get_set_ne {α : Type} (x : PerPort α) {p q : Port} (v : α) (h : q ≠ p) :
    (x.set p v).get q = x.get q := by
  cases p with
  | cp =>
    cases q with
    | cp => exact absurd rfl h
    | line m => cases m <;> rfl
  | line l =>
    cases q with
    | cp => cases l <;> rfl
    | line m => cases l <;> cases m <;> first | exact absurd rfl h | rfl

@[simp] theorem PerPort.set_get_self {α : Type} (x : PerPort α) (p : Port) : x.set p (x.get p) = x := by
  cases p with
  | cp => rfl
  | line l => cases l <;> rfl

@[simp] theorem PerPort.set_set_same {α : Type} (x : PerPort α) (p : Port) (v w : α) :
    (x.set p v).set p w = x.set p w := by
  cases p with
  | cp => rfl
  | line l => cases l <;> rfl

@[simp] theorem PerLine.get_set_same {α : Type} (x : PerLine α) (l : LinePort) (v : α) : (x.set l v).get l = v := by
  cases l <;> rfl

@[simp] theorem PerLine.get_set_ne {α : Type} (x : PerLine α) {l m : LinePort} (v : α) (h : m ≠ l) :
    (x.set l v).get m = x.get m := by
  cases l <;> cases m <;> first | exact absurd rfl h | rfl

@[simp] theorem PerLine.set_set_same {α : Type} (x : PerLine α) (l : LinePort) (v w : α) :
    (x.set l v).set l w = x.set l w := by cases l <;> rfl

@[simp] theorem PerLine.set_get_self {α : Type} (x : PerLine α) (l : LinePort) : x.set l (x.get l) = x := by
  cases l <;> rfl

@[simp] theorem State.port_setPort_same (s : State) (p : Port) (u : PortUnit) : (s.setPort p u).port p = u :=
  PerPort.get_set_same _ _ _

@[simp] theorem State.port_setPort_ne (s : State) {p q : Port} (u : PortUnit) (h : q ≠ p) :
    (s.setPort p u).port q = s.port q := PerPort.get_set_ne _ _ h

@[simp] theorem State.setPort_setPort (s : State) (p : Port) (u v : PortUnit) :
    (s.setPort p u).setPort p v = s.setPort p v := by simp [State.setPort]

@[simp] theorem State.setPort_self (s : State) (p : Port) : s.setPort p (s.port p) = s := by
  simp [State.setPort, State.port]

@[simp] theorem State.liveOf_setLive_same (s : State) (p : Port) (l : List Nat) : (s.setLive p l).liveOf p = l :=
  PerPort.get_set_same _ _ _

@[simp] theorem State.liveOf_setLive_ne (s : State) {p q : Port} (l : List Nat) (h : q ≠ p) :
    (s.setLive p l).liveOf q = s.liveOf q := PerPort.get_set_ne _ _ h

@[simp] theorem State.binding_setBinding_same (s : State) (l : LinePort) (b : Binding) :
    (s.setBinding l b).binding l = b := PerLine.get_set_same _ _ _

@[simp] theorem State.binding_setBinding_ne (s : State) {l m : LinePort} (b : Binding) (h : m ≠ l) :
    (s.setBinding l b).binding m = s.binding m := PerLine.get_set_ne _ _ h

@[simp] theorem State.deficit_setDeficit_same (s : State) (l : LinePort) (d : Nat) :
    (s.setDeficit l d).deficit l = d := PerLine.get_set_same _ _ _

@[simp] theorem State.deficit_setDeficit_ne (s : State) {l m : LinePort} (d : Nat) (h : m ≠ l) :
    (s.setDeficit l d).deficit m = s.deficit m := PerLine.get_set_ne _ _ h

@[simp] theorem State.setDeficit_self (s : State) (l : LinePort) : s.setDeficit l (s.deficit l) = s := by
  simp [State.setDeficit, State.deficit]

/-- Reading a table of fixed size after writing it: what was written where a place of the table was written, else what
stood there; a number outside the table reads as `d` and is never written. -/
theorem table_get_set {α : Type} {N : Nat} (v : Vector α N) (d x : α) (n m : Nat) :
    (if h : m < N then (if h' : n < N then v.set n x h' else v)[m] else d) =
      if m = n ∧ n < N then x else if h : m < N then v[m] else d := by
  by_cases hn : n < N
  · rw [dif_pos hn]
    by_cases he : m = n
    · subst he
      rw [dif_pos hn, if_pos ⟨rfl, hn⟩, Vector.getElem_set_self]
    · rw [if_neg (fun h => he h.1)]
      split
      · exact Vector.getElem_set_ne _ _ (fun h => he h.symm)
      · rfl
  · rw [dif_neg hn, if_neg (fun h => hn h.2)]

theorem State.entry_setEntry (s : State) (n m : Nat) (e : Entry) :
    (s.setEntry n e).entry m = if m = n ∧ n < 128 then e else s.entry m := table_get_set _ _ _ _ _

@[simp] theorem State.entry_setEntry_same (s : State) (n : Nat) (e : Entry) (h : n < 128) : (s.setEntry n e).entry n = e := by
  rw [State.entry_setEntry, if_pos ⟨rfl, h⟩]

@[simp] theorem State.entry_setEntry_ne (s : State) {n m : Nat} (e : Entry) (h : m ≠ n) : (s.setEntry n e).entry m = s.entry m := by
  rw [State.entry_setEntry, if_neg (fun x => h x.1)]

theorem State.batch_setBatch (s : State) (n m : Nat) (b : Batch) :
    (s.setBatch n b).batch m = if m = n ∧ n < 32 then b else s.batch m := table_get_set _ _ _ _ _

@[simp] theorem State.batch_setBatch_same (s : State) (n : Nat) (b : Batch) (h : n < 32) : (s.setBatch n b).batch n = b := by
  rw [State.batch_setBatch, if_pos ⟨rfl, h⟩]

@[simp] theorem State.batch_setBatch_ne (s : State) {n m : Nat} (b : Batch) (h : m ≠ n) : (s.setBatch n b).batch m = s.batch m := by
  rw [State.batch_setBatch, if_neg (fun x => h x.1)]

theorem State.job_setJob (s : State) (n m : Nat) (j : Option Job) :
    (s.setJob n j).job m = if m = n ∧ n < 16 then j else s.job m := table_get_set _ _ _ _ _

@[simp] theorem State.job_setJob_same (s : State) (n : Nat) (j : Option Job) (h : n < 16) : (s.setJob n j).job n = j := by
  rw [State.job_setJob, if_pos ⟨rfl, h⟩]

@[simp] theorem State.job_setJob_ne (s : State) {n m : Nat} (j : Option Job) (h : m ≠ n) : (s.setJob n j).job m = s.job m := by
  rw [State.job_setJob, if_neg (fun x => h x.1)]

theorem State.seq_setSeq (s : State) (n m : Nat) (v : Byte) :
    (s.setSeq n v).seq m = if m = n ∧ n < 15 then v else s.seq m := table_get_set _ _ _ _ _

@[simp] theorem State.seq_setSeq_same (s : State) (n : Nat) (v : Byte) (h : n < 15) : (s.setSeq n v).seq n = v := by
  rw [State.seq_setSeq, if_pos ⟨rfl, h⟩]

@[simp] theorem State.seq_setSeq_ne (s : State) {n m : Nat} (v : Byte) (h : m ≠ n) : (s.setSeq n v).seq m = s.seq m := by
  rw [State.seq_setSeq, if_neg (fun x => h x.1)]

/-! ### An accessor of one field after an update of another -/

@[simp] theorem State.liveOf_setPort (s : State) (p : Port) (u : PortUnit) (x : Port) : (s.setPort p u).liveOf x = s.liveOf x := rfl
@[simp] theorem State.binding_setPort (s : State) (p : Port) (u : PortUnit) (x : LinePort) : (s.setPort p u).binding x = s.binding x := rfl
@[simp] theorem State.deficit_setPort (s : State) (p : Port) (u : PortUnit) (x : LinePort) : (s.setPort p u).deficit x = s.deficit x := rfl
@[simp] theorem State.entry_setPort (s : State) (p : Port) (u : PortUnit) (x : Nat) : (s.setPort p u).entry x = s.entry x := rfl
@[simp] theorem State.batch_setPort (s : State) (p : Port) (u : PortUnit) (x : Nat) : (s.setPort p u).batch x = s.batch x := rfl
@[simp] theorem State.job_setPort (s : State) (p : Port) (u : PortUnit) (x : Nat) : (s.setPort p u).job x = s.job x := rfl
@[simp] theorem State.seq_setPort (s : State) (p : Port) (u : PortUnit) (x : Nat) : (s.setPort p u).seq x = s.seq x := rfl
@[simp] theorem State.port_setLive (s : State) (p : Port) (l : List Nat) (x : Port) : (s.setLive p l).port x = s.port x := rfl
@[simp] theorem State.binding_setLive (s : State) (p : Port) (l : List Nat) (x : LinePort) : (s.setLive p l).binding x = s.binding x := rfl
@[simp] theorem State.deficit_setLive (s : State) (p : Port) (l : List Nat) (x : LinePort) : (s.setLive p l).deficit x = s.deficit x := rfl
@[simp] theorem State.entry_setLive (s : State) (p : Port) (l : List Nat) (x : Nat) : (s.setLive p l).entry x = s.entry x := rfl
@[simp] theorem State.batch_setLive (s : State) (p : Port) (l : List Nat) (x : Nat) : (s.setLive p l).batch x = s.batch x := rfl
@[simp] theorem State.job_setLive (s : State) (p : Port) (l : List Nat) (x : Nat) : (s.setLive p l).job x = s.job x := rfl
@[simp] theorem State.seq_setLive (s : State) (p : Port) (l : List Nat) (x : Nat) : (s.setLive p l).seq x = s.seq x := rfl
@[simp] theorem State.port_setBinding (s : State) (l : LinePort) (b : Binding) (x : Port) : (s.setBinding l b).port x = s.port x := rfl
@[simp] theorem State.liveOf_setBinding (s : State) (l : LinePort) (b : Binding) (x : Port) : (s.setBinding l b).liveOf x = s.liveOf x := rfl
@[simp] theorem State.deficit_setBinding (s : State) (l : LinePort) (b : Binding) (x : LinePort) : (s.setBinding l b).deficit x = s.deficit x := rfl
@[simp] theorem State.entry_setBinding (s : State) (l : LinePort) (b : Binding) (x : Nat) : (s.setBinding l b).entry x = s.entry x := rfl
@[simp] theorem State.batch_setBinding (s : State) (l : LinePort) (b : Binding) (x : Nat) : (s.setBinding l b).batch x = s.batch x := rfl
@[simp] theorem State.job_setBinding (s : State) (l : LinePort) (b : Binding) (x : Nat) : (s.setBinding l b).job x = s.job x := rfl
@[simp] theorem State.seq_setBinding (s : State) (l : LinePort) (b : Binding) (x : Nat) : (s.setBinding l b).seq x = s.seq x := rfl
@[simp] theorem State.port_setDeficit (s : State) (l : LinePort) (d : Nat) (x : Port) : (s.setDeficit l d).port x = s.port x := rfl
@[simp] theorem State.liveOf_setDeficit (s : State) (l : LinePort) (d : Nat) (x : Port) : (s.setDeficit l d).liveOf x = s.liveOf x := rfl
@[simp] theorem State.binding_setDeficit (s : State) (l : LinePort) (d : Nat) (x : LinePort) : (s.setDeficit l d).binding x = s.binding x := rfl
@[simp] theorem State.entry_setDeficit (s : State) (l : LinePort) (d : Nat) (x : Nat) : (s.setDeficit l d).entry x = s.entry x := rfl
@[simp] theorem State.batch_setDeficit (s : State) (l : LinePort) (d : Nat) (x : Nat) : (s.setDeficit l d).batch x = s.batch x := rfl
@[simp] theorem State.job_setDeficit (s : State) (l : LinePort) (d : Nat) (x : Nat) : (s.setDeficit l d).job x = s.job x := rfl
@[simp] theorem State.seq_setDeficit (s : State) (l : LinePort) (d : Nat) (x : Nat) : (s.setDeficit l d).seq x = s.seq x := rfl
@[simp] theorem State.port_setEntry (s : State) (n : Nat) (e : Entry) (x : Port) : (s.setEntry n e).port x = s.port x := rfl
@[simp] theorem State.liveOf_setEntry (s : State) (n : Nat) (e : Entry) (x : Port) : (s.setEntry n e).liveOf x = s.liveOf x := rfl
@[simp] theorem State.binding_setEntry (s : State) (n : Nat) (e : Entry) (x : LinePort) : (s.setEntry n e).binding x = s.binding x := rfl
@[simp] theorem State.deficit_setEntry (s : State) (n : Nat) (e : Entry) (x : LinePort) : (s.setEntry n e).deficit x = s.deficit x := rfl
@[simp] theorem State.batch_setEntry (s : State) (n : Nat) (e : Entry) (x : Nat) : (s.setEntry n e).batch x = s.batch x := rfl
@[simp] theorem State.job_setEntry (s : State) (n : Nat) (e : Entry) (x : Nat) : (s.setEntry n e).job x = s.job x := rfl
@[simp] theorem State.seq_setEntry (s : State) (n : Nat) (e : Entry) (x : Nat) : (s.setEntry n e).seq x = s.seq x := rfl
@[simp] theorem State.port_setBatch (s : State) (n : Nat) (b : Batch) (x : Port) : (s.setBatch n b).port x = s.port x := rfl
@[simp] theorem State.liveOf_setBatch (s : State) (n : Nat) (b : Batch) (x : Port) : (s.setBatch n b).liveOf x = s.liveOf x := rfl
@[simp] theorem State.binding_setBatch (s : State) (n : Nat) (b : Batch) (x : LinePort) : (s.setBatch n b).binding x = s.binding x := rfl
@[simp] theorem State.deficit_setBatch (s : State) (n : Nat) (b : Batch) (x : LinePort) : (s.setBatch n b).deficit x = s.deficit x := rfl
@[simp] theorem State.entry_setBatch (s : State) (n : Nat) (b : Batch) (x : Nat) : (s.setBatch n b).entry x = s.entry x := rfl
@[simp] theorem State.job_setBatch (s : State) (n : Nat) (b : Batch) (x : Nat) : (s.setBatch n b).job x = s.job x := rfl
@[simp] theorem State.seq_setBatch (s : State) (n : Nat) (b : Batch) (x : Nat) : (s.setBatch n b).seq x = s.seq x := rfl
@[simp] theorem State.port_setJob (s : State) (n : Nat) (j : Option Job) (x : Port) : (s.setJob n j).port x = s.port x := rfl
@[simp] theorem State.liveOf_setJob (s : State) (n : Nat) (j : Option Job) (x : Port) : (s.setJob n j).liveOf x = s.liveOf x := rfl
@[simp] theorem State.binding_setJob (s : State) (n : Nat) (j : Option Job) (x : LinePort) : (s.setJob n j).binding x = s.binding x := rfl
@[simp] theorem State.deficit_setJob (s : State) (n : Nat) (j : Option Job) (x : LinePort) : (s.setJob n j).deficit x = s.deficit x := rfl
@[simp] theorem State.entry_setJob (s : State) (n : Nat) (j : Option Job) (x : Nat) : (s.setJob n j).entry x = s.entry x := rfl
@[simp] theorem State.batch_setJob (s : State) (n : Nat) (j : Option Job) (x : Nat) : (s.setJob n j).batch x = s.batch x := rfl
@[simp] theorem State.seq_setJob (s : State) (n : Nat) (j : Option Job) (x : Nat) : (s.setJob n j).seq x = s.seq x := rfl
@[simp] theorem State.port_setSeq (s : State) (n : Nat) (v : Byte) (x : Port) : (s.setSeq n v).port x = s.port x := rfl
@[simp] theorem State.liveOf_setSeq (s : State) (n : Nat) (v : Byte) (x : Port) : (s.setSeq n v).liveOf x = s.liveOf x := rfl
@[simp] theorem State.binding_setSeq (s : State) (n : Nat) (v : Byte) (x : LinePort) : (s.setSeq n v).binding x = s.binding x := rfl
@[simp] theorem State.deficit_setSeq (s : State) (n : Nat) (v : Byte) (x : LinePort) : (s.setSeq n v).deficit x = s.deficit x := rfl
@[simp] theorem State.entry_setSeq (s : State) (n : Nat) (v : Byte) (x : Nat) : (s.setSeq n v).entry x = s.entry x := rfl
@[simp] theorem State.batch_setSeq (s : State) (n : Nat) (v : Byte) (x : Nat) : (s.setSeq n v).batch x = s.batch x := rfl
@[simp] theorem State.job_setSeq (s : State) (n : Nat) (v : Byte) (x : Nat) : (s.setSeq n v).job x = s.job x := rfl
@[simp] theorem State.port_addTry (s : State) (p : Port) (x : Port) : (s.addTry p).port x = s.port x := rfl
@[simp] theorem State.liveOf_addTry (s : State) (p : Port) (x : Port) : (s.addTry p).liveOf x = s.liveOf x := rfl
@[simp] theorem State.binding_addTry (s : State) (p : Port) (x : LinePort) : (s.addTry p).binding x = s.binding x := rfl
@[simp] theorem State.deficit_addTry (s : State) (p : Port) (x : LinePort) : (s.addTry p).deficit x = s.deficit x := rfl
@[simp] theorem State.entry_addTry (s : State) (p : Port) (x : Nat) : (s.addTry p).entry x = s.entry x := rfl
@[simp] theorem State.batch_addTry (s : State) (p : Port) (x : Nat) : (s.addTry p).batch x = s.batch x := rfl
@[simp] theorem State.job_addTry (s : State) (p : Port) (x : Nat) : (s.addTry p).job x = s.job x := rfl
@[simp] theorem State.seq_addTry (s : State) (p : Port) (x : Nat) : (s.addTry p).seq x = s.seq x := rfl
@[simp] theorem State.port_notice (s : State) (k : NoticeKey) (c : Nat) (x : Port) : (s.notice k c).port x = s.port x := rfl
@[simp] theorem State.liveOf_notice (s : State) (k : NoticeKey) (c : Nat) (x : Port) : (s.notice k c).liveOf x = s.liveOf x := rfl
@[simp] theorem State.binding_notice (s : State) (k : NoticeKey) (c : Nat) (x : LinePort) : (s.notice k c).binding x = s.binding x := rfl
@[simp] theorem State.deficit_notice (s : State) (k : NoticeKey) (c : Nat) (x : LinePort) : (s.notice k c).deficit x = s.deficit x := rfl
@[simp] theorem State.entry_notice (s : State) (k : NoticeKey) (c : Nat) (x : Nat) : (s.notice k c).entry x = s.entry x := rfl
@[simp] theorem State.batch_notice (s : State) (k : NoticeKey) (c : Nat) (x : Nat) : (s.notice k c).batch x = s.batch x := rfl
@[simp] theorem State.job_notice (s : State) (k : NoticeKey) (c : Nat) (x : Nat) : (s.notice k c).job x = s.job x := rfl
@[simp] theorem State.seq_notice (s : State) (k : NoticeKey) (c : Nat) (x : Nat) : (s.notice k c).seq x = s.seq x := rfl
@[simp] theorem State.port_setCeremony (s : State) (c : Ceremony) (x : Port) : (s.setCeremony c).port x = s.port x := rfl
@[simp] theorem State.liveOf_setCeremony (s : State) (c : Ceremony) (x : Port) : (s.setCeremony c).liveOf x = s.liveOf x := rfl
@[simp] theorem State.binding_setCeremony (s : State) (c : Ceremony) (x : LinePort) : (s.setCeremony c).binding x = s.binding x := rfl
@[simp] theorem State.deficit_setCeremony (s : State) (c : Ceremony) (x : LinePort) : (s.setCeremony c).deficit x = s.deficit x := rfl
@[simp] theorem State.entry_setCeremony (s : State) (c : Ceremony) (x : Nat) : (s.setCeremony c).entry x = s.entry x := rfl
@[simp] theorem State.batch_setCeremony (s : State) (c : Ceremony) (x : Nat) : (s.setCeremony c).batch x = s.batch x := rfl
@[simp] theorem State.job_setCeremony (s : State) (c : Ceremony) (x : Nat) : (s.setCeremony c).job x = s.job x := rfl
@[simp] theorem State.seq_setCeremony (s : State) (c : Ceremony) (x : Nat) : (s.setCeremony c).seq x = s.seq x := rfl
@[simp] theorem State.port_leaveWaitList (s : State) (p : Port) (x : Port) : (s.leaveWaitList p).port x = s.port x := by cases p <;> rfl
@[simp] theorem State.liveOf_leaveWaitList (s : State) (p : Port) (x : Port) : (s.leaveWaitList p).liveOf x = s.liveOf x := by cases p <;> rfl
@[simp] theorem State.binding_leaveWaitList (s : State) (p : Port) (x : LinePort) : (s.leaveWaitList p).binding x = s.binding x := by cases p <;> rfl
@[simp] theorem State.deficit_leaveWaitList (s : State) (p : Port) (x : LinePort) : (s.leaveWaitList p).deficit x = s.deficit x := by cases p <;> rfl
@[simp] theorem State.entry_leaveWaitList (s : State) (p : Port) (x : Nat) : (s.leaveWaitList p).entry x = s.entry x := by cases p <;> rfl
@[simp] theorem State.batch_leaveWaitList (s : State) (p : Port) (x : Nat) : (s.leaveWaitList p).batch x = s.batch x := by cases p <;> rfl
@[simp] theorem State.job_leaveWaitList (s : State) (p : Port) (x : Nat) : (s.leaveWaitList p).job x = s.job x := by cases p <;> rfl
@[simp] theorem State.seq_leaveWaitList (s : State) (p : Port) (x : Nat) : (s.leaveWaitList p).seq x = s.seq x := by cases p <;> rfl
@[simp] theorem State.port_joinWaitList (s : State) (p : Port) (x : Port) : (s.joinWaitList p).port x = s.port x := by cases p <;> rfl
@[simp] theorem State.liveOf_joinWaitList (s : State) (p : Port) (x : Port) : (s.joinWaitList p).liveOf x = s.liveOf x := by cases p <;> rfl
@[simp] theorem State.binding_joinWaitList (s : State) (p : Port) (x : LinePort) : (s.joinWaitList p).binding x = s.binding x := by cases p <;> rfl
@[simp] theorem State.deficit_joinWaitList (s : State) (p : Port) (x : LinePort) : (s.joinWaitList p).deficit x = s.deficit x := by cases p <;> rfl
@[simp] theorem State.entry_joinWaitList (s : State) (p : Port) (x : Nat) : (s.joinWaitList p).entry x = s.entry x := by cases p <;> rfl
@[simp] theorem State.batch_joinWaitList (s : State) (p : Port) (x : Nat) : (s.joinWaitList p).batch x = s.batch x := by cases p <;> rfl
@[simp] theorem State.job_joinWaitList (s : State) (p : Port) (x : Nat) : (s.joinWaitList p).job x = s.job x := by cases p <;> rfl
@[simp] theorem State.seq_joinWaitList (s : State) (p : Port) (x : Nat) : (s.joinWaitList p).seq x = s.seq x := by cases p <;> rfl

end Sys2Proof.Machine
end

