-- ==== Sys2Proof/Laws/Deliver.lean ====
section
/-! SUPPORT. What a request frame does at a port at rest: it places its request (R141, R142), whose try is the only one the
frame causes (R89); and what that try leaves when the request is admitted, refused or left waiting (R89 to R92). -/

namespace Sys2Proof.Machine

theorem clockBytes_placing (s : State) (p : Port) (g : Byte) (got bytes : List Byte) (u : PortUnit)
    (h : s.port p = { u with frame := .placing (g :: got) }) :
    s.clockBytes p bytes = s.setPort p { u with frame := .placing (g :: got ++ bytes) } := by
  induction bytes generalizing s got with
  | nil =>
    have : s.setPort p { u with frame := .placing (g :: got ++ []) } = s := by
      rw [List.append_nil, ← h, State.setPort_self]
    rw [this]; rfl
  | cons b bs ih =>
    have h1 : State.clockByte p s b = s.setPort p { u with frame := .placing (g :: (got ++ [b])) } := by
      simp [State.clockByte, h]
    show State.clockBytes (State.clockByte p s b) p bs = _
    rw [h1, ih _ (got ++ [b]) (by simp)]
    simp

/-- The bytes of a frame that is no fetch frame are kept in order (R141). -/
theorem clockBytes_start (s : State) (p : Port) (code : Byte) (bytes : List Byte) (u : PortUnit)
    (h : s.port p = { u with frame := .placing [] }) (hc : code ≠ 0x0F) :
    s.clockBytes p (code :: bytes) = s.setPort p { u with frame := .placing (code :: bytes) } := by
  have h1 : State.clockByte p s code = s.setPort p { u with frame := .placing [code] } := by
    simp only [State.clockByte, h]
    rw [if_neg hc]
  show State.clockBytes (State.clockByte p s code) p bytes = _
  rw [h1, clockBytes_placing _ p code [] bytes u (by simp)]
  simp

/-- A frame whose byte count and body length agree carries its request (R142). -/
theorem frameRequest_frameBytes (code flags tag : Byte) (body : List Byte) (h : body.length ≤ 88) :
    frameRequest (frameBytes code flags tag body) = some (flags, ⟨code, tag, body⟩) := by
  have : (byte body.length).toNat = body.length := by
    simp [byte]; omega
  simp [frameRequest, frameBytes, this, Config.maxBody, h]

/-- The parts of `State.quiet`. -/
theorem State.quiet_iff (s : State) (p : Port) :
    s.quiet p = true ↔ s.admitting = true ∧ s.tries = [] ∧ (s.port p).resetIn = false ∧ (s.port p).selectLow = false ∧
      (s.port p).requests = [] ∧ (s.port p).responsesFull = false := by
  simp [State.quiet, and_assoc]

/-- Where requests are admitted, the part is at work (R89, R155). -/
theorem State.alive_of_admitting (s : State) (h : s.admitting = true) : s.alive = true := by
  simp only [State.admitting, Bool.and_eq_true] at h; exact h.2

/-- A request frame at a port that takes frames and has no request placed: its request is placed, and its head alone is
tried (R141, R142, R89), in whatever mode. -/
theorem deliver_placed (s : State) (p : Port) (code flags tag : Byte) (body : List Byte) (hlt : s.linkTakes p = true)
    (hs : (s.port p).selectLow = false) (hrq : (s.port p).requests = []) (hc : code ≠ 0x0F) (hb : body.length ≤ 88) :
    s.deliver p code flags tag body = ((s.withRequest p ⟨code, tag, body⟩).addTry p).runTries true := by
  have hsel : s.selectFalls p = s.setPort p { s.port p with selectLow := true, frame := .placing [] } := by
    cases hfr : (s.port p).frame <;>
      simp [State.selectFalls, hs, hlt, PortUnit.entryFree, PortUnit.entriesTaken, hrq, Config.requestEntries, hfr]
  have hbytes : (s.selectFalls p).clockBytes p (frameBytes code flags tag body) =
      s.setPort p { s.port p with selectLow := true, frame := .placing (frameBytes code flags tag body) } := by
    have := clockBytes_start (s.selectFalls p) p code ([flags, tag, byte body.length] ++ body)
      { s.port p with selectLow := true } (by rw [hsel]; simp) hc
    rw [show frameBytes code flags tag body = code :: ([flags, tag, byte body.length] ++ body) from rfl, this, hsel]
    simp
  unfold State.deliver
  rw [hbytes]
  congr 1
  simp [State.selectRises, frameRequest_frameBytes code flags tag body hb, State.placeRequest, hrq, State.withRequest]

/-- A request frame at a port at rest: its request is placed, and its head alone is tried. -/
theorem deliver_quiet (s : State) (p : Port) (code flags tag : Byte) (body : List Byte) (hq : s.quiet p = true)
    (hc : code ≠ 0x0F) (hb : body.length ≤ 88) :
    s.deliver p code flags tag body = ((s.withRequest p ⟨code, tag, body⟩).addTry p).runTries true := by
  obtain ⟨ha, _, hr, hs, hrq, _⟩ := (State.quiet_iff s p).1 hq
  exact deliver_placed s p code flags tag body (by simp [State.linkTakes, State.alive_of_admitting s ha, hr]) hs hrq hc hb

/-- No head due for a try: the tries of the event are over. -/
theorem settle_done (now : Bool) (n : Nat) (s : State) (h : s.triesDue = []) :
    State.settle now n s = { s with tries := [] } := by
  cases n with
  | zero => rfl
  | succ n => simp [State.settle, State.pickTry, h]

/-- No head due for a try: the event is over. -/
theorem runTries_done (now : Bool) (s : State) (h : s.triesDue = []) : s.runTries now = { s with tries := [] } :=
  settle_done now _ s h

/-- No head is due where no port is listed for a try. -/
theorem triesDue_of_tries (s : State) (h : s.tries = []) : s.triesDue = [] := by simp [State.triesDue, h]

/-- One head due for a try, and none after it. -/
theorem runTries_one (now : Bool) (s : State) (p : Port) (hd : s.triesDue = [p])
    (hn : (State.tryHead now p { s with tries := [] }).2.triesDue = []) :
    s.runTries now = { (State.tryHead now p { s with tries := [] }).2 with tries := [] } := by
  have hpick : s.pickTry = some (p, { s with tries := [] }) := by simp [State.pickTry, hd]
  obtain ⟨n, hn'⟩ : ∃ n, s.tryBound = n + 2 := by
    have : 1 ≤ s.tries.length := by
      have : s.triesDue.length ≤ s.tries.length := List.length_filter_le _ _
      simp [hd] at this
      exact this
    exact ⟨6 * s.placedRequests + s.tries.length - 1, by unfold State.tryBound; omega⟩
  unfold State.runTries
  rw [hn', State.settle, hpick]
  exact settle_done now _ _ hn

/-- The only request of a port is tried: what the try leaves is what the event leaves. -/
theorem deliver_onlyTry (s : State) (p : Port) (code flags tag : Byte) (body : List Byte) (hlt : s.linkTakes p = true)
    (ht : s.tries = []) (hs : (s.port p).selectLow = false) (hrq : (s.port p).requests = []) (hc : code ≠ 0x0F)
    (hb : body.length ≤ 88) (hn : (State.tryHead true p (s.withRequest p ⟨code, tag, body⟩)).2.triesDue = []) :
    s.deliver p code flags tag body =
      { (State.tryHead true p (s.withRequest p ⟨code, tag, body⟩)).2 with tries := [] } := by
  have hw : { (s.withRequest p ⟨code, tag, body⟩).addTry p with tries := [] } = s.withRequest p ⟨code, tag, body⟩ := by
    simp [State.addTry, State.withRequest, State.setPort, ht]
  have hd : ((s.withRequest p ⟨code, tag, body⟩).addTry p).triesDue = [p] := by
    have htr : ((s.withRequest p ⟨code, tag, body⟩).addTry p).tries = [p] := by
      simp [State.addTry, State.withRequest, ht]
    unfold State.triesDue
    rw [htr]
    simp [State.withRequest]
  rw [deliver_placed s p code flags tag body hlt hs hrq hc hb, runTries_one true _ p hd (by rw [hw]; exact hn), hw]

/-- The only request of a port at rest is tried: what the try leaves is what the event leaves. -/
theorem deliver_tried (s : State) (p : Port) (code flags tag : Byte) (body : List Byte) (hq : s.quiet p = true)
    (hc : code ≠ 0x0F) (hb : body.length ≤ 88)
    (hn : (State.tryHead true p (s.withRequest p ⟨code, tag, body⟩)).2.triesDue = []) :
    s.deliver p code flags tag body =
      { (State.tryHead true p (s.withRequest p ⟨code, tag, body⟩)).2 with tries := [] } := by
  obtain ⟨ha, ht, hr, hs, hrq, _⟩ := (State.quiet_iff s p).1 hq
  exact deliver_onlyTry s p code flags tag body (by simp [State.linkTakes, State.alive_of_admitting s ha, hr]) ht hs hrq
    hc hb hn

/-- What a try does with the only request of a port at rest, by what the checks of R90 and the request's own rule say. -/
theorem tryHead_withRequest (s : State) (p : Port) (r : Request) (hq : s.quiet p = true) :
    State.tryHead true p (s.withRequest p r) =
      match (s.withRequest p r).commonRefusal p r with
      | some a => (.refused, (s.withRequest p r).refuseHead p r (bare a))
      | none =>
        match admitRequest true p r (s.withRequest p r) with
        | .refuse x => (.refused, (s.withRequest p r).refuseHead p r x)
        | .wait w => (.waits, (s.withRequest p r).headWaits p r w)
        | .accept s' => (.admitted, s'.addTry p) := by
  obtain ⟨ha, ht, hr, hs, hrq, hf⟩ := (State.quiet_iff s p).1 hq
  have ha' : (s.withRequest p r).admitting = true := ha
  have hf' : ((s.withRequest p r).port p).responsesFull = false := by
    simpa [State.withRequest, PortUnit.responsesFull] using hf
  have hq' : ((s.withRequest p r).port p).requests = [r] := by simp [State.withRequest]
  simp only [State.tryHead, State.tryWith, hq', ha', hf']
  rfl

/-- A port whose only request has been admitted or refused has no head left to try. -/
theorem triesDue_addTry_empty (s : State) (p : Port) (ht : s.triesDue = []) (hr : (s.port p).requests = []) :
    (s.addTry p).triesDue = [] := by
  unfold State.triesDue at ht ⊢
  by_cases h : p ∈ s.tries
  · have : s.addTry p = s := by simp [State.addTry, h]
    rw [this]; exact ht
  · have : (s.addTry p).tries = s.tries ++ [p] := by simp [State.addTry, h]
    rw [this, List.filter_append]
    simp only [State.port_addTry]
    rw [ht]
    simp [hr]

/-- No common check refuses a known request of the right class and length outside LOCKOUT (R90). -/
theorem commonRefusal_none (s : State) (p : Port) (k : ReqKind) (r : Request) (hk : kindOf r.code = some k)
    (ha : k.allowedOn p = true) (hm : p = .cp ∨ s.mode ≠ .lockout) (hl : k.lengthOk r.body = true) :
    s.commonRefusal p r = none := by
  have hm' : (p == .cp || s.mode != .lockout) = true := by
    rcases hm with h | h <;> simp [h]
  simp only [State.commonRefusal, hk, firstFailure, ha, hl, hm']
  rfl

/-- Listing a port and emptying the list again changes nothing where no port was listed. -/
theorem addTry_cleared (t : State) (p : Port) (h : t.tries = []) : { t.addTry p with tries := [] } = t := by
  simp only [State.addTry]
  rw [← h]

/-- A request that its own rule admits (R89 to R91). -/
theorem deliver_accepted (s s' : State) (p : Port) (k : ReqKind) (code flags tag : Byte) (body : List Byte)
    (hq : s.quiet p = true) (hb : body.length ≤ 88) (hk : kindOf code = some k) (hc : code ≠ 0x0F)
    (ha : k.allowedOn p = true) (hm : p = .cp ∨ s.mode ≠ .lockout) (hl : k.lengthOk body = true)
    (hv : admitKind true k p ⟨code, tag, body⟩ (s.withRequest p ⟨code, tag, body⟩) = .accept s')
    (hr : (s'.port p).requests = []) (hn : s'.triesDue = []) :
    s.deliver p code flags tag body = { s' with tries := [] } := by
  have htry : State.tryHead true p (s.withRequest p ⟨code, tag, body⟩) = (.admitted, s'.addTry p) := by
    rw [tryHead_withRequest s p _ hq, commonRefusal_none (s.withRequest p ⟨code, tag, body⟩) p k _ hk ha hm hl]
    simp only [admitRequest, hk, hv]
  rw [deliver_tried s p code flags tag body hq hc hb]
  · rw [htry]; rfl
  · rw [htry]; exact triesDue_addTry_empty s' p hn hr

/-- A request refused at a port at rest leaves the refusal as its response and nothing else. -/
theorem refuseHead_withRequest (s : State) (p : Port) (r : Request) (x : RefusalRec) (hq : s.quiet p = true) :
    (s.withRequest p r).refuseHead p r x = (s.served p ⟨r.code, r.tag, x.answer, x.slot, x.stage, []⟩).addTry p := by
  obtain ⟨_, _, _, h4, h5, _⟩ := (State.quiet_iff s p).1 hq
  unfold State.refuseHead State.respond
  simp [State.withRequest, State.beginAdmission, State.served, h4, h5]
  cases p <;> simp [State.leaveWaitList, State.setPort]

/-- A request that a try refuses (R89, R91), by a common check or by its own rule. -/
theorem deliver_refusedBy (s : State) (p : Port) (code flags tag : Byte) (body : List Byte) (x : RefusalRec)
    (hq : s.quiet p = true) (hb : body.length ≤ 88) (hc : code ≠ 0x0F)
    (hv : State.tryHead true p (s.withRequest p ⟨code, tag, body⟩) =
      (.refused, (s.withRequest p ⟨code, tag, body⟩).refuseHead p ⟨code, tag, body⟩ x)) :
    s.deliver p code flags tag body = s.served p ⟨code, tag, x.answer, x.slot, x.stage, []⟩ := by
  obtain ⟨_, h2, _, _, h5, _⟩ := (State.quiet_iff s p).1 hq
  rw [refuseHead_withRequest s p _ x hq] at hv
  have htr : (s.served p ⟨code, tag, x.answer, x.slot, x.stage, []⟩).tries = [] := by simp [State.served, h2]
  rw [deliver_tried s p code flags tag body hq hc hb]
  · rw [hv]; exact addTry_cleared _ _ htr
  · rw [hv]; exact triesDue_addTry_empty _ p (triesDue_of_tries _ htr) (by simp [State.served, h5])

/-- A request that a common check of R90 refuses. -/
theorem deliver_common (s : State) (p : Port) (code flags tag : Byte) (body : List Byte) (a : Answer)
    (hq : s.quiet p = true) (hb : body.length ≤ 88) (hc : code ≠ 0x0F)
    (hv : (s.withRequest p ⟨code, tag, body⟩).commonRefusal p ⟨code, tag, body⟩ = some a) :
    s.deliver p code flags tag body = s.served p ⟨code, tag, a, none, .none, []⟩ := by
  refine deliver_refusedBy s p code flags tag body (bare a) hq hb hc ?_
  rw [tryHead_withRequest s p _ hq, hv]

/-- A request that its own rule refuses (R89, R91). -/
theorem deliver_refused (s : State) (p : Port) (k : ReqKind) (code flags tag : Byte) (body : List Byte) (x : RefusalRec)
    (hq : s.quiet p = true) (hb : body.length ≤ 88) (hk : kindOf code = some k) (hc : code ≠ 0x0F)
    (ha : k.allowedOn p = true) (hm : p = .cp ∨ s.mode ≠ .lockout) (hl : k.lengthOk body = true)
    (hv : admitKind true k p ⟨code, tag, body⟩ (s.withRequest p ⟨code, tag, body⟩) = .refuse x) :
    s.deliver p code flags tag body = s.served p ⟨code, tag, x.answer, x.slot, x.stage, []⟩ := by
  refine deliver_refusedBy s p code flags tag body x hq hb hc ?_
  rw [tryHead_withRequest s p _ hq, commonRefusal_none (s.withRequest p ⟨code, tag, body⟩) p k _ hk ha hm hl]
  simp only [admitRequest, hk, hv]

/-- A request whose resource is lacking stays at the head and waits (R89, R92). -/
theorem deliver_waits (s : State) (p : Port) (k : ReqKind) (code flags tag : Byte) (body : List Byte) (w : HeadWait)
    (hq : s.quiet p = true) (hb : body.length ≤ 88) (hk : kindOf code = some k) (hc : code ≠ 0x0F)
    (ha : k.allowedOn p = true) (hm : p = .cp ∨ s.mode ≠ .lockout) (hl : k.lengthOk body = true)
    (hv : admitKind true k p ⟨code, tag, body⟩ (s.withRequest p ⟨code, tag, body⟩) = .wait w) :
    s.deliver p code flags tag body = (s.withRequest p ⟨code, tag, body⟩).headWaits p ⟨code, tag, body⟩ w := by
  obtain ⟨_, h2, _⟩ := (State.quiet_iff s p).1 hq
  have htry : State.tryHead true p (s.withRequest p ⟨code, tag, body⟩) =
      (.waits, (s.withRequest p ⟨code, tag, body⟩).headWaits p ⟨code, tag, body⟩ w) := by
    rw [tryHead_withRequest s p _ hq, commonRefusal_none (s.withRequest p ⟨code, tag, body⟩) p k _ hk ha hm hl]
    simp only [admitRequest, hk, hv]
  have htr : ((s.withRequest p ⟨code, tag, body⟩).headWaits p ⟨code, tag, body⟩ w).tries = [] := by
    unfold State.headWaits
    split_ifs <;> simp [State.withRequest, h2]
  rw [deliver_tried s p code flags tag body hq hc hb]
  · rw [htry]
    show ({ State.headWaits _ _ _ _ with tries := [] } : State) = _
    rw [← htr]
  · rw [htry]; exact triesDue_of_tries _ htr

/-- A request of a port at rest answered at its admission: the effect, then the response. The effect leaves the port units
and the slot wait list alone. -/
theorem answered_withRequest (s : State) (p : Port) (r : Request) (answer : List Byte) (effect : State → State)
    (hq : s.quiet p = true) (hp : ∀ (t : State) (u : PortUnit), effect (t.setPort p u) = (effect t).setPort p u)
    (hw : ∀ t : State, effect (t.leaveWaitList p) = (effect t).leaveWaitList p) (hr : (effect s).port p = s.port p) :
    (s.withRequest p r).answered p r answer effect =
      .accept ((effect s).served p (plainResponse r.code r.tag .done answer)) := by
  obtain ⟨_, _, _, h4, h5, _⟩ := (State.quiet_iff s p).1 hq
  have hb1 : (s.withRequest p r).beginAdmission p =
      ((s.setPort p { s.port p with
        frame := .none, wait := .none, reserved := (s.port p).reserved + 1 })).leaveWaitList p := by
    simp [State.withRequest, State.beginAdmission, h4, h5]
  unfold State.answered State.answer State.respond
  rw [hb1, hw, hp]
  simp [State.served, hr]
  cases p <;> simp [State.leaveWaitList, State.setPort]

/-- A request of a port at rest that its own rule answers DONE at its admission (R91): the effect, then the response. The
effect leaves the port units, the slot wait list and the list of tries alone. -/
theorem deliver_answered (s : State) (p : Port) (k : ReqKind) (code flags tag : Byte) (body answer : List Byte)
    (effect : State → State) (hq : s.quiet p = true) (hb : body.length ≤ 88) (hk : kindOf code = some k)
    (hc : code ≠ 0x0F) (ha : k.allowedOn p = true) (hm : p = .cp ∨ s.mode ≠ .lockout) (hl : k.lengthOk body = true)
    (hv : admitKind true k p ⟨code, tag, body⟩ (s.withRequest p ⟨code, tag, body⟩) =
      (s.withRequest p ⟨code, tag, body⟩).answered p ⟨code, tag, body⟩ answer effect)
    (hp : ∀ (t : State) (u : PortUnit), effect (t.setPort p u) = (effect t).setPort p u)
    (hw : ∀ t : State, effect (t.leaveWaitList p) = (effect t).leaveWaitList p)
    (ht : (effect s).tries = []) (hr : (effect s).port p = s.port p) :
    s.deliver p code flags tag body = (effect s).served p (plainResponse code tag .done answer) := by
  obtain ⟨_, _, _, _, h5, _⟩ := (State.quiet_iff s p).1 hq
  rw [answered_withRequest s p _ answer effect hq hp hw hr] at hv
  rw [deliver_accepted s _ p k code flags tag body hq hb hk hc ha hm hl hv (by simp [State.served, h5, hr])
    (triesDue_of_tries _ (by simp [State.served, ht]))]
  have : ((effect s).served p (plainResponse code tag .done answer)).tries = [] := by simp [State.served, ht]
  rw [← this]

/-- The admission of the one head of a port leaves `headTaken` there (R91, R95). -/
theorem beginAdmission_onlyHead (s : State) (p : Port) (r : Request) (h : (s.port p).requests = [r]) :
    s.beginAdmission p = s.headTaken p := by
  simp only [State.beginAdmission, State.headTaken, h, List.tail_cons]

end Sys2Proof.Machine
end

