-- ==== Sys2Proof/Laws/Frames.lean ====
section
/-! SUPPORT. What each shared operation can change: the fields named, and nothing else. -/

namespace Sys2Proof.Machine

/-! ### Cells, positions and the ceremony -/

/-- A change of one cell touches the Key Table alone. -/
theorem modCell_touches (s : State) (n : Nat) (c : CellId) (f : Cell → Cell) :
    ∃ keys, s.modCell n c f = { s with keys := keys } := by
  unfold State.modCell
  split
  · exact ⟨_, rfl⟩
  · exact ⟨s.keys, rfl⟩

/-- A capture touches the Key Table alone (R8). -/
theorem capture_touches (s : State) (n : Nat) (c : CellId) : ∃ keys, s.capture n c = { s with keys := keys } :=
  modCell_touches s n c _

/-- The release of a cell touches the Key Table and the notice list alone (R10, R11). -/
theorem releaseCell_touches (loud : Bool) (s : State) (x : Nat × CellId) :
    ∃ keys notices, State.releaseCell loud s x = { s with keys := keys, notices := notices } := by
  unfold State.releaseCell
  split
  · dsimp only
    split
    · exact ⟨_, _, rfl⟩
    · exact ⟨_, s.notices, rfl⟩
  · exact ⟨s.keys, s.notices, rfl⟩

/-- So does the release of several. -/
theorem releaseCells_touches (loud : Bool) (xs : List (Nat × CellId)) (s : State) :
    ∃ keys notices, xs.foldl (State.releaseCell loud) s = { s with keys := keys, notices := notices } := by
  induction xs generalizing s with
  | nil => exact ⟨s.keys, s.notices, rfl⟩
  | cons x xs ih =>
    obtain ⟨k1, n1, h1⟩ := releaseCell_touches loud s x
    obtain ⟨k2, n2, h2⟩ := ih (State.releaseCell loud s x)
    exact ⟨k2, n2, by rw [List.foldl_cons, h2, h1]⟩

/-- The release of a job's captured cells touches the Key Table and the notice list alone (R98 step 3). -/
theorem releaseCaptured_touches (loud : Bool) (s : State) (j : Job) :
    ∃ keys notices, s.releaseCaptured loud j = { s with keys := keys, notices := notices } := by
  unfold State.releaseCaptured
  split
  · exact ⟨s.keys, s.notices, rfl⟩
  · exact releaseCells_touches loud _ s

/-- The close of a drained batch touches the batches and the notice list alone (R68). -/
theorem closeIfDrained_touches (s : State) (n : Nat) :
    ∃ batches notices, s.closeIfDrained n = { s with batches := batches, notices := notices } := by
  unfold State.closeIfDrained
  dsimp only
  split
  · exact ⟨_, _, rfl⟩
  · exact ⟨s.batches, s.notices, rfl⟩

/-- The level test touches the batches and the notice list alone (R75). -/
theorem testLevel_touches (s : State) (n : Nat) :
    ∃ batches notices, s.testLevel n = { s with batches := batches, notices := notices } := by
  unfold State.testLevel
  dsimp only
  split
  · exact ⟨_, _, rfl⟩
  · exact ⟨s.batches, s.notices, rfl⟩

/-- A commit touches the batches and the notice list alone (R73). -/
theorem commitPos_touches (s : State) (n pos : Nat) :
    ∃ batches notices, s.commitPos n pos = { s with batches := batches, notices := notices } := by
  unfold State.commitPos
  dsimp only
  split
  · obtain ⟨b1, n1, h1⟩ := testLevel_touches (s.setBatch n _) n
    obtain ⟨b2, n2, h2⟩ := closeIfDrained_touches ((s.setBatch n _).testLevel n) n
    exact ⟨b2, n2, by rw [h2, h1]; rfl⟩
  · obtain ⟨b2, n2, h2⟩ := closeIfDrained_touches (s.setBatch n _) n
    exact ⟨b2, n2, by rw [h2]; rfl⟩
  · exact ⟨s.batches, s.notices, rfl⟩

/-- A release of a position touches the batches and the notice list alone (R74). -/
theorem releasePos_touches (s : State) (n pos : Nat) :
    ∃ batches notices, s.releasePos n pos = { s with batches := batches, notices := notices } := by
  unfold State.releasePos
  dsimp only
  split
  · obtain ⟨b2, n2, h2⟩ := closeIfDrained_touches (s.setBatch n _) n
    exact ⟨b2, n2, by rw [h2]; rfl⟩
  · obtain ⟨b2, n2, h2⟩ := closeIfDrained_touches (s.setBatch n _) n
    exact ⟨b2, n2, by rw [h2]; rfl⟩
  · exact ⟨s.batches, s.notices, rfl⟩

/-- Step 1 of a job's end touches the batches and the notice list alone (R98). -/
theorem settlePosition_touches (commits : Bool) (s : State) (j : Job) :
    ∃ batches notices, s.settlePosition commits j = { s with batches := batches, notices := notices } := by
  unfold State.settlePosition
  split
  · split
    · exact commitPos_touches s _ _
    · exact releasePos_touches s _ _
  · exact ⟨s.batches, s.notices, rfl⟩

/-- The close of the ceremony touches the Key Table and the record, which is then CLOSED (R43, R52). -/
theorem closeCeremony_touches (s : State) : ∃ keys, s.closeCeremony = { s with keys := keys, ceremony := none } := by
  unfold State.closeCeremony
  split
  · next h => exact ⟨s.keys, by rw [← h]⟩
  · obtain ⟨k, h⟩ := modCell_touches s _ _ _
    exact ⟨k, by rw [h]⟩

/-! ### Responses -/

/-- A response into a reserved entry (R146). -/
theorem respond_reserved (s : State) (p : Port) (r : Response) (h : 1 ≤ (s.port p).reserved) :
    s.respond p r = s.setPort p { s.port p with
      reserved := (s.port p).reserved - 1, occupied := (s.port p).occupied ++ [r] } := by
  unfold State.respond
  dsimp only
  rw [if_neg (by omega)]

/-- Several responses into reserved entries, in order. -/
theorem respondAll_reserved (s : State) (p : Port) (rs : List Response) (h : rs.length ≤ (s.port p).reserved) :
    s.respondAll p rs = s.setPort p { s.port p with
      reserved := (s.port p).reserved - rs.length, occupied := (s.port p).occupied ++ rs } := by
  induction rs generalizing s with
  | nil => simp only [List.length_nil, Nat.sub_zero, List.append_nil]; exact (State.setPort_self s p).symm
  | cons r rs ih =>
    simp only [List.length_cons] at h
    show (s.respond p r).respondAll p rs = _
    rw [respond_reserved s p r (by omega), ih _ (by simp; omega)]
    simp [Nat.sub_sub, Nat.add_comm]

/-- Responses touch the port units alone. -/
theorem respondAll_touches (s : State) (p : Port) (rs : List Response) :
    ∃ ports, s.respondAll p rs = { s with ports := ports } := by
  induction rs generalizing s with
  | nil => exact ⟨s.ports, rfl⟩
  | cons r rs ih =>
    obtain ⟨p2, h2⟩ := ih (s.respond p r)
    have h1 : ∃ ports, s.respond p r = { s with ports := ports } := by
      unfold State.respond
      dsimp only
      split
      · exact ⟨s.ports, rfl⟩
      · exact ⟨_, rfl⟩
    obtain ⟨p1, h1⟩ := h1
    exact ⟨p2, by rw [show s.respondAll p (r :: rs) = (s.respond p r).respondAll p rs from rfl, h2, h1]⟩

/-! ### The engine -/

/-- A grant start touches the slots, the deficits and the engine alone (R104). -/
theorem startGrant_touches (s : State) (slot : Nat) :
    ∃ slots deficits engine, s.startGrant slot = { s with slots := slots, deficits := deficits, engine := engine } := by
  unfold State.startGrant
  split
  · exact ⟨s.slots, s.deficits, s.engine, rfl⟩
  · dsimp only
    split
    · exact ⟨_, s.deficits, _, rfl⟩
    · exact ⟨_, _, _, rfl⟩

/-- The end of a visit touches the pointer and the deficits alone (R108). -/
theorem endVisit_touches (s : State) :
    ∃ pointer deficits, s.endVisit = { s with pointer := pointer, deficits := deficits } := by
  unfold State.endVisit
  split
  · exact ⟨s.pointer, s.deficits, rfl⟩
  · dsimp only
    split
    · exact ⟨_, _, rfl⟩
    · exact ⟨_, _, rfl⟩

/-- The arbiter's decision touches the slots, the deficits, the engine and the pointer alone (R108). -/
theorem arbitrate_touches (s : State) :
    ∃ slots deficits engine pointer, s.arbitrate =
      { s with slots := slots, deficits := deficits, engine := engine, pointer := pointer } := by
  have grant : ∀ t slot, (∃ pointer deficits, t = { s with pointer := pointer, deficits := deficits }) →
      ∃ slots deficits engine pointer, t.startGrant slot =
        { s with slots := slots, deficits := deficits, engine := engine, pointer := pointer } := by
    rintro t slot ⟨p, d, rfl⟩
    obtain ⟨sl, de, en, h⟩ := startGrant_touches { s with pointer := p, deficits := d } slot
    exact ⟨sl, de, en, p, h⟩
  have self : ∃ pointer deficits, s = { s with pointer := pointer, deficits := deficits } := ⟨s.pointer, s.deficits, rfl⟩
  unfold State.arbitrate
  split
  · exact ⟨s.slots, s.deficits, s.engine, s.pointer, rfl⟩
  · split
    · exact grant s _ self
    · unfold State.decideLine
      split
      · exact grant s _ self
      · dsimp only
        split
        · exact grant _ _ (endVisit_touches s)
        · obtain ⟨p, d, h⟩ := endVisit_touches s
          exact ⟨s.slots, d, s.engine, p, h⟩

/-- With a grant in progress the arbiter makes no decision (R108). -/
theorem arbitrate_busy (s : State) (g : Grant) (h : s.engine = some g) : s.arbitrate = s := by
  unfold State.arbitrate; rw [h]

/-! ### The end of a job -/

/-- Steps 1 to 5 of R98 for the job that stands in the slot; the offer and the tries follow where the plan says so. -/
theorem endJob_live (e : EndPlan) (slot : Nat) (s : State) (j : Job) (hj : s.job slot = some j) :
    s.endJob e slot =
      let s4 := (((s.settlePosition e.commits j).releaseCaptured e.loud j).respondAll j.owner e.answers).freeSlot
        slot j.owner
      if e.offers then s4.afterFree e.now slot j.owner else s4 := by
  unfold State.endJob; rw [hj]

/-- No job stands in the slot: nothing ends. -/
theorem endJob_free (e : EndPlan) (slot : Nat) (s : State) (hj : s.job slot = none) : s.endJob e slot = s := by
  unfold State.endJob; rw [hj]

/-- With an empty slot wait list, and no head of the owner or of the custody port that waits for what came free, the job end
causes no admission and no try (R94, R89). -/
theorem afterFree_quiet (now : Bool) (s : State) (slot : Nat) (p : Port) (hw : s.waitList = [])
    (hq : (s.port p).wait ≠ .quota) (hs : (s.port p).wait ≠ .staging slot)
    (hc : Config.lineSlots ≤ slot → (s.port .cp).wait ≠ .slot15) : s.afterFree now slot p = s := by
  have h1 : (if slot < Config.lineSlots then State.offer now s.waitList s else s.addTryIf .cp .slot15) = s := by
    split
    · rw [hw]; rfl
    · next h => unfold State.addTryIf; rw [if_neg (hc (by omega))]
  unfold State.afterFree
  dsimp only
  rw [h1]
  have h2 : s.addTryIf p .quota = s := by unfold State.addTryIf; rw [if_neg hq]
  rw [h2]
  unfold State.addTryIf
  rw [if_neg hs]

/-- The passes' results change a job's context alone (R106). -/
theorem record_touches (s : State) (j : Job) (res : Block) : ∃ ctx, s.record j res = { j with ctx := ctx } := by
  unfold State.record
  split
  · exact ⟨_, rfl⟩
  · split
    · exact ⟨_, rfl⟩
    · exact ⟨j.ctx, rfl⟩
  · exact ⟨j.ctx, rfl⟩

/-- So do several. -/
theorem recordAll_touches (s : State) (held : List Block) (j : Job) : ∃ ctx, s.recordAll j held = { j with ctx := ctx } := by
  induction held generalizing j with
  | nil => exact ⟨j.ctx, rfl⟩
  | cons x xs ih =>
    obtain ⟨c1, h1⟩ := record_touches s j x
    obtain ⟨c2, h2⟩ := ih (s.record j x)
    exact ⟨c2, by rw [show s.recordAll j (x :: xs) = s.recordAll (s.record j x) xs from rfl, h2, h1]⟩

/-! ### The passes of a grant -/

/-- Held results and one more are written one after the other (R103, R106). -/
theorem recordAll_snoc (s : State) (j : Job) (held : List Block) (res : Block) :
    s.recordAll j (held ++ [res]) = s.record (s.recordAll j held) res := by
  simp [State.recordAll]

/-- A pass that finishes touches the engine alone (R103). -/
theorem finishPass_touches (s : State) : ∃ engine, s.finishPass = { s with engine := engine } := by
  unfold State.finishPass
  split
  · exact ⟨s.engine, rfl⟩
  · split
    · exact ⟨s.engine, rfl⟩
    · split
      · exact ⟨_, rfl⟩
      · exact ⟨s.engine, rfl⟩

/-- Where the working copy is the key and block of the pass in progress, the results of a grant are those held and those of
the passes left of the job (R103, R106). -/
theorem grantResults_of_work (s : State) (j : Job) (g : Grant) (hlt : g.held.length < g.size)
    (hw : g.work = s.passInput (s.recordAll j g.held)) :
    s.grantResults j g = g.held ++ s.passes (g.size - g.held.length) (s.recordAll j g.held) := by
  obtain ⟨n, hn⟩ : ∃ n, g.size - g.held.length = n + 1 := ⟨g.size - g.held.length - 1, by omega⟩
  have hm : g.size - (g.held ++ [g.work.result]).length = n := by simp; omega
  rw [State.grantResults, if_pos hlt, hm, hn, State.passes, recordAll_snoc, ← hw, List.append_assoc]
  rfl

/-! ### The battery, and what data out carries -/

/-- A measurement of the battery touches its state and the notice list alone (R166). -/
theorem measureBattery_touches (s : State) :
    ∃ battery notices, s.measureBattery = { s with battery := battery, notices := notices } := by
  unfold State.measureBattery
  split
  · split
    · exact ⟨_, _, rfl⟩
    · exact ⟨s.battery, s.notices, rfl⟩
  · exact ⟨_, s.notices, rfl⟩

/-- After a measurement the battery state is the side of the battery low level that the supply is on (R166). -/
theorem measureBattery_battery (s : State) :
    s.measureBattery.battery = if s.batteryBelow then .low else .good := by
  unfold State.measureBattery
  cases hb : s.batteryBelow <;> cases hs : s.battery <;> simp [hs, State.notice]

/-- Data out is low unless a fetch frame has sent a byte (R140). -/
theorem dataOut_low (s : State) (p : Port)
    (h : ∀ header response n, (s.port p).frame ≠ .fetching header response (n + 1)) : s.dataOut p = 0 := by
  unfold State.dataOut
  split
  · next hd r n hf => exact absurd hf (h hd r n)
  · rfl

/-! ### Heads -/

/-- The heads to try are remembered in `tries` alone (R89). -/
theorem addTries_touches (ps : List Port) (s : State) : ∃ tries, s.addTries ps = { s with tries := tries } := by
  induction ps generalizing s with
  | nil => exact ⟨s.tries, rfl⟩
  | cons p ps ih =>
    obtain ⟨t, h⟩ := ih (s.addTry p)
    exact ⟨t, by rw [show s.addTries (p :: ps) = (s.addTry p).addTries ps from rfl, h]; rfl⟩

/-- The next head to try is one that is due, and taking it changes the list and the count of choices alone (R89; log 6). -/
theorem pickTry_due (s t : State) (p : Port) (h : s.pickTry = some (p, t)) :
    p ∈ s.triesDue ∧ ∃ tries choices, t = { s with tries := tries, choices := choices } := by
  unfold State.pickTry at h
  split at h
  · exact absurd h (by simp)
  · next q hq =>
    simp only [Option.some.injEq, Prod.mk.injEq] at h
    exact ⟨by rw [hq, ← h.1]; exact List.mem_singleton.2 rfl, _, s.choices, h.2.symm⟩
  · next q r rs hq =>
    simp only [Option.some.injEq, Prod.mk.injEq] at h
    refine ⟨?_, _, _, h.2.symm⟩
    rw [hq, ← h.1]
    have hlt : Config.orderChoice s.choices % (q :: r :: rs).length < (q :: r :: rs).length := Nat.mod_lt _ (by simp)
    rw [List.getD_eq_getElem _ _ hlt]
    exact List.getElem_mem hlt

/-- What comes of a try, by what the head finds (R89 to R92). -/
theorem tryWith_cases (own : Port → Request → State → Verdict) (p : Port) (s : State) :
    ((s.port p).requests = [] ∧ s.tryWith own p = (.noHead, s)) ∨
    ∃ r rest, (s.port p).requests = r :: rest ∧
      ((∃ w, s.tryWith own p = (.waits, s.headWaits p r w)) ∨
        (s.admitting = true ∧ (s.port p).responsesFull = false ∧
          ((∃ x, s.tryWith own p = (.refused, s.refuseHead p r x)) ∨
            ∃ t, own p r s = .accept t ∧ s.commonRefusal p r = none ∧ s.tryWith own p = (.admitted, t.addTry p)))) := by
  unfold State.tryWith
  split
  · next h => exact .inl ⟨h, rfl⟩
  · next r rest h =>
    refine .inr ⟨r, rest, h, ?_⟩
    split
    · exact .inl ⟨_, rfl⟩
    · next ha =>
      have ha' : s.admitting = true := by simpa using ha
      split
      · exact .inl ⟨_, rfl⟩
      · next hf =>
        have hf' : (s.port p).responsesFull = false := by simpa using hf
        split
        · exact .inr ⟨ha', hf', .inl ⟨_, rfl⟩⟩
        · next hc =>
          split
          · exact .inr ⟨ha', hf', .inl ⟨_, rfl⟩⟩
          · exact .inl ⟨_, rfl⟩
          · next t ht => exact .inr ⟨ha', hf', .inr ⟨t, ht, hc, rfl⟩⟩

/-! ### A frame end that may meet a reset (log 39) -/

/-- All that the tries at a frame end do: they are taken, or, where a reset of the port is the next command, by a free choice that
of the port is left out. -/
theorem triesAtFrameEnd_cases (s : State) (p : Port) :
    s.triesAtFrameEnd p = s.runTries true ∨
      s.pending.head? = some (.portReset p) ∧
        (s.triesAtFrameEnd p = { s with choices := s.choices + 1 }.runTries true ∨
          s.triesAtFrameEnd p = { s with choices := s.choices + 1, tries := s.tries.filter (· != p) }.runTries true) := by
  unfold State.triesAtFrameEnd
  split
  · next h => exact .inr ⟨h.1, by dsimp only; split <;> simp⟩
  · exact .inl rfl

/-! ### A lost store -/

/-- FAILED is volatile: no store reads as FAILED, not one whose contents are not kept (R156, R167). -/
@[simp] theorem storedMode_lostMode (n : Nat) : storedMode (lostMode n) = lostMode n := by
  unfold lostMode
  rcases Config.lostMode n with _ | _ | k <;> rfl

/-- A lost store keeps the limit of R156: zeroise-pending stands exactly with the mode ZEROISING. -/
theorem loseStore_pending (s : State) :
    storedMode s.loseStore.mode = .zeroising ↔ s.loseStore.zeroisePending = true := by
  simp [State.loseStore]

/-- The loss of the store touches what R167 lists as its contents, and the number of free choices made. -/
theorem loseStore_touches (s : State) :
    ∃ keys bindings batches mode causes first pending n, s.loseStore =
      { s with
        keys := keys, bindings := bindings, batches := batches, mode := mode, causes := causes, firstCause := first
        zeroisePending := pending, markerGood := false, choices := n } :=
  ⟨_, _, _, _, _, _, _, _, rfl⟩

end Sys2Proof.Machine
end

