-- ==== Sys2Proof/Laws/PerInstr.lean ====
section
/-! SUPPORT. The family Framing, one lemma per command: the frame of a well-formed request command carries its request. -/

namespace Sys2Proof.Laws

open Sys2Proof.Machine

/-- What the frame of a request command carries: code, flags, tag and body (R140). The other commands carry no request. -/
def carried : Instr → Option (Byte × Byte × Byte × List Byte)
  | .frameStart _ _ => none
  | .frameEnd _ _ => none
  | .fetchFrame _ _ _ => none
  | .frameTimeout _ _ => none
  | .unknownRequest _ code flags tag body => some (code, flags, tag, body)
  | .derive _ flags tag body => some (ReqKind.derive.code, flags, tag, body)
  | .spoil _ flags tag body => some (ReqKind.spoil.code, flags, tag, body)
  | .streamOpen _ flags tag body => some (ReqKind.streamOpen.code, flags, tag, body)
  | .streamChunk _ flags tag body => some (ReqKind.streamChunk.code, flags, tag, body)
  | .streamClose _ flags tag body => some (ReqKind.streamClose.code, flags, tag, body)
  | .cancel _ flags tag body => some (ReqKind.cancel.code, flags, tag, body)
  | .setAttn _ flags tag body => some (ReqKind.setAttn.code, flags, tag, body)
  | .queryBatch _ flags tag body => some (ReqKind.queryBatch.code, flags, tag, body)
  | .createKeyEntry _ flags tag body => some (ReqKind.createKeyEntry.code, flags, tag, body)
  | .removeEntry _ flags tag body => some (ReqKind.removeEntry.code, flags, tag, body)
  | .swapCell _ flags tag body => some (ReqKind.swapCell.code, flags, tag, body)
  | .discardCell _ flags tag body => some (ReqKind.discardCell.code, flags, tag, body)
  | .readEntry _ flags tag body => some (ReqKind.readEntry.code, flags, tag, body)
  | .createGate _ flags tag body => some (ReqKind.createGate.code, flags, tag, body)
  | .bindPort _ flags tag body => some (ReqKind.bindPort.code, flags, tag, body)
  | .beginCeremony _ flags tag body => some (ReqKind.beginCeremony.code, flags, tag, body)
  | .component _ flags tag body => some (ReqKind.component.code, flags, tag, body)
  | .abandonCeremony _ flags tag body => some (ReqKind.abandonCeremony.code, flags, tag, body)
  | .openBatch _ flags tag body => some (ReqKind.openBatch.code, flags, tag, body)
  | .pauseBatch _ flags tag body => some (ReqKind.pauseBatch.code, flags, tag, body)
  | .resumeBatch _ flags tag body => some (ReqKind.resumeBatch.code, flags, tag, body)
  | .closeBatch _ flags tag body => some (ReqKind.closeBatch.code, flags, tag, body)
  | .readMap _ flags tag body => some (ReqKind.readMap.code, flags, tag, body)
  | .zeroiseAll _ flags tag body => some (ReqKind.zeroiseAll.code, flags, tag, body)
  | .clearLockout _ flags tag body => some (ReqKind.clearLockout.code, flags, tag, body)
  | .status _ flags tag body => some (ReqKind.status.code, flags, tag, body)
  | .grantEnd => none
  | .streamIdleExpiry _ => none
  | .portReset _ => none
  | .portResetRelease _ => none
  | .tamperEvent _ => none
  | .readBackAttemptEnd _ => none
  | .batteryStateChange _ => none
  | .storeHoldingLost => none
  | .mainPowerLoss => none
  | .mainPowerOn => none
  | .mainReset => none
  | .mainResetRelease => none
  | .powerUpSweep => none
  | .tamperLineInactive _ => none

/-- A well-formed command that carries a request fits a frame, whose 4 header bytes and body spell that request and no other
(R140, R142); and its code is not the fetch code 0x0F. -/
def Framing.Statement (i : Instr) : Prop :=
  i.wellFormed = true → ∀ code flags tag body, carried i = some (code, flags, tag, body) →
    code ≠ 0x0F ∧ frameRequest (frameBytes code flags tag body) = some (flags, ⟨code, tag, body⟩) ∧
      (frameBytes code flags tag body).length ≤ 92

/-- A body that fits spells its request. -/
theorem framed (code flags tag : Byte) (body : List Byte) (hc : code ≠ 0x0F) (hb : bodyFits body = true) :
    code ≠ 0x0F ∧ frameRequest (frameBytes code flags tag body) = some (flags, ⟨code, tag, body⟩) ∧
      (frameBytes code flags tag body).length ≤ 92 := by
  have h : body.length ≤ 88 := of_decide_eq_true hb
  exact ⟨hc, frameRequest_frameBytes code flags tag body h, by simp [frameBytes]; omega⟩

/-- A known request spells its request. -/
theorem framed_known (k : ReqKind) (i : Instr) (flags tag : Byte) (body : List Byte)
    (hi : carried i = some (k.code, flags, tag, body)) (hw : i.wellFormed = bodyFits body) : Framing.Statement i := by
  intro h code' flags' tag' body' hc
  rw [hi] at hc
  simp only [Option.some.injEq, Prod.mk.injEq] at hc
  obtain ⟨rfl, rfl, rfl, rfl⟩ := hc
  exact framed _ _ _ _ (by cases k <;> decide) (hw.symm.trans h)

/-- A command that carries no request. -/
theorem framed_event (i : Instr) (hi : carried i = none) : Framing.Statement i := by
  intro _ code flags tag body hc
  rw [hi] at hc
  exact absurd hc (by simp)

theorem Framing.frameStart (p : Port) (bytes : List Byte) : Framing.Statement (.frameStart p bytes) := framed_event _ rfl

theorem Framing.frameEnd (p : Port) (bytes : List Byte) : Framing.Statement (.frameEnd p bytes) := framed_event _ rfl

theorem Framing.fetchFrame (p : Port) (n : Nat) (e : Bool) : Framing.Statement (.fetchFrame p n e) := framed_event _ rfl

theorem Framing.frameTimeout (p : Port) (bytes : List Byte) : Framing.Statement (.frameTimeout p bytes) := framed_event _ rfl

theorem Framing.unknownRequest (p : Port) (code flags tag : Byte) (body : List Byte) :
    Framing.Statement (.unknownRequest p code flags tag body) := by
  intro h code' flags' tag' body' hc
  simp only [carried, Option.some.injEq, Prod.mk.injEq] at hc
  obtain ⟨rfl, rfl, rfl, rfl⟩ := hc
  simp only [Instr.wellFormed, Bool.and_eq_true, bne_iff_ne] at h
  exact framed _ _ _ _ h.2 h.1.1

theorem Framing.derive (p : Port) (flags tag : Byte) (body : List Byte) :
    Framing.Statement (.derive p flags tag body) := framed_known .derive _ flags tag body rfl rfl

theorem Framing.spoil (p : Port) (flags tag : Byte) (body : List Byte) :
    Framing.Statement (.spoil p flags tag body) := framed_known .spoil _ flags tag body rfl rfl

theorem Framing.streamOpen (p : Port) (flags tag : Byte) (body : List Byte) :
    Framing.Statement (.streamOpen p flags tag body) := framed_known .streamOpen _ flags tag body rfl rfl

theorem Framing.streamChunk (p : Port) (flags tag : Byte) (body : List Byte) :
    Framing.Statement (.streamChunk p flags tag body) := framed_known .streamChunk _ flags tag body rfl rfl

theorem Framing.streamClose (p : Port) (flags tag : Byte) (body : List Byte) :
    Framing.Statement (.streamClose p flags tag body) := framed_known .streamClose _ flags tag body rfl rfl

theorem Framing.cancel (p : Port) (flags tag : Byte) (body : List Byte) :
    Framing.Statement (.cancel p flags tag body) := framed_known .cancel _ flags tag body rfl rfl

theorem Framing.setAttn (p : Port) (flags tag : Byte) (body : List Byte) :
    Framing.Statement (.setAttn p flags tag body) := framed_known .setAttn _ flags tag body rfl rfl

theorem Framing.queryBatch (p : Port) (flags tag : Byte) (body : List Byte) :
    Framing.Statement (.queryBatch p flags tag body) := framed_known .queryBatch _ flags tag body rfl rfl

theorem Framing.createKeyEntry (p : Port) (flags tag : Byte) (body : List Byte) :
    Framing.Statement (.createKeyEntry p flags tag body) := framed_known .createKeyEntry _ flags tag body rfl rfl

theorem Framing.removeEntry (p : Port) (flags tag : Byte) (body : List Byte) :
    Framing.Statement (.removeEntry p flags tag body) := framed_known .removeEntry _ flags tag body rfl rfl

theorem Framing.swapCell (p : Port) (flags tag : Byte) (body : List Byte) :
    Framing.Statement (.swapCell p flags tag body) := framed_known .swapCell _ flags tag body rfl rfl

theorem Framing.discardCell (p : Port) (flags tag : Byte) (body : List Byte) :
    Framing.Statement (.discardCell p flags tag body) := framed_known .discardCell _ flags tag body rfl rfl

theorem Framing.readEntry (p : Port) (flags tag : Byte) (body : List Byte) :
    Framing.Statement (.readEntry p flags tag body) := framed_known .readEntry _ flags tag body rfl rfl

theorem Framing.createGate (p : Port) (flags tag : Byte) (body : List Byte) :
    Framing.Statement (.createGate p flags tag body) := framed_known .createGate _ flags tag body rfl rfl

theorem Framing.bindPort (p : Port) (flags tag : Byte) (body : List Byte) :
    Framing.Statement (.bindPort p flags tag body) := framed_known .bindPort _ flags tag body rfl rfl

theorem Framing.beginCeremony (p : Port) (flags tag : Byte) (body : List Byte) :
    Framing.Statement (.beginCeremony p flags tag body) := framed_known .beginCeremony _ flags tag body rfl rfl

theorem Framing.component (p : Port) (flags tag : Byte) (body : List Byte) :
    Framing.Statement (.component p flags tag body) := framed_known .component _ flags tag body rfl rfl

theorem Framing.abandonCeremony (p : Port) (flags tag : Byte) (body : List Byte) :
    Framing.Statement (.abandonCeremony p flags tag body) := framed_known .abandonCeremony _ flags tag body rfl rfl

theorem Framing.openBatch (p : Port) (flags tag : Byte) (body : List Byte) :
    Framing.Statement (.openBatch p flags tag body) := framed_known .openBatch _ flags tag body rfl rfl

theorem Framing.pauseBatch (p : Port) (flags tag : Byte) (body : List Byte) :
    Framing.Statement (.pauseBatch p flags tag body) := framed_known .pauseBatch _ flags tag body rfl rfl

theorem Framing.resumeBatch (p : Port) (flags tag : Byte) (body : List Byte) :
    Framing.Statement (.resumeBatch p flags tag body) := framed_known .resumeBatch _ flags tag body rfl rfl

theorem Framing.closeBatch (p : Port) (flags tag : Byte) (body : List Byte) :
    Framing.Statement (.closeBatch p flags tag body) := framed_known .closeBatch _ flags tag body rfl rfl

theorem Framing.readMap (p : Port) (flags tag : Byte) (body : List Byte) :
    Framing.Statement (.readMap p flags tag body) := framed_known .readMap _ flags tag body rfl rfl

theorem Framing.zeroiseAll (p : Port) (flags tag : Byte) (body : List Byte) :
    Framing.Statement (.zeroiseAll p flags tag body) := framed_known .zeroiseAll _ flags tag body rfl rfl

theorem Framing.clearLockout (p : Port) (flags tag : Byte) (body : List Byte) :
    Framing.Statement (.clearLockout p flags tag body) := framed_known .clearLockout _ flags tag body rfl rfl

theorem Framing.status (p : Port) (flags tag : Byte) (body : List Byte) :
    Framing.Statement (.status p flags tag body) := framed_known .status _ flags tag body rfl rfl

theorem Framing.grantEnd : Framing.Statement (.grantEnd) := framed_event _ rfl

theorem Framing.streamIdleExpiry (slot : Nat) : Framing.Statement (.streamIdleExpiry slot) := framed_event _ rfl

theorem Framing.portReset (p : Port) : Framing.Statement (.portReset p) := framed_event _ rfl

theorem Framing.portResetRelease (p : Port) : Framing.Statement (.portResetRelease p) := framed_event _ rfl

theorem Framing.tamperEvent (l : TamperLine) : Framing.Statement (.tamperEvent l) := framed_event _ rfl

theorem Framing.readBackAttemptEnd (b : Bool) : Framing.Statement (.readBackAttemptEnd b) := framed_event _ rfl

theorem Framing.batteryStateChange (b : Bool) : Framing.Statement (.batteryStateChange b) := framed_event _ rfl

theorem Framing.storeHoldingLost : Framing.Statement (.storeHoldingLost) := framed_event _ rfl

theorem Framing.mainPowerLoss : Framing.Statement (.mainPowerLoss) := framed_event _ rfl

theorem Framing.mainPowerOn : Framing.Statement (.mainPowerOn) := framed_event _ rfl

theorem Framing.mainReset : Framing.Statement (.mainReset) := framed_event _ rfl

theorem Framing.mainResetRelease : Framing.Statement (.mainResetRelease) := framed_event _ rfl

theorem Framing.powerUpSweep : Framing.Statement (.powerUpSweep) := framed_event _ rfl

theorem Framing.tamperLineInactive (l : TamperLine) : Framing.Statement (.tamperLineInactive l) := framed_event _ rfl

end Sys2Proof.Laws
end

