-- ==== Sys2Proof/Tests/Slice0.lean ====
section
/-! SUPPORT. Tests. Expected results come from the manual's worked sequences and tables, named at each test, and from FIPS 197
for the cipher. Then a witness for the hypotheses of each statement of Sys2Proof/Certificates/Slice0/Obligations.lean. -/

namespace Sys2Proof.Tests
open Sys2Proof Sys2Proof.Machine

-- One theorem after the other: elaborated at the same time, this many theorems ask for more threads than a build has.
set_option Elab.async false

/-! ### States -/

/-- The state after a command. -/
def after (c : Instr) (s : State) : State :=
  match exec c s with
  | .next t => t
  | _ => s

/-- The answer, slot and stage of the newest response of a port. -/
def newest (s : State) (p : Port) : Option (Answer × Option Nat × Stage) :=
  (s.port p).occupied.getLast?.map fun r => (r.answer, r.slot, r.stage)

/-- The body of the newest response of a port. -/
def newestBody (s : State) (p : Port) : Option (List Byte) := (s.port p).occupied.getLast?.map Response.body

/-- A cell that serves, with a key value and a check value. -/
def inService (v : Block) : Cell := ⟨.serving, some v, some 0xAB01CD, 0⟩

/-- A label. -/
def label8 : List Byte := [0x49, 0x53, 0x30, 0x37, 0x4D, 0x4B, 0x30, 0x31]

/-- The MASTER key in slot 4 (2.6). -/
def master : KeyEntry := ⟨label8, .master, [.derive], 0, some 3, inService 5, blankCell, some .a⟩

/-- The TRANSPORT key in slot 40 (2.6). -/
def wrapKey : KeyEntry := ⟨label8, .transport, [.wrap], 2, none, blankCell, inService 7, some .b⟩

/-- The TRANSPORT key in slot 41 (2.6). -/
def lowKey : KeyEntry := ⟨label8, .transport, [.wrap, .encryptOut], 1, some 5, inService 8, blankCell, some .a⟩

/-- The DATA key in slot 44 (8.6). -/
def dataKey : KeyEntry := ⟨label8, .data, [.decryptIn], 3, some 3, inService 9, blankCell, some .a⟩

/-- The TRANSPORT key in slot 45 (8.6). -/
def outKey : KeyEntry := ⟨label8, .transport, [.encryptOut], 3, none, blankCell, inService 10, some .b⟩

/-- A batch of ten positions from serial 500000 (7.8). -/
def run (domain : Nat) : Batch := newRun domain (List.replicate 12 0x41) 500000 10 2

/-- An OPERATING part with an empty tamper record and notice list. -/
def part : State :=
  { State.reset with mode := .operating, causes := [], firstCause := none, notices := [] }

/-- The tables of 2.6, 7.8 and 8.6; L0 and L3 are bound as L2 is, with the domains of L1. -/
def bench : State :=
  (((((((part.setEntry 4 (.key master)).setEntry 36 (.gate ⟨label8, 4, 2, [.derive], some 7⟩)).setEntry 40
    (.key wrapKey)).setEntry 41 (.key lowKey)).setEntry 44 (.key dataKey)).setEntry 45 (.key outKey)).setBatch 7
    (run 3) |>.setBatch 9 (run 3) |>.setBatch 11 (run 5)).setBinding .l1 ⟨2, [3, 5], 32, 16, 1, 30⟩
    |>.setBinding .l2 ⟨3, [3], 32, 16, 1, 30⟩ |>.setBinding .l0 ⟨3, [3, 5], 32, 16, 1, 30⟩
    |>.setBinding .l3 ⟨3, [3, 5], 32, 16, 1, 30⟩

/-- A DERIVE of batch 7 in slot 3 for L1, of one key index, in a state. -/
def deriveJob (state : JobState) (keys : List Nat) (done : Nat) (results : List CardKey) : Job :=
  ⟨.line .l1, 40, state, [(4, .a), (40, .b)], false, .derive ⟨7, 4, .fresh, keys, done, results⟩⟩

/-- A state with a job in a slot, on its owner's list. -/
def withJob (s : State) (slot : Nat) (j : Job) : State := s.placeJob slot j

/-- A position of batch 7 put in a state, with the counters that belong to it. -/
def withPos (s : State) (pos : Nat) (st : PosState) (derived freshRes reissueRes : Nat) : State :=
  s.setBatch 7 { s.batch 7 with
    map := (s.batch 7).map.set pos st, derived := derived, freshRes := freshRes, reissueRes := reissueRes }

/-- The part of `bench` with a DERIVE of L1 in slot 3 that holds both its cells and position 4. -/
def keying (state : JobState) (keys : List Nat) (done : Nat) (results : List CardKey) : State :=
  let s := ((withPos bench 4 .reservedFresh 0 1 0).capture 4 .a).capture 40 .b
  withJob (s.setPort (.line .l1) { s.port (.line .l1) with reserved := 1 }) 3 (deriveJob state keys done results)

/-- A stream of L2 in slot 9 with handle (9, 17) and ten declared blocks (8.6). -/
def streamJob (state : JobState) (done : Nat) (inService staged : Option Chunk) (idle : Option Nat) : Job :=
  ⟨.line .l2, 20, state, [(44, .a), (45, .b)], false, .stream ⟨17, 1, 2, 10, done, inService, staged, idle, none⟩⟩

/-- The part of `bench` with that stream. -/
def streaming (state : JobState) (done : Nat) (inService staged : Option Chunk) (idle : Option Nat) : State :=
  let s := (bench.capture 44 .a).capture 45 .b
  withJob (s.setPort (.line .l2) { s.port (.line .l2) with reserved := inService.toList.length + staged.toList.length }) 9
    (streamJob state done inService staged idle)

/-- The grant of a slot: its size, the results held and the working copy of the pass in progress (R103). -/
def grantIn (s : State) (slot size : Nat) (held : List Block) : Grant :=
  ⟨slot, size, held, ((s.job slot).map fun j => s.passInput (s.recordAll j held)).getD ⟨false, 0, 0⟩⟩

/-- A state with that grant in progress. -/
def granted (s : State) (slot size : Nat) (held : List Block) : State := { s with engine := some (grantIn s slot size held) }

/-- A placed DERIVE. -/
def placed : Request := ⟨0x01, 1, deriveBody 7 500004 36 40 [0]⟩

/-- A response in a queue. -/
def response : Response := plainResponse 0x02 9 .done [7]

/-- A port of `bench` with requests, responses and a fault. -/
def loaded (p : Port) (requests : List Request) (occupied reserved : Nat) (fault : LinkFault) (w : HeadWait) : State :=
  bench.setPort p { freshUnit with
    requests := requests, occupied := List.replicate occupied response, reserved := reserved, fault := fault, wait := w }

/-! ### Well-formedness, decoding, step -/

theorem test_wellFormed_refuses_long_body : (Instr.derive .cp 0 0 (List.replicate 89 0)).wellFormed = false := by decide +kernel

theorem test_wellFormed_accepts_longest_body : (Instr.derive .cp 0 0 (List.replicate 88 0)).wellFormed = true := by
  decide +kernel

theorem test_wellFormed_refuses_known_code : (Instr.unknownRequest .cp 0x01 0 0 []).wellFormed = false := by decide +kernel

theorem test_wellFormed_refuses_fetch_code : (Instr.unknownRequest .cp 0x0F 0 0 []).wellFormed = false := by decide +kernel

theorem test_wellFormed_refuses_custody_slot : (Instr.streamIdleExpiry 15).wellFormed = false := by decide +kernel

theorem test_no_word_spells_a_command : decodeTableWord 8 1 = none := rfl

theorem test_step_takes_the_front :
    step { bench with pending := [.portReset .cp, .grantEnd] } = exec (.portReset .cp) { bench with pending := [.grantEnd] } :=
  rfl

/-! ### The cipher and the diversifier -/

/-- FIPS 197, Appendix C.1. -/
theorem test_encipher_fips197 :
    encipher 0x000102030405060708090a0b0c0d0e0f 0x00112233445566778899aabbccddeeff =
      0x69c4e0d86a7b0430d8cdb78070b4c55a := by decide +kernel

/-- FIPS 197, Appendix C.1, read backwards. -/
theorem test_decipher_fips197 :
    decipher 0x000102030405060708090a0b0c0d0e0f 0x69c4e0d86a7b0430d8cdb78070b4c55a =
      0x00112233445566778899aabbccddeeff := by decide +kernel

/-- 7.8, Figure 7: X_2 of serial 500004 in domain 3. -/
theorem test_diversifier : diversifier 500004 3 2 = 0x0007A124FFF85EDB0302000000000000 := by decide +kernel

/-- 7.8: the blocks of the last serial read FF FF FF FF 00 00 00 00 03 and the index. -/
theorem test_diversifier_last_serial : diversifier 4294967295 3 1 = 0xFFFFFFFF000000000301000000000000 := by decide +kernel

/-! ### Commands, one step each -/

/-- 9.3, step 1: with 7 requests placed a frame start takes the last entry and READY falls. -/
theorem test_frameStart_takes_last_entry :
    (after (.frameStart (.line .l3) []) (loaded (.line .l3) (List.replicate 7 placed) 15 1 .none .entry)).ready (.line .l3) =
      false := by decide +kernel

/-- 9.3, step 4: a DERIVE's code in a frame without an entry records START_WHILE_FULL. -/
theorem test_frameStart_while_full :
    ((after (.frameStart (.line .l3) [0x01]) (loaded (.line .l3) (List.replicate 8 placed) 15 1 .none .entry)).port
      (.line .l3)).fault = .startWhileFull := by decide +kernel

/-- 9.3, steps 2 and 3: the urgent QUERY-BATCH becomes the head and waits for a response entry. -/
theorem test_frameEnd_urgent_at_top :
    let s := loaded (.line .l3) (List.replicate 7 placed) 15 1 .none .entry
    let t := after (.frameEnd (.line .l3) []) (after (.frameStart (.line .l3) [0x0A, 0x01, 7, 1, 7]) s)
    ((t.port (.line .l3)).requests.map Request.code, (t.port (.line .l3)).wait) =
      (0x0A :: List.replicate 7 0x01, .entry) := by decide +kernel

/-- 9.3, steps 6 and 7: the response clocked whole frees the entry, and the QUERY-BATCH is admitted and answered. -/
theorem test_fetchFrame_admits_the_head :
    let s := loaded (.line .l3) (⟨0x0A, 7, [7]⟩ :: List.replicate 7 placed) 15 1 .startWhileFull .entry
    let t := after (.fetchFrame (.line .l3) 11 true) s
    ((t.port (.line .l3)).requests.length, (t.port (.line .l3)).occupied.length, t.ready (.line .l3),
      (t.port (.line .l3)).fetched.take 4) = (7, 15, true, [0x01, 0, 15, 0x01]) := by decide +kernel

/-- R143: a placing frame that times out gives its entry back and records FRAME_TIMEOUT. -/
theorem test_frameTimeout :
    let t := after (.frameTimeout .cp [0x0A]) (after (.frameStart .cp []) bench)
    ((t.port .cp).fault, (t.port .cp).requests, (t.port .cp).frame) = (.frameTimeout, [], .none) := by decide +kernel

/-- R151. -/
theorem test_unknownRequest : newest (after (.unknownRequest .cp 0x3F 0 1 []) bench) .cp =
    some (.unknownRequest, none, .none) := by decide +kernel

/-- 2.6, first row: admitted, capturing slot 4 cell A and slot 40 cell B. -/
theorem test_derive_admitted :
    ((after (.derive (.line .l1) 0 1 (deriveBody 7 500004 36 40 [0])) bench).job 0).map Job.captured =
      some [(4, .a), (40, .b)] := by decide +kernel

/-- 2.6, last row: RANK(36, DIRECT) from L2. -/
theorem test_derive_rank : newest (after (.derive (.line .l2) 0 1 (deriveBody 7 500004 36 40 [0])) bench) (.line .l2) =
    some (.rank, some 36, .direct) := by decide +kernel

/-- 7.8, step 8: SPOIL 500004 answers DONE with 2 replacements left. -/
theorem test_spoil : (newestBody (after (.spoil (.line .l1) 0 1 (spoilBody 7 500004)) (withPos bench 4 .issued 1 0 0))
    (.line .l1)).bind List.getLast? = some 2 := by decide +kernel

/-- 7.8: a serial above the last one of the batch. -/
theorem test_spoil_outOfBatch : newest (after (.spoil (.line .l1) 0 1 (spoilBody 7 500010)) bench) (.line .l1) =
    some (.outOfBatch, none, .none) := by decide +kernel

/-- 8.6, step 1, in line slot 0 with its stream sequence at 16: handle sequence 17, n 10. -/
theorem test_streamOpen :
    newestBody (after (.streamOpen (.line .l2) 0 20 (streamOpenBody 44 45 1 2 10)) (bench.setSeq 0 16)) (.line .l2) =
      some [0, 17, 0, 10] := by decide +kernel

/-- 8.6, step 3: the second chunk is staged behind the first. -/
theorem test_streamChunk_staged :
    (after (.streamChunk (.line .l2) 0 22 (streamChunkBody 9 17 [5, 6, 7, 8]))
      (streaming .waiting 0 (some (newChunk 21 [1, 2, 3, 4])) none none)).job 9 =
      some (streamJob .waiting 0 (some (newChunk 21 [1, 2, 3, 4])) (some (newChunk 22 [5, 6, 7, 8])) none) := by decide +kernel

/-- 8.6, note: a third chunk of three blocks would be 11 of 10, OVERRUN. -/
theorem test_streamChunk_overrun :
    newest (after (.streamChunk (.line .l2) 0 23 (streamChunkBody 9 17 [9, 10, 11]))
      (streaming .waiting 0 (some (newChunk 21 [1, 2, 3, 4])) (some (newChunk 22 [5, 6, 7, 8])) none)) (.line .l2) =
      some (.overrun, none, .none) := by decide +kernel

/-- 8.6, closed early: the chunk in service answers CANCELLED, the close DONE with 4 blocks done. -/
theorem test_streamClose :
    ((after (.streamClose (.line .l2) 0 24 [9, 17]) (streaming .waiting 4 (some (newChunk 22 [5, 6, 7, 8])) none none)).port
      (.line .l2)).occupied = [plainResponse 0x04 22 .cancelled [], plainResponse 0x05 24 .done [9, 17, 0, 4]] := by
  decide +kernel

/-- 5.8, step 4: a CANCEL in grant is ACCEPTED and sets the flag. -/
theorem test_cancel_in_grant :
    let t := after (.cancel (.line .l1) 1 41 [40]) (keying .inGrant [0, 1, 2] 4 [])
    (newest t (.line .l1), (t.job 3).map Job.cancelPending) = (some (.accepted, none, .none), some true) := by decide +kernel

/-- 1.6, step 6: a WAITING derive cancelled releases its cell; ACCEPTED comes before CANCELLED. -/
theorem test_cancel_waiting :
    let t := after (.cancel (.line .l1) 1 41 [40]) (keying .waiting [0, 1, 2] 4 [])
    ((t.port (.line .l1)).occupied.map Response.answer, t.job 3, t.entry 4) =
      ([.accepted, .cancelled], none, .key master) := by decide +kernel

/-- R150: NOTICE on a line port is RANGE. -/
theorem test_setAttn_range : newest (after (.setAttn (.line .l0) 0 1 [0, 0, 0, 0, 1]) bench) (.line .l0) =
    some (.range, none, .none) := by decide +kernel

/-- R70, R63: the record of batch 7 as 7.8 opens it. -/
theorem test_queryBatch : newestBody (after (.queryBatch (.line .l1) 1 1 [7]) bench) (.line .l1) =
    some [7, 1, 3, 0x00, 0x07, 0xA1, 0x20, 0, 10, 0, 0, 0, 2, 0, 0, 0] := by decide +kernel

/-- R13 step 1: a slot outside 0 to 127 is RANGE without a slot. -/
theorem test_createKeyEntry_range :
    newest (after (.createKeyEntry .cp 0 1 (keyEntryBody 128 label8 .data [.decryptIn] 0 (some 3))) bench) .cp =
      some (.range, none, .none) := by decide +kernel

/-- R3: a MASTER key takes no WRAP use. -/
theorem test_createKeyEntry_uses :
    newest (after (.createKeyEntry .cp 0 1 (keyEntryBody 9 label8 .master [.derive, .wrap] 0 (some 3))) bench) .cp =
      some (.range, some 9, .none) := by decide +kernel

/-- R14 step 3: an entry with a cell that is not BLANK stays. -/
theorem test_removeEntry_cellState : newest (after (.removeEntry .cp 0 1 [4]) bench) .cp =
    some (.cellState, some 4, .none) := by decide +kernel

/-- 1.6, step 1: serving B, kcvB, other cell A DRAINING with count 2. -/
theorem test_swapCell :
    let k := { master with cellA := { master.cellA with inFlight := 2 }, cellB := ⟨.ready, some 6, some 0x010203, 0⟩ }
    newestBody (after (.swapCell .cp 0 1 [4]) (bench.setEntry 4 (.key k))) .cp = some [4, 1, 1, 2, 3, 0, 4, 2] := by
  decide +kernel

/-- 2.6: SWAP-CELL while the other cell is BLANK is CELL_STATE. -/
theorem test_swapCell_blank : newest (after (.swapCell .cp 0 1 [4]) bench) .cp = some (.cellState, some 4, .none) := by
  decide +kernel

/-- 1.6, step 5: a DRAINING cell is BUSY. -/
theorem test_discardCell_busy :
    let k := { master with cellA := ⟨.draining, some 5, some 1, 1⟩, cellB := inService 6, serving := some .b }
    newest (after (.discardCell .cp 0 1 [4, 0]) (bench.setEntry 4 (.key k))) .cp = some (.busy, some 4, .none) := by
  decide +kernel

/-- R19: an EMPTY entry is read as its slot and kind. -/
theorem test_readEntry : newestBody (after (.readEntry .cp 0 1 [127]) bench) .cp = some [127, 0] := by decide +kernel

/-- R34: the target of a gate is a KEY entry. -/
theorem test_createGate_target : newest (after (.createGate .cp 0 1 (gateBody 50 label8 36 3 [.derive] none)) bench) .cp =
    some (.gateTarget, some 36, .none) := by decide +kernel

/-- 6.5, with a weight change: a deficit of 11 is clamped to 7 by weight 1. -/
theorem test_bindPort_clamps :
    let t := after (.bindPort .cp 0 1 (bindBody .l1 ⟨2, [3, 5], 32, 16, 1, 30⟩)) (bench.setDeficit .l1 11)
    (t.deficit .l1, (newestBody t .cp).bind List.getLast?) = (7, some 7) := by decide +kernel

/-- 3.7, step 1: DONE with 4, B, m 3, expected given. -/
theorem test_beginCeremony : newestBody (after (.beginCeremony .cp 0 1 (beginBody 4 .b 3 (some 0x112233))) bench) .cp =
    some [4, 1, 3, 1] := by decide +kernel

/-- The ceremony of 3.7 after its first component. -/
def ceremony : Ceremony := ⟨false, 4, .b, 3, some 0x112233, [(2, 0x010203)], [0xC2], 0xC2⟩

/-- 3.7, step 5: the custodian's number is in the list. -/
theorem test_component_duplicate : newest (after (.component .cp 0 1 (componentBody 2 0xC5)) (bench.setCeremony ceremony))
    .cp = some (.duplicateCustodian, none, .none) := by decide +kernel

/-- 3.7, step 6: the value equals a retained component. -/
theorem test_component_weak : newest (after (.component .cp 0 1 (componentBody 5 0xC2)) (bench.setCeremony ceremony))
    .cp = some (.weakComponent, none, .none) := by decide +kernel

/-- R52: DONE with target slot, cell and list length. -/
theorem test_abandonCeremony : newestBody (after (.abandonCeremony .cp 0 1 []) (bench.setCeremony ceremony)) .cp =
    some [4, 1, 1] := by decide +kernel

/-- 7.8: OPEN-BATCH(9, 3, label, 4294967290, 10, 0) is refused RANGE. -/
theorem test_openBatch_range :
    newest (after (.openBatch .cp 0 1 (openBatchBody 8 3 (List.replicate 12 0x41) 4294967290 10 0)) bench) .cp =
      some (.range, none, .none) := by decide +kernel

/-- 7.8: with quantity 6 it is accepted, with last serial 4294967295. -/
theorem test_openBatch_last_serial :
    newestBody (after (.openBatch .cp 0 1 (openBatchBody 8 3 (List.replicate 12 0x41) 4294967290 6 0)) bench) .cp =
      some [8, 1, 0xFF, 0xFF, 0xFF, 0xFA, 0, 6, 0xFF, 0xFF, 0xFF, 0xFF, 0] := by decide +kernel

/-- 5.7, step 5: DONE, PAUSED. -/
theorem test_pauseBatch : newestBody (after (.pauseBatch .cp 0 1 [7]) bench) .cp = some [7, 2, 0, 0] := by decide +kernel

/-- R66: an OPEN batch is not resumed. -/
theorem test_resumeBatch_open : newest (after (.resumeBatch .cp 0 1 [7]) bench) .cp =
    some (.batchState, none, .none) := by decide +kernel

/-- 4.9, step 11: DONE, CLOSING, f 1, r 1. -/
theorem test_closeBatch_drains :
    newestBody (after (.closeBatch .cp 0 1 [7])
      (bench.setBatch 7 { run 3 with map := (run 3).map.set 1 .reservedSpoilt |>.set 2 .reservedFresh, derived := 1,
                                     freshRes := 1, reissueRes := 1 })) .cp = some [7, 3, 1, 1] := by decide +kernel

/-- 4.9, note: the map of a run read from position 8, FRESH then ISSUED. -/
theorem test_readMap :
    newestBody (after (.readMap .cp 0 1 [7, 0, 8]) (withPos bench 9 .issued 1 0 0)) .cp =
      some (7 :: List.replicate 12 0x41 ++ [0, 8, 2, 0, 2]) := by decide +kernel

/-- R159: the part is ZEROISING and nothing is answered yet. -/
theorem test_zeroiseAll :
    let t := after (.zeroiseAll .cp 0 1 []) (keying .waiting [0] 0 [])
    t.mode = .zeroising ∧ t.causes = [.requested] ∧ (t.port .cp).occupied = [] ∧
      newest t (.line .l1) = some (.tamper, none, .none) := by decide +kernel

/-- 10.8, step 7: a line still active. -/
theorem test_clearLockout_active :
    newest (after (.clearLockout .cp 0 1 [])
      { State.reset with tamperPins := ⟨true, false, false, false⟩ }) .cp = some (.tamperActive, none, .none) := by
  decide +kernel

/-- 10.8, step 8. -/
theorem test_clearLockout : (after (.clearLockout .cp 0 1 []) State.reset).mode = .operating := by decide +kernel

/-- 12.1 and R153: the first STATUS of a new part: LOCKOUT, STORE_LOST first, GOOD, one notice RESTARTED. -/
theorem test_status : newestBody (after (.status .cp 0 1 []) State.reset) .cp =
    some [3, 0, 0, 0, 0, 0, 1, 6, 1, 0, 1, 1, 7, 0, 0, 3] := by decide +kernel

/-- 6.5, step 3: at a grant end of b with 4 in hand, b is charged 1 for its last pass. -/
theorem test_grantEnd_charges_one :
    let s := (keying .inGrant [0, 1, 2] 4 []).setDeficit .l1 4
    let t := after .grantEnd (granted { s with pointer := .l1 } 3 4 [])
    (t.deficit .l1, t.engine.map Grant.slot, t.engine.map Grant.size) = (3, some 3, some 1) := by decide +kernel

/-- R140, R147: in a fetch frame data out carries the status header, here its free entries; it is low in the code byte and after
the end of the frame. -/
theorem test_dataOut :
    let s := loaded .cp [placed] 2 0 .none .entry
    ((after (.fetchFrame .cp 2 false) s).dataOut .cp, (after (.fetchFrame .cp 0 false) s).dataOut .cp,
      (after (.fetchFrame .cp 2 true) s).dataOut .cp) = (7, 0, 0) := by decide +kernel

/-- 5.8, step 5: the cancelled derive's position is FRESH with f = 0, and it answers CANCELLED. -/
theorem test_grantEnd_cancelled :
    let s := (keying .inGrant [0, 1, 2] 4 []).setJob 3 (some { deriveJob .inGrant [0, 1, 2] 4 [] with cancelPending := true })
    let t := after .grantEnd (granted s 3 4 [])
    (t.batch 7, newest t (.line .l1), t.engine) = (run 3, some (.cancelled, none, .none), none) := by decide +kernel

/-- R136: an IDLE stream ends without a response. -/
theorem test_streamIdleExpiry :
    let t := after (.streamIdleExpiry 9) (streaming .idle 0 none none (some 30))
    (t.job 9, (t.port (.line .l2)).occupied, t.entry 44) = (none, [], .key dataKey) := by decide +kernel

/-- R100: a derive of the port ends without a response and its position is released. -/
theorem test_portReset :
    let t := after (.portReset (.line .l1)) (keying .waiting [0] 0 [])
    (t.job 3, (t.port (.line .l1)).occupied, t.batch 7) = (none, [], run 3) := by decide +kernel

/-- R154: READY follows the queue again once the input is released. -/
theorem test_portResetRelease :
    (after (.portResetRelease .cp) (after (.portReset .cp) bench)).ready .cp = true := by decide +kernel

/-- 10.8, step 1. -/
theorem test_tamperEvent :
    let t := after (.tamperEvent .enclosure) (keying .waiting [0] 0 [])
    t.mode = .zeroising ∧ t.firstCause = some (.line .enclosure) ∧ newest t (.line .l1) = some (.tamper, none, .none) ∧
      t.notices = [⟨.tamper .enclosure, 0⟩] := by decide +kernel

/-- 10.8, step 2. -/
theorem test_tamperEvent_again :
    let t := after (.tamperEvent .mesh) (after (.tamperEvent .enclosure) bench)
    (t.causes, t.firstCause, t.zeroRun) = ([.line .enclosure, .line .mesh], some (.line .enclosure), some 0) := by
  decide +kernel

/-- 10.8, step 4: the attempt passes on battery, and nothing is raised. -/
theorem test_readBackAttemptEnd_on_battery :
    let t := after (.readBackAttemptEnd true) (after .mainPowerLoss (after (.tamperEvent .enclosure) bench))
    (t.mode, t.zeroisePending, t.notices) = (.lockout, false, []) := by decide +kernel

/-- R166: while the part runs. -/
theorem test_batteryStateChange : (after (.batteryStateChange true) bench).notices = [⟨.batteryLow, 0⟩] := by decide +kernel

/-- R166: a battery that fell without power is found low when the sweep measures it. -/
theorem test_battery_found_low :
    let t := after .powerUpSweep (after .mainPowerOn (after (.batteryStateChange true) (after .mainPowerLoss bench)))
    (t.battery, t.notices) = (.low, [⟨.restarted, 1⟩, ⟨.batteryLow, 0⟩]) := by decide +kernel

/-- R157, R167: below the store holding level the lines are not watched, and above it they are again. -/
theorem test_tamper_watch_on_battery :
    let lost := { after .mainPowerLoss bench with batteryBelow := true, holdingLost := true }
    ((after (.tamperEvent .mesh) lost).causes, (after (.tamperEvent .mesh) (after (.batteryStateChange false) lost)).causes) =
      ([], [.line .mesh]) := by decide +kernel

/-- R167, R157: without the holding level the store is found lost, and the lines are not watched. -/
theorem test_storeHoldingLost :
    let s := after .storeHoldingLost (after .mainPowerLoss bench)
    (s.markerGood, s.watched) = (false, false) := by decide +kernel

/-- 10.8, step 3. -/
theorem test_mainPowerLoss :
    let t := after .mainPowerLoss (after (.tamperEvent .enclosure) (keying .waiting [0] 0 []))
    (t.mode, (t.port (.line .l1)).occupied, t.notices) = (.zeroising, [], []) := by decide +kernel

/-- R168: power begins a sweep with cause POWER. -/
theorem test_mainPowerOn : (after .mainPowerOn (after .mainPowerLoss bench)).sweep = .running .power := by decide +kernel

/-- R169: a live job is lost without a response, and READY is low. -/
theorem test_mainReset :
    let t := after .mainReset (keying .waiting [0] 0 [])
    (t.job 3, (t.port (.line .l1)).occupied, t.ready (.line .l1)) = (none, [], false) := by decide +kernel

/-- R168: the release begins a sweep with cause RESET_LINE. -/
theorem test_mainResetRelease : (after .mainResetRelease (after .mainReset bench)).sweep = .running .resetLine := by
  decide +kernel

/-- 4.9, the same run after a loss of power: the position is FRESH, f is 0, the batch stays OPEN; RESTARTED(POWER). -/
theorem test_powerUpSweep :
    let t := after .powerUpSweep (after .mainPowerOn (after .mainPowerLoss (keying .waiting [0] 0 [])))
    (t.batch 7, t.notices, t.mode) = (run 3, [⟨.restarted, 1⟩], .operating) := by decide +kernel

/-- R157: a line that has been inactive gives another event. -/
theorem test_tamperLineInactive :
    (after (.tamperLineInactive .mesh) { bench with tamperPins := ⟨false, true, false, false⟩ }).tamperPins =
      ⟨false, false, false, false⟩ := by decide +kernel


/-! ### Witnesses: concrete states and operands that meet a statement's hypotheses together, clause by clause -/

/-- `bench` with a frame in progress at CP and requests in its queue. -/
def framing (f : Frame) (requests : List Request) (occupied : Nat) : State :=
  bench.setPort .cp { freshUnit with
    frame := f, selectLow := true, requests := requests, occupied := List.replicate occupied response }

/-- `bench` with an entry in slot 4 that has these cells. -/
def withCells (a b : Cell) (serving : Option CellId) : State :=
  bench.setEntry 4 (.key { master with cellA := a, cellB := b, serving := serving })

/-- A READY cell. -/
def readyCell : Cell := ⟨.ready, some 6, some 0x010203, 0⟩

/-- A DRAINING cell that `n` jobs hold. -/
def drainingCell (n : Nat) : Cell := ⟨.draining, some 6, some 0x010203, n⟩

/-- A FORMING cell. -/
def formingCell : Cell := ⟨.forming, none, none, 0⟩

/-- `bench` with batch 7 in a state and reservations held. -/
def batchIn (st : BatchState) (freshRes : Nat) : State := bench.setBatch 7 { run 3 with state := st, freshRes := freshRes }

/-- `bench` with all line slots taken: L1 on its list has the first `n` of them. -/
def crowded (n : Nat) : State :=
  (List.range 15).foldl (fun s i => s.setJob i (some (deriveJob .waiting [0] 0 []))) bench
    |>.setLive (.line .l1) (List.range n)

/-- A CUSTODY job of custodian 5. -/
def custodyJobOf (state : JobState) (due : CustodyPass) (cancelled : Bool) : Job :=
  ⟨.cp, 3, state, [(4, .b)], cancelled, .custody ⟨5, 0xC5, due, none⟩⟩

/-- `bench` with the ceremony of 3.7, cell B of slot 4 FORMING, and a CUSTODY job in slot 15. -/
def inCeremony (cer : Ceremony) (j : Job) : State :=
  let s := (withCells (inService 5) formingCell (some .a)).setCeremony cer
  withJob (s.setPort .cp { s.port .cp with reserved := 1 }) 15 j

/-- A part ZEROISING with `n` read-back attempts made, for a ZEROISE-ALL with tag 9. -/
def zeroising (n : Nat) : State :=
  let s := { part with mode := .zeroising, zeroisePending := true, zeroRun := some n, zeroTag := some 9 }
  s.setPort .cp { s.port .cp with reserved := 1 }

/-- The COMPONENT of `custodyJobOf` has completed the list and waits for its combination pass, with line L1's DERIVE in grant. -/
def combinationWait : State :=
  granted (withJob (inCeremony { ceremony with combining := true } (custodyJobOf .waiting .combination false)) 3
    (deriveJob .inGrant [0] 0 [])) 3 1 []

/-- R52, R114: the COMPONENT that waits answers CANCELLED, then the ABANDON-CEREMONY DONE, and the record is CLOSED; the engine goes
on. -/
theorem test_abandon_before_combination :
    let t := after (.abandonCeremony .cp 0 6 []) combinationWait
    ((t.port .cp).occupied.map fun r => (r.code, r.tag, r.answer)) = [(0x21, 3, .cancelled), (0x22, 6, .done)] ∧
      (match t.entry 4 with | .key k => (k.cell .b).state | _ => .ready) = .blank ∧
      t.ceremony = none ∧ t.engine = combinationWait.engine := by decide +kernel

/-- R109: at the end of the component pass that completes the list the combination pass is granted, ahead of L1's DERIVE. R53, R55:
an ABANDON-CEREMONY that follows is answered after the COMPONENT's CANCELLED, and the record is CLOSED. -/
theorem test_abandon_in_combination :
    let s := granted (withJob (inCeremony { ceremony with required := 2 } (custodyJobOf .inGrant .component false)) 3
      (deriveJob .waiting [0] 0 [])) 15 1 []
    let t := after .grantEnd (after (.abandonCeremony .cp 0 6 []) (after .grantEnd s))
    (after .grantEnd s).engine.map Grant.slot = some 15 ∧
      ((t.port .cp).occupied.map fun r => (r.code, r.tag, r.answer)) = [(0x21, 3, .cancelled), (0x22, 6, .done)] ∧
      t.ceremony = none ∧ t.engine.map Grant.slot = some 3 := by decide +kernel

theorem witness_EmptyQueueStepFinishesOnePass :
    (State.reset.pending = [] ∧ State.reset.engine = none) ∧
    ∀ held ∈ [[(1 : Block), 2], [1, 2, 3]],
      let s := granted (keying .inGrant [0, 1, 2] 0 []) 3 4 held
      s.pending = [] ∧ s.engine = some (grantIn s 3 4 held) ∧ s.job 3 = some (deriveJob .inGrant [0, 1, 2] 0 []) ∧
        (held.length = 2 → held.length + 1 < 4) ∧ (held.length = 3 → 4 ≤ held.length + 1) := by decide +kernel

theorem witness_FrameStartReservesAnEntry :
    let s (n : Nat) := loaded .cp (List.replicate n placed) 2 0 .none .entry
    ((s 7).linkTakes .cp = true ∧ (s 7).tries = [] ∧ ((s 7).port .cp).selectLow = false ∧ ((s 7).port .cp).frame = .none ∧
      ((s 7).port .cp).requests.length < 8 ∧ (0x0A : Byte) ≠ 0x0F) ∧
    ((s 8).linkTakes .cp = true ∧ (s 8).tries = [] ∧ ((s 8).port .cp).selectLow = false ∧ ((s 8).port .cp).frame = .none ∧
      ((s 8).port .cp).requests.length = 8) := by decide +kernel

theorem witness_FrameEndPlacesOrDiscards :
    (∀ got ∈ [[], [(0x0A : Byte)]],
      let s := framing (.placing got) [placed] 0
      let bytes := if got = [] then [0x0A, 0, 7, 1, 9] else [0, 7, 1, 9]
      s.tries = [] ∧ (s.port .cp).frame = .placing got ∧ (got = [] → bytes.head? ≠ some 0x0F) ∧
        got ++ bytes = 0x0A :: 0 :: 7 :: 1 :: [9] ∧ (1 : Byte).toNat ≤ 88 ∧
        [(9 : Byte)].length = (1 : Byte).toNat ∧ (s.port .cp).requests ≠ [] ∧
        ¬ ((0 : Byte) = 0x01 ∧ (0x0A : Byte) ∈ [0x08, 0x09, 0x0A, 0x32])) ∧
    (let s := framing (.placing [0x0A, 1, 7, 1, 9]) [placed] 16
     s.tries = [] ∧ (s.port .cp).frame = .placing [0x0A, 1, 7, 1, 9] ∧ (s.port .cp).requests ≠ [] ∧
       (0x0A : Byte) ∈ [0x08, 0x09, 0x0A, 0x32] ∧ s.admitting = true ∧ (s.port .cp).responsesFull = true) ∧
    (let s := framing (.placing [0x08]) [placed] 15
     s.tries = [] ∧ (s.port .cp).frame = .placing [0x08] ∧ [(0x08 : Byte)] ++ [1, 7, 1, 9] = [0x08, 0x01, 7, 0x01, 9] ∧
       s.admitting = true ∧ (s.liveOf .cp).find? (s.cancelTarget 9) = none ∧ (s.port .cp).requests ≠ [] ∧
       (s.port .cp).occupied.length + (s.port .cp).reserved = 15) ∧
    (let s := framing (.placing [1]) [] 0
     s.tries = [] ∧ (s.port .cp).frame = .placing [1] ∧
       ¬ (4 ≤ ([(1 : Byte)] ++ [0, 7]).length ∧ (([(1 : Byte)] ++ [0, 7]).getD 3 0).toNat ≤ 88 ∧
         ([(1 : Byte)] ++ [0, 7]).length = 4 + (([(1 : Byte)] ++ [0, 7]).getD 3 0).toNat)) ∧
    ((framing .unplaced [placed] 0).tries = [] ∧ ((framing .unplaced [placed] 0).port .cp).frame = .unplaced ∧
      ([] : List Byte).head? ≠ some 0x0F ∧ [(0x01 : Byte), 0].head? ≠ some 0x0F ∧
      ((framing .ignored [placed] 0).port .cp).frame = .ignored) ∧
    bench.pending.head? ≠ some (.portReset .cp) := by decide +kernel

/-- A frame of the custody port about to end, with a reset of that port as the next command. -/
def meeting (requests : List Request) : State := { framing (.placing [0x0A]) requests 0 with pending := [.portReset .cp] }

theorem witness_FrameEndPlacesOrDiscards_reset :
    ((meeting []).tries = [] ∧ ((meeting []).port .cp).frame = .placing [0x0A] ∧ ((meeting []).port .cp).requests = [] ∧
      (meeting []).linkTakes .cp = true ∧ (meeting []).pending.head? = some (.portReset .cp)) ∧
    (((meeting [placed]).port .cp).frame = .placing [0x0A] ∧ (0x0A : Byte) ∈ [0x08, 0x09, 0x0A, 0x32] ∧
      (meeting [placed]).linkTakes .cp = true) ∧
    [(0x0A : Byte)] ++ [1, 7, 1, 9] = 0x0A :: 1 :: 7 :: 1 :: [9] := by decide +kernel

theorem witness_FetchFrameSendsHeaderAndOldestResponse :
    let s := loaded .cp [placed] 2 0 .startWhileFull .entry
    s.linkTakes .cp = true ∧ s.tries = [] ∧ (s.port .cp).selectLow = false ∧ (s.port .cp).frame = .none ∧
      (s.port .cp).requests.length ≤ 8 ∧ (s.port .cp).occupied ≠ [] ∧
      ¬ 4 + (((s.port .cp).occupied.head?.map Response.bytes).getD []).length ≤ 10 ∧
      4 + (((s.port .cp).occupied.head?.map Response.bytes).getD []).length ≤ 11 ∧
      ((loaded .cp [] 2 0 .none .none).port .cp).requests = [] := by decide +kernel

theorem witness_FrameTimeoutEndsTheFrame :
    (framing .none [] 0).tries = [] ∧ ((framing (.placing [1]) [] 0).port .cp).frame = .placing [1] ∧
    ((framing (.fetching [1] [2] 1) [] 0).port .cp).frame = .fetching [1] [2] 1 ∧
    ((framing .unplaced [] 0).port .cp).frame = .unplaced ∧ ((framing .ignored [] 0).port .cp).frame = .ignored ∧
    ((framing .none [] 0).port .cp).frame = .none := by decide +kernel

theorem witness_CommonChecksRefuseInOrder :
    (bench.quiet .cp = true ∧ ([] : List Byte).length ≤ 88 ∧ (0x3F : Byte) ∉ knownCodes ∧ (0x3F : Byte) ≠ 0x0F) ∧
    (bench.quiet (.line .l0) = true ∧ ReqKind.status.allowedOn (.line .l0) = false) ∧
    (State.reset.quiet (.line .l0) = true ∧ ReqKind.queryBatch.allowedOn (.line .l0) = true ∧ Port.line .l0 ≠ .cp ∧
      State.reset.mode = .lockout) ∧
    (bench.quiet (.line .l0) = true ∧ ReqKind.derive.allowedOn (.line .l0) = true ∧ bench.mode = .operating ∧
      ReqKind.derive.lengthOk (List.replicate 11 0) = false) := by decide +kernel

theorem witness_RequestsWaitInZeroisingAndFailed :
    let s := zeroising 0
    s.linkTakes .cp = true ∧ s.tries = [] ∧ s.mode = .zeroising ∧ (s.port .cp).selectLow = false ∧
      (s.port .cp).requests = [] ∧ { s with mode := .failed }.mode = .failed ∧
      { s with mode := .failed }.linkTakes .cp = true ∧ (List.replicate 88 (0 : Byte)).length ≤ 88 := by decide +kernel

theorem witness_SpoilMarksAnIssuedPosition :
    (let s := withPos bench 9 .issued 1 0 0
     s.quiet (.line .l1) = true ∧ s.mode = .operating ∧ 31 < 32 ∧ 255 ≤ 255 ∧ 31 ≤ 31 ∧ 500009 ≤ maxSerial ∧
       (s.batch 7).domain ∈ (s.binding .l1).domains ∧ (s.batch 7).state = .opened ∧ (s.batch 7).first ≤ 500009 ∧
       500009 < (s.batch 7).first + (s.batch 7).quantity ∧ (s.batch 7).map[500009 - (s.batch 7).first]? = some .issued ∧
       499999 < (s.batch 7).first ∧ (s.batch 7).first + (s.batch 7).quantity ≤ 500010 ∧
       (s.batch 7).map[500000 - (s.batch 7).first]? ≠ some .issued) ∧
    (bench.quiet (.line .l2) = true ∧ (bench.batch 11).domain ∉ (bench.binding .l2).domains) ∧
    (let s := batchIn .closed 0
     s.quiet (.line .l1) = true ∧ (s.batch 7).domain ∈ (s.binding .l1).domains ∧ (s.batch 7).state ≠ .opened ∧
       (s.batch 7).state ≠ .paused) := by decide +kernel

theorem witness_SetAttnReplacesTheEnableSet :
    (bench.quiet .cp = true ∧ allConds = allConds.filter allConds.contains) ∧
    (bench.quiet (.line .l3) = true ∧ bench.mode = .operating ∧ AttnCond.notice ∉ ([] : List AttnCond) ∧
      ([] : List AttnCond) = allConds.filter ([] : List AttnCond).contains) ∧
    ([(0 : Byte), 1, 2, 0, 0].length = 5 ∧ ∃ x ∈ [(0 : Byte), 1, 2, 0, 0], x ≠ 0x00 ∧ x ≠ 0x01) ∧
    (Port.line .l3 ≠ .cp ∧ AttnCond.notice ∈ [AttnCond.notice] ∧ [AttnCond.notice] = allConds.filter [AttnCond.notice].contains) :=
  by decide +kernel

theorem witness_ReadingRequestsReturnTheTables :
    (bench.quiet .cp = true ∧ 127 < 128 ∧ 31 < 32 ∧ (bench.batch 31).state = .unused ∧ (bench.batch 7).state ≠ .unused ∧
      (bench.batch 7).quantity ≤ 10 ∧ bench.quiet (.line .l2) = true ∧
      (bench.batch 11).domain ∉ (bench.binding .l2).domains) ∧
    (127 ≤ 127 ∧ bench.entry 127 = .empty ∧ bench.entry 4 = .key master ∧
      bench.entry 36 = .gate ⟨label8, 4, 2, [.derive], some 7⟩) ∧
    (31 ≤ 31 ∧ bench.quiet (.line .l1) = true ∧ bench.mode = .operating ∧ 7 ≤ 31 ∧
      (bench.batch 7).domain ∈ (bench.binding .l1).domains) ∧
    (9 < (bench.batch 7).quantity ∧ 9 < 65536) := by decide +kernel

/-- Slot 127 is EMPTY, slots 4 and 36 are not; no fields in range begin with slot 128. -/
theorem witness_EntriesAreCreatedInEmptySlots :
    (bench.quiet .cp = true ∧ 127 ≤ 127 ∧ label8.length = 8 ∧ bench.entry 127 = .empty ∧ bench.entry 4 ≠ .empty ∧
      bench.entry 4 = .key master ∧ bench.entry 36 = .gate ⟨label8, 4, 2, [.derive], some 7⟩) ∧
    ([KeyUse.wrap, .encryptOut] ≠ [] ∧ [KeyUse.wrap, .encryptOut] = allUses.filter [KeyUse.wrap, .encryptOut].contains ∧
      (∀ u ∈ [KeyUse.wrap, .encryptOut], u ∈ [KeyUse.wrap, KeyUse.encryptOut]) ∧ 3 ≤ 3 ∧ (∀ d ∈ some 15, d ≤ 15) ∧
      (keyEntryBody 127 label8 .transport [.wrap, .encryptOut] 3 (some 15)).length = 16) ∧
    (36 ≤ 127 ∧ [KeyUse.derive] ≠ [] ∧ [KeyUse.derive] = allUses.filter [KeyUse.derive].contains ∧ (∀ b ∈ some 31, b ≤ 31) ∧
      (gateBody 127 label8 36 3 [.derive] (some 31)).length = 16) ∧
    ((List.replicate 16 (0x80 : Byte)).length = 16 ∧ ¬ ((List.replicate 16 (0x80 : Byte)).getD 0 0).toNat ≤ 127) := by
  decide +kernel

theorem witness_EntriesAndCellsAreGivenUp :
    (bench.quiet .cp = true ∧ 127 < 128 ∧ 255 ≤ 255 ∧ (2 : Byte) ≠ 0x00 ∧ (2 : Byte) ≠ 0x01 ∧ 127 ≤ 127 ∧
      bench.entry 127 = .empty) ∧
    bench.entry 36 = .gate ⟨label8, 4, 2, [.derive], some 7⟩ ∧
    (let s := withCells blankCell blankCell none
     s.quiet .cp = true ∧ s.entry 4 = .key { master with cellA := blankCell, serving := none }) ∧
    (let s := withCells readyCell (drainingCell 1) none
     s.quiet .cp = true ∧ s.entry 4 = .key { master with cellA := readyCell, cellB := drainingCell 1, serving := none } ∧
       readyCell.state = .ready ∧ (drainingCell 1).state = .draining) ∧
    (let s := withCells (inService 5) formingCell (some .a)
     s.quiet .cp = true ∧ s.entry 4 = .key { master with cellB := formingCell } ∧ formingCell.state = .forming ∧
       (inService 5).state = .serving) := by decide +kernel

theorem witness_SwapCellPutsAReadyCellIntoService :
    (bench.quiet .cp = true ∧ 127 < 128 ∧ 255 ≤ 255 ∧ bench.entry 127 = .empty) ∧
    (let s := withCells (inService 5) readyCell (some .a)
     s.quiet .cp = true ∧ 4 ≤ 127 ∧ s.entry 4 = .key { master with cellB := readyCell } ∧
       ({ master with cellB := readyCell }.cell CellId.a.other).state = .ready) ∧
    (let s := withCells blankCell readyCell none
     s.quiet .cp = true ∧ s.entry 4 = .key { master with cellA := blankCell, cellB := readyCell, serving := none } ∧
       blankCell.state ≠ .ready) ∧
    (let s := withCells readyCell readyCell none
     s.quiet .cp = true ∧ s.entry 4 = .key { master with cellA := readyCell, cellB := readyCell, serving := none }) ∧
    (bench.quiet .cp = true ∧ bench.entry 4 = .key master ∧ master.serving = some .a ∧
      (master.cell CellId.a.other).state ≠ .ready) ∧
    (let s := withCells blankCell formingCell none
     s.entry 4 = .key { master with cellA := blankCell, cellB := formingCell, serving := none } ∧
       blankCell.state ≠ .ready ∧ formingCell.state ≠ .ready) := by decide +kernel

theorem witness_BindPortReplacesBindingAndClampsDeficit :
    (bench.quiet .cp = true ∧ 1 ≤ 3 ∧ 3 ≤ 3 ∧ [0, 15] = allDomains.filter [0, 15].contains ∧ 127 ≤ 127 ∧ 1 ≤ 128 ∧
      127 + 1 ≤ 128 ∧ 1 ≤ 8 ∧ 8 ≤ 8 ∧ 255 ≤ 255 ∧ (bindBody .l3 ⟨3, [0, 15], 127, 1, 8, 255⟩).length = 22 ∧
      (List.replicate 22 (4 : Byte)).length = 22) ∧
    ∀ l b, List.replicate 22 (4 : Byte) ≠ bindBody l b := by
  refine ⟨by decide +kernel, fun l b h => ?_⟩
  have := congrArg List.head? h
  cases l <;> exact absurd this (by simp [bindBody, List.replicate, lineCode])

theorem witness_BeginCeremonyFormsTheCell :
    (bench.quiet .cp = true ∧ 127 < 128 ∧ (2 : Byte) ≠ 0x00 ∧ (2 : Byte) ≠ 0x01 ∧ 4 ≤ 127 ∧ bench.ceremony = none ∧
      bench.entry 127 = .empty ∧ bench.entry 4 = .key master ∧ (master.cell .a).state ≠ .blank ∧
      (master.cell .b).state = .blank ∧ 1 < 2 ∧ 5 < 6 ∧ 2 ≤ 5 ∧ 5 ≤ 5 ∧ [(0 : Byte), 0, 1].length = 3 ∧
      checkBytes 1 = [0, 0, 1]) ∧
    (let s := bench.setCeremony ceremony
     s.quiet .cp = true ∧ s.ceremony ≠ none) := by decide +kernel

theorem witness_OpenBatchBeginsANewRun :
    (bench.quiet .cp = true ∧ 31 < 32 ∧ 31 ≤ 31 ∧ (bench.batch 31).state = .unused ∧ 15 ≤ 15 ∧ 15 < 16 ∧ 1 ≤ 8192 ∧
      8192 ≤ 8192 ∧ 8192 < 8193 ∧ 255 ≤ 255 ∧ 4294959104 + 8192 - 1 ≤ 4294967295 ∧ 4294967295 < 4294959105 + 8192 - 1 ∧
      (List.replicate 12 (0x41 : Byte)).length = 12 ∧ (bench.batch 7).state ≠ .unused ∧ (bench.batch 7).state ≠ .closed) ∧
    ((batchIn .closed 0).batch 7).state = .closed := by decide +kernel

theorem witness_BatchStatesFollowTheCustodyRequests :
    (bench.quiet .cp = true ∧ 31 < 32 ∧ 255 ≤ 255 ∧ 7 ≤ 31 ∧ (bench.batch 7).state = .opened ∧
      (bench.batch 7).freshRes + (bench.batch 7).reissueRes = 0) ∧
    (31 ≤ 31 ∧ (bench.batch 31).state ≠ .opened ∧ (bench.batch 31).state ≠ .paused ∧ (bench.batch 31).state ≠ .suspended ∧
      (bench.batch 31).state = .unused) ∧
    ((batchIn .paused 1).quiet .cp = true ∧ ((batchIn .paused 1).batch 7).state = .paused ∧
      0 < ((batchIn .paused 1).batch 7).freshRes + ((batchIn .paused 1).batch 7).reissueRes) ∧
    ((batchIn .suspended 0).quiet .cp = true ∧ ((batchIn .suspended 0).batch 7).state = .suspended) := by decide +kernel

theorem witness_StatusReturnsAndRemovesNotices : State.reset.quiet .cp = true := by decide +kernel

theorem witness_ClearLockoutReturnsToOperating :
    (State.reset.quiet .cp = true ∧ State.reset.mode = .lockout ∧ (∀ l, State.reset.tamperPins.get l = false) ∧
      State.reset.noHeads = true) ∧
    (let s := { State.reset with tamperPins := ⟨false, false, false, true⟩ }
     s.quiet .cp = true ∧ s.mode = .lockout ∧ ∃ l, s.tamperPins.get l = true) ∧
    (bench.quiet .cp = true ∧ bench.mode = .operating) :=
  ⟨⟨by decide +kernel, rfl, fun l => by cases l <;> rfl, by decide +kernel⟩,
    ⟨by decide +kernel, rfl, .supply, rfl⟩, by decide +kernel, rfl⟩

/-- L1 can have position 9 of batch 7, FRESH. -/
theorem bench_deriveFits : bench.deriveFits .l1 7 500009 36 40 [0, 1, 2] (4, .a) (40, .b) .fresh :=
  ⟨by unfold State.deriveNames; decide +kernel, rfl, rfl, by decide +kernel, .inl rfl⟩

/-- L1 asks for position 9, FRESH or SPOILT, of batch 7, with slot 0 free, or slot 14 alone. -/
theorem witness_DeriveAdmissionMakesAJob :
    (bench.quiet (.line .l1) = true ∧ bench.mode = .operating ∧
      bench.deriveFits .l1 7 500009 36 40 [0, 1, 2] (4, .a) (40, .b) .fresh ∧ bench.slotFor .l1 0) ∧
    (let s := withPos bench 9 .spoilt 1 0 0
     s.quiet (.line .l1) = true ∧ s.deriveFits .l1 7 500009 36 40 [0, 1, 2] (4, .a) (40, .b) .spoilt) ∧
    (let s := (crowded 4).setJob 14 none
     s.quiet (.line .l1) = true ∧ s.slotFor .l1 14) := by
  refine ⟨⟨by decide +kernel, rfl, bench_deriveFits, ?_⟩,
    ⟨by decide +kernel, ?_, rfl, rfl, by decide +kernel, .inr ⟨rfl, by decide +kernel⟩⟩, by decide +kernel, ?_⟩
  · unfold State.slotFor; decide +kernel
  · unfold State.deriveNames; decide +kernel
  · unfold State.slotFor; decide +kernel

theorem witness_DeriveRefusedOrWaits_access :
    bench.accessCheck .l2 36 .derive (some 7) = .error ⟨.rank, some 36, .direct⟩ ∧
    bench.accessCheck .l1 41 .wrap (some 7) = .error ⟨.rank, some 41, .direct⟩ ∧
    (∀ s ∈ [bench, withPos bench 9 .issued 1 0 0, withPos bench 9 .spoilt 3 0 2, crowded 5, crowded 4],
      s.accessCheck .l1 36 .derive (some 7) = .ok (4, .a) ∧ s.accessCheck .l1 40 .wrap (some 7) = .ok (40, .b)) := by
  refine ⟨rfl, rfl, fun s hs => ?_⟩
  simp only [List.mem_cons, List.not_mem_nil, or_false] at hs
  rcases hs with rfl | rfl | rfl | rfl | rfl <;> exact ⟨rfl, rfl⟩

theorem witness_DeriveRefusedOrWaits :
    (bench.quiet (.line .l1) = true ∧ bench.quiet (.line .l2) = true ∧ bench.mode = .operating ∧ 31 < 32 ∧ 127 < 128 ∧
      (∃ x ∈ [(0 : Byte), 2, 0], x ≠ 0x00 ∧ x ≠ 0x01) ∧ (∀ x ∈ [(0 : Byte), 0, 0], x = 0x00) ∧
      (∀ x ∈ [(0 : Byte), 0, 1], x = 0x00 ∨ x = 0x01) ∧ (∃ x ∈ [(0 : Byte), 0, 1], x = 0x01) ∧
      (bench.batch 11).domain ∉ (bench.binding .l2).domains ∧ (bench.batch 7).domain ∈ (bench.binding .l2).domains ∧
      (bench.batch 7).domain ∈ (bench.binding .l1).domains ∧ ((batchIn .paused 0).batch 7).state ≠ .opened ∧
      (bench.batch 7).state = .opened ∧ 499999 < (bench.batch 7).first ∧
      (bench.batch 7).first + (bench.batch 7).quantity ≤ 500010 ∧ (bench.batch 7).first ≤ 500000 ∧
      500009 < (bench.batch 7).first + (bench.batch 7).quantity) ∧
    (let s := withPos bench 9 .issued 1 0 0
     s.quiet (.line .l1) = true ∧ s.mode = .operating ∧ (s.batch 7).state = .opened ∧ (s.batch 7).first ≤ 500009 ∧
       500009 < (s.batch 7).first + (s.batch 7).quantity ∧ (s.batch 7).map[500009 - (s.batch 7).first]? = some .issued) ∧
    (let s := withPos bench 9 .spoilt 3 0 2
     s.quiet (.line .l1) = true ∧ (s.batch 7).map[500009 - (s.batch 7).first]? = some .spoilt ∧
       (s.batch 7).allowance ≤ (s.batch 7).reissued + (s.batch 7).reissueRes) ∧
    ((crowded 5).quiet (.line .l1) = true ∧ ((crowded 5).batch 7).map[500009 - ((crowded 5).batch 7).first]? = some .fresh ∧
      5 ≤ ((crowded 5).liveOf (.line .l1)).length) ∧
    ((crowded 4).quiet (.line .l1) = true ∧ ((crowded 4).batch 7).map[500009 - ((crowded 4).batch 7).first]? = some .fresh ∧
      ((crowded 4).liveOf (.line .l1)).length < 5 ∧ ∀ i, i < 15 → ((crowded 4).job i).isSome) := by decide +kernel

theorem witness_StreamOpenMakesAnIdleStream :
    (bench.quiet (.line .l2) = true ∧ bench.mode = .operating ∧ 127 < 128 ∧ 255 ≤ 255 ∧ 44 ≤ 127 ∧ 45 ≤ 127 ∧ 1 ≤ 65535 ∧
      65535 ≤ 65535 ∧ bench.slotFor .l2 0) ∧
    (let s := (crowded 4).setJob 14 none
     s.quiet (.line .l2) = true ∧ s.slotFor .l2 14) ∧
    ((crowded 0).quiet (.line .l2) = true ∧ ((crowded 0).liveOf (.line .l2)).length < 5 ∧
      ∀ i, i < 15 → ((crowded 0).job i).isSome) ∧
    (let s := (crowded 0).setLive (.line .l2) [0, 1, 2, 3, 4]
     s.quiet (.line .l2) = true ∧ 5 ≤ (s.liveOf (.line .l2)).length) := by
  unfold State.slotFor
  decide +kernel

theorem witness_StreamOpenMakesAnIdleStream_cells :
    bench.accessCheck .l2 45 .decryptIn none = .error ⟨.use, some 45, .direct⟩ ∧
    bench.accessCheck .l2 41 .encryptOut none = .error ⟨.rank, some 41, .direct⟩ ∧
    (∀ s ∈ [bench, (crowded 4).setJob 14 none, crowded 0, (crowded 0).setLive (.line .l2) [0, 1, 2, 3, 4]],
      s.accessCheck .l2 44 .decryptIn none = .ok (44, .a) ∧ s.accessCheck .l2 45 .encryptOut none = .ok (45, .b)) := by
  refine ⟨rfl, rfl, fun s hs => ?_⟩
  simp only [List.mem_cons, List.not_mem_nil, or_false] at hs
  rcases hs with rfl | rfl | rfl | rfl <;> exact ⟨rfl, rfl⟩

theorem witness_StreamChunkEntersServiceOrIsStaged :
    let one := some (newChunk 21 [1, 2, 3, 4])
    let two := some (newChunk 22 [5, 6, 7, 8])
    (bench.quiet (.line .l2) = true ∧ bench.mode = .operating ∧ 9 < 15 ∧ 1 ≤ [(1 : Block)].length ∧
      [(1 : Block)].length ≤ 4 ∧ ([] : List Block).length = 0 ∧ [(1 : Block), 2, 3, 4, 5].length = 5 ∧ 15 ≤ 15 ∧
      bench.job 14 = none) ∧
    ((streaming .idle 0 none none (some 30)).quiet (.line .l1) = true ∧
      (streaming .idle 0 none none (some 30)).quiet (.line .l2) = true ∧
      (streaming .idle 0 none none (some 30)).job 9 = some (streamJob .idle 0 none none (some 30)) ∧
      (streamJob .idle 0 none none (some 30)).owner ≠ .line .l1) ∧
    (let s := streaming .waiting 0 one none none
     s.quiet (.line .l2) = true ∧ s.job 9 = some (streamJob .waiting 0 one none none) ∧ JobState.waiting ≠ .idle ∧
       (⟨17, 1, 2, 10, 0, one, none, none, none⟩ : StreamCtx).accepted + [(1 : Block), 2, 3, 4].length ≤ 10) ∧
    (let s := streaming .waiting 0 one two none
     s.quiet (.line .l2) = true ∧ s.job 9 = some (streamJob .waiting 0 one two none) ∧
       (⟨17, 1, 2, 10, 0, one, two, none, none⟩ : StreamCtx).accepted + [(1 : Block), 2].length ≤ 10 ∧
       10 < (⟨17, 1, 2, 10, 0, one, two, none, none⟩ : StreamCtx).accepted + [(1 : Block), 2, 3].length) := by decide +kernel

theorem witness_StreamsEndByCloseOrIdleExpiry :
    let one := some (newChunk 21 [1, 2, 3, 4])
    (bench.quiet (.line .l2) = true ∧ bench.mode = .operating ∧ 255 ≤ 255 ∧ 15 ≤ 15 ∧ bench.job 14 = none) ∧
    (let s := streaming .inGrant 0 one none none
     9 < 15 ∧ s.job 9 = some (streamJob .inGrant 0 one none none) ∧ s.waitList = [] ∧ s.tries = [] ∧
       s.quiet (.line .l2) = true ∧ s.quiet (.line .l1) = true ∧ s.mode = .operating ∧ JobState.inGrant ≠ .idle) ∧
    (let s := streaming .waiting 0 one none none
     s.job 9 = some (streamJob .waiting 0 one none none) ∧ s.quiet (.line .l2) = true ∧ JobState.waiting ≠ .inGrant ∧
       2 ≤ (s.port (.line .l2)).reserved + 1) ∧
    (let s := streaming .idle 0 none none (some 30)
     s.job 9 = some (streamJob .idle 0 none none (some 30)) ∧ s.noHeads = true ∧ 30 ≠ 0 ∧
       1 ≤ (s.port (.line .l2)).reserved + 1) ∧
    (let s := streaming .idle 0 none none (some 0)
     s.job 9 = some (streamJob .idle 0 none none (some 0)) ∧ s.noHeads = true) := by decide +kernel

/-- Every other line slot is taken, and the heads of `heads` wait, each for its own thing, behind the ports of `waitList`. -/
def contended (waitList : List LinePort) (heads : List (LinePort × Request × HeadWait × Nat)) : State :=
  let s := { ((crowded 0).capture 44 .a).capture 45 .b with waitList := waitList }
  heads.foldl (fun s h => s.setPort (.line h.1) { s.port (.line h.1) with
      requests := [h.2.1], wait := h.2.2.1, occupied := List.replicate h.2.2.2 response })
    ((s.setJob 9 (some (streamJob .idle 0 none none (some 30)))).setLive (.line .l2) [9])

/-- The DERIVE of position 9 that L1 may have, and the one that R37 refuses it. -/
def wanted (m : Nat) : Request := ⟨0x01, 7, deriveBody 7 500009 m 40 [0, 1, 2]⟩

/-- L1 has a frame in progress that places an urgent CANCEL above a DERIVE that waits, with `n` live jobs. -/
def displacing (n occupied : Nat) : State :=
  let s := crowded n
  s.setPort (.line .l1) { s.port (.line .l1) with
    frame := .placing [0x08], selectLow := true, requests := [wanted 36, placed], occupied := List.replicate occupied response
    wait := .quota }

theorem witness_FrameEndPlacesOrDiscards_displaced :
    ∀ n ∈ [4, 5],
      let s := displacing n 14
      s.tries = [] ∧ (s.port (.line .l1)).frame = .placing [0x08] ∧ s.admitting = true ∧ s.mode = .operating ∧
        (s.liveOf (.line .l1)).find? (s.cancelTarget 9) = none ∧ (s.port (.line .l1)).requests = wanted 36 :: [placed] ∧
        (s.port (.line .l1)).occupied.length + (s.port (.line .l1)).reserved < 15 ∧ (s.liveOf (.line .l1)).length = n ∧
        (∀ i, i < 15 → (s.job i).isSome) ∧ s.deriveFits .l1 7 500009 36 40 [0, 1, 2] (4, .a) (40, .b) .fresh := by
  intro n hn
  simp only [List.mem_cons, List.not_mem_nil, or_false] at hn
  rcases hn with rfl | rfl <;>
    refine ⟨rfl, rfl, by decide +kernel, rfl, by decide +kernel, rfl, by decide +kernel, by decide +kernel, by decide +kernel,
      ?_, rfl, rfl, by decide +kernel, .inl rfl⟩ <;>
    unfold State.deriveNames <;> decide +kernel

/-- Where every port is in `ps` or has no request, a port outside `ps` has none. -/
theorem noRequests_of {s : State} {ps : List Port} (h : ∀ p ∈ allPorts, p ∈ ps ∨ (s.port p).requests = []) :
    ∀ p, p ∉ ps → (s.port p).requests = [] := by
  intro p hp
  have : p ∈ allPorts := by rcases p with l | _ <;> (try cases l) <;> decide
  exact (h p this).resolve_left hp

/-- The heads that the end of the stream in slot 9 offers that slot to: L1 alone on the list; L2, whose quota it frees; L1 behind
L0, which has no response entry; and L1 with a DERIVE that is refused. -/
theorem witness_StreamsEndByCloseOrIdleExpiry_offers :
    (let s := contended [.l1] [(.l1, wanted 36, .slot, 0)]
     let ended := State.jobGone s 9 (streamJob .idle 0 none none (some 30))
     s.job 9 = some (streamJob .idle 0 none none (some 30)) ∧ s.tries = [] ∧ s.mode = .operating ∧
       s.onlyHead (.line .l1) (wanted 36) ∧ ended.slotFor .l1 9 ∧
       ended.deriveFits .l1 7 500009 36 40 [0, 1, 2] (4, .a) (40, .b) .fresh) ∧
    (let s := ((contended [] [(.l2, wanted 36, .quota, 0)]).setBinding .l2 (bench.binding .l1)).setLive (.line .l2) [9, 1, 2, 3, 4]
     let ended := State.jobGone s 9 (streamJob .idle 0 none none (some 30))
     s.job 9 = some (streamJob .idle 0 none none (some 30)) ∧ s.waitList = [] ∧
       (streamJob .idle 0 none none (some 30)).owner = .line .l2 ∧ (s.port (.line .l2)).wait = .quota ∧
       s.onlyHead (.line .l2) (wanted 36) ∧ ended.slotFor .l2 9 ∧
       ended.deriveFits .l2 7 500009 36 40 [0, 1, 2] (4, .a) (40, .b) .fresh) ∧
    (let s := contended [.l0, .l1] [(.l0, wanted 36, .slot, 16), (.l1, wanted 36, .slot, 0)]
     let ended := State.jobGone s 9 (streamJob .idle 0 none none (some 30))
     LinePort.l0 ≠ .l1 ∧ s.waitList = [.l0, .l1] ∧ s.admitting = true ∧ (s.port (.line .l0)).requests = [wanted 36] ∧
       needsSlot (.line .l0) (wanted 36) = true ∧ (s.port (.line .l0)).responsesFull = true ∧
       (s.port (.line .l1)).requests = [wanted 36] ∧ (s.port (.line .l1)).responsesFull = false ∧
       (∀ p, p ≠ .line .l0 → p ≠ .line .l1 → (s.port p).requests = []) ∧ ended.slotFor .l1 9 ∧
       ended.deriveFits .l1 7 500009 36 40 [0, 1, 2] (4, .a) (40, .b) .fresh) ∧
    (let s := contended [.l1] [(.l1, wanted 41, .slot, 0)]
     let ended := State.jobGone s 9 (streamJob .idle 0 none none (some 30))
     s.onlyHead (.line .l1) (wanted 41) ∧ s.waitList = [.l1] ∧ ended.deriveNames .l1 7 500009 41 40 [0, 1, 2] ∧
       ended.accessCheck .l1 41 .derive (some 7) = .error ⟨.rank, some 41, .direct⟩) := by
  refine ⟨⟨by decide +kernel, rfl, rfl, ⟨by decide +kernel, rfl, by decide +kernel, ?_⟩, ?_, ?_, rfl, rfl, by decide +kernel,
      .inl rfl⟩,
    ⟨by decide +kernel, rfl, rfl, rfl, ⟨by decide +kernel, rfl, by decide +kernel, ?_⟩, ?_, ?_, rfl, rfl, by decide +kernel,
      .inl rfl⟩,
    ⟨by decide, rfl, by decide +kernel, rfl, by decide +kernel, by decide +kernel, rfl, by decide +kernel, ?_, ?_, ?_, rfl, rfl,
      by decide +kernel, .inl rfl⟩,
    ⟨⟨by decide +kernel, rfl, by decide +kernel, ?_⟩, rfl, ?_, rfl⟩⟩
  all_goals first
    | exact fun q hq => noRequests_of (ps := [.line .l1]) (by decide +kernel) q (by simpa using hq)
    | exact fun q hq => noRequests_of (ps := [.line .l2]) (by decide +kernel) q (by simpa using hq)
    | exact fun q h0 h1 => noRequests_of (ps := [.line .l0, .line .l1]) (by decide +kernel) q (by simp [h0, h1])
    | (unfold State.slotFor; decide +kernel)
    | (unfold State.deriveNames; decide +kernel)

theorem witness_CancelEndsOrFlagsTheOldestJob :
    (bench.quiet (.line .l1) = true ∧ bench.mode = .operating ∧
      (bench.liveOf (.line .l1)).find? (bench.cancelTarget 40) = none) ∧
    (let s := keying .inGrant [0] 0 []
     s.quiet (.line .l1) = true ∧ (s.liveOf (.line .l1)).find? (s.cancelTarget 40) = some 3 ∧
       s.job 3 = some (deriveJob .inGrant [0] 0 [])) ∧
    (let s := (keying .inGrant [0] 0 []).setJob 3 (some { deriveJob .inGrant [0] 0 [] with cancelPending := true })
     s.quiet (.line .l1) = true ∧ (s.liveOf (.line .l1)).find? (s.cancelTarget 40) = some 3 ∧
       s.job 3 = some { deriveJob .inGrant [0] 0 [] with cancelPending := true }) ∧
    (let s := keying .waiting [0] 0 []
     s.quiet (.line .l1) = true ∧ (s.liveOf (.line .l1)).find? (s.cancelTarget 40) = some 3 ∧
       s.job 3 = some (deriveJob .waiting [0] 0 []) ∧ s.waitList = [] ∧ 1 ≤ (s.port (.line .l1)).reserved) ∧
    (let s := inCeremony ceremony (custodyJobOf .waiting .component false)
     s.quiet .cp = true ∧ (s.liveOf .cp).find? (s.cancelTarget 3) = some 15 ∧
       s.job 15 = some (custodyJobOf .waiting .component false) ∧ s.waitList = [] ∧ 1 ≤ (s.port .cp).reserved) ∧
    (let s := inCeremony { ceremony with combining := true } (custodyJobOf .waiting .combination false)
     s.quiet .cp = true ∧ (s.liveOf .cp).find? (s.cancelTarget 3) = some 15 ∧
       s.job 15 = some (custodyJobOf .waiting .combination false) ∧ 1 ≤ (s.port .cp).reserved) := by decide +kernel

theorem witness_ComponentMakesTheCustodyJob :
    (bench.quiet .cp = true ∧ 255 ≤ 255 ∧ bench.ceremony = none) ∧
    (let s := bench.setCeremony { ceremony with combining := true }
     s.quiet .cp = true ∧ s.ceremony = some { ceremony with combining := true }) ∧
    (let s := bench.setCeremony ceremony
     s.quiet .cp = true ∧ s.ceremony = some ceremony ∧ 15 < 16 ∧ (∃ x ∈ ceremony.received, x.1 = 2) ∧
       (∀ x ∈ ceremony.received, x.1 ≠ 15) ∧ 15 ≤ 15 ∧ (0xC2 : Block) ∈ ceremony.retained ∧
       (0xC5 : Block) ∉ ceremony.retained ∧ (0xC5 : Block) ≠ 0 ∧ s.job 15 = none) ∧
    (let s := inCeremony ceremony (custodyJobOf .inGrant .component false)
     s.quiet .cp = true ∧ s.ceremony = some ceremony ∧ s.job 15 ≠ none) := by decide +kernel

theorem witness_AbandonCeremonyClosesTheRecord :
    (bench.quiet .cp = true ∧ bench.ceremony = none) ∧
    (let s := bench.setCeremony ceremony
     s.quiet .cp = true ∧ s.ceremony = some ceremony ∧ s.job 15 = none) ∧
    (let s := inCeremony ceremony (custodyJobOf .inGrant .component true)
     s.quiet .cp = true ∧ s.ceremony = some ceremony ∧ s.job 15 = some (custodyJobOf .inGrant .component true)) ∧
    (let s := inCeremony ceremony (custodyJobOf .inGrant .component false)
     s.quiet .cp = true ∧ s.job 15 = some (custodyJobOf .inGrant .component false)) ∧
    (let s := inCeremony ceremony (custodyJobOf .waiting .component false)
     s.quiet .cp = true ∧ s.job 15 = some (custodyJobOf .waiting .component false) ∧ 1 ≤ (s.port .cp).reserved) ∧
    (combinationWait.quiet .cp = true ∧ combinationWait.job 15 = some (custodyJobOf .waiting .combination false) ∧
      1 ≤ (combinationWait.port .cp).reserved) := by
  decide +kernel

theorem witness_ZeroiseAllEntersZeroising :
    (bench.quiet .cp = true ∧ (∀ x ∈ bench.causes, x ∈ allCauses) ∧
      State.reset.quiet .cp = true ∧ ∀ x ∈ State.reset.causes, x ∈ allCauses) ∧
    ∀ n j, (keying .waiting [0] 0 []).job n = some j → j.owner ≠ .cp := by
  refine ⟨by decide +kernel, fun n j hj => ?_⟩
  by_cases h : n < 16
  · have all : ∀ m, m < 16 → (keying .waiting [0] 0 []).job m = none ∨
        (keying .waiting [0] 0 []).job m = some (deriveJob .waiting [0] 0 []) := by decide +kernel
    rcases all n h with h | h
    · rw [h] at hj; cases hj
    · rw [h] at hj; cases hj; decide
  · simp [State.job, h] at hj

theorem witness_GrantSizeFollowsPassesDone :
    ((deriveJob .waiting [0, 1, 2] 8 []).passesDone = 8 ∧ (deriveJob .waiting [0, 1, 2] 8 []).unitPasses = 9 ∧
      (deriveJob .waiting [0, 1, 2] 4 []).passesDone = 4 ∧ (deriveJob .waiting [0, 1] 4 []).unitPasses = 6 ∧
      (deriveJob .waiting [0, 1] 5 []).passesDone = 5 ∧ (deriveJob .waiting [0] 0 []).unitPasses = 3 ∧
      (deriveJob .waiting [0] 0 []).passesDone = 0) ∧
    ((streamJob .waiting 0 (some (newChunk 21 [1])) none none).unitPasses = 2 ∧
      (streamJob .waiting 0 (some { newChunk 21 [1, 2, 3, 4] with done := 4 }) none none).unitPasses = 8 ∧
      (streamJob .waiting 0 (some { newChunk 21 [1, 2, 3, 4] with done := 4 }) none none).passesDone = 4) ∧
    (custodyJobOf .waiting .component false).unitPasses = 1 := by decide +kernel

theorem witness_ArbiterDecidesByRotation :
    (let s := inCeremony ceremony (custodyJobOf .waiting .component false)
     s.engine = none ∧ s.job 15 = some (custodyJobOf .waiting .component false)) ∧
    (bench.engine = none ∧ bench.job 15 = none ∧ ∀ l ∈ allLines, bench.oldestWaiting (.line l) = none) ∧
    (let s := { (keying .waiting [0, 1, 2] 0 []).setDeficit .l1 4 with pointer := .l1 }
     s.engine = none ∧ s.job 15 = none ∧ s.oldestWaiting (.line s.pointer) = some 3 ∧
       s.job 3 = some (deriveJob .waiting [0, 1, 2] 0 []) ∧ (deriveJob .waiting [0, 1, 2] 0 []).grantSize ≤ s.deficit s.pointer) ∧
    (let s := { (keying .waiting [0, 1, 2] 0 []).setDeficit .l1 3 with pointer := .l1 }
     s.engine = none ∧ s.deficit s.pointer < (deriveJob .waiting [0, 1, 2] 0 []).grantSize ∧
       s.oldestWaiting (.line s.pointer) = some 3 ∧ s.job 3 = some (deriveJob .waiting [0, 1, 2] 0 []) ∧
       (rotationFrom s.pointer).find? (fun x => (s.oldestWaiting (.line x)).isSome) = some .l1 ∧
       1 ≤ (s.binding .l1).weight) ∧
    (let s := keying .waiting [0, 1, 2] 0 []
     s.oldestWaiting (.line s.pointer) = none ∧
       (rotationFrom s.pointer).find? (fun x => (s.oldestWaiting (.line x)).isSome) = some .l1) := by decide +kernel

/-- The card key of index 0 with all three of its results. -/
def cardKey : CardKey := ⟨0, 1, some 2, some 3⟩

theorem witness_GrantEndMovesOrCompletesADerive :
    (let j := deriveJob .inGrant [0] 1 [⟨0, 1, none, none⟩]
     let s := granted (keying .inGrant [0] 1 [⟨0, 1, none, none⟩]) 3 1 [2]
     s.engine = some (grantIn s 3 1 [2]) ∧ s.job 3 = some j ∧ s.tries = [] ∧
       (s.recordAll j (s.grantResults j (grantIn s 3 1 [2]))).ctx =
         .derive ⟨7, 4, .fresh, [0], 2, [⟨0, 1, some 0, none⟩]⟩ ∧ 2 < 3 * [0].length) ∧
    (let j := deriveJob .inGrant [0] 2 [⟨0, 1, some 2, none⟩]
     let s := granted (keying .inGrant [0] 2 [⟨0, 1, some 2, none⟩]) 3 1 [3]
     s.engine = some (grantIn s 3 1 [3]) ∧ s.job 3 = some j ∧
       (s.recordAll j (s.grantResults j (grantIn s 3 1 [3]))).ctx = .derive ⟨7, 4, .fresh, [0], 3, [cardKey]⟩ ∧
       3 * [0].length ≤ 3 ∧ s.waitList = [] ∧ s.noHeads = true ∧ 1 ≤ (s.port (.line .l1)).reserved) := by decide +kernel

/-- The DERIVE of L1 in slot 3 at its last pass, with L0, bound as L1 is, on the slot wait list. -/
def handing : State :=
  let s := (keying .inGrant [0] 2 [⟨0, 1, some 2, none⟩]).setBinding .l0 (bench.binding .l1)
  granted { s.setPort (.line .l0) { s.port (.line .l0) with requests := [wanted 36], wait := .slot } with waitList := [.l0] }
    3 1 [3]

/-- What its end leaves, before the freed slot is offered. -/
def handed : State :=
  let s1 := handing.commitPos 7 4
  State.jobGone (s1.setPort (.line .l1) { s1.port (.line .l1) with reserved := 0, occupied := [response] }) 3
    (deriveJob .inGrant [0] 2 [⟨0, 1, some 2, none⟩])

theorem witness_GrantEndMovesOrCompletesADerive_offer :
    handing.engine = some (grantIn handing 3 1 [3]) ∧ handing.mode = .operating ∧ handing.waitList = [.l0] ∧
      handing.onlyHead (.line .l0) (wanted 36) ∧ handed.slotFor .l0 0 ∧
      handed.deriveFits .l0 7 500009 36 40 [0, 1, 2] (4, .a) (40, .b) .fresh := by
  refine ⟨by decide +kernel, rfl, rfl, ⟨by decide +kernel, rfl, by decide +kernel, ?_⟩, ?_, ?_, rfl, rfl, by decide +kernel, .inl rfl⟩
  · exact fun q hq => noRequests_of (ps := [.line .l0]) (by decide +kernel) q (by simpa using hq)
  · unfold State.slotFor; decide +kernel
  · unfold State.deriveNames; decide +kernel

theorem witness_GrantEndMovesAStream :
    (let ch : Chunk := ⟨21, [1, 2, 3, 4], 0, [], []⟩
     let j := streamJob .inGrant 0 (some ch) none none
     let s := granted (streaming .inGrant 0 (some ch) none none) 9 4 [5, 6, 7, 8]
     s.engine = some (grantIn s 9 4 [5, 6, 7, 8]) ∧ s.job 9 = some j ∧ s.tries = [] ∧
       (s.recordAll j (s.grantResults j (grantIn s 9 4 [5, 6, 7, 8]))).ctx =
         .stream ⟨17, 4, 2, 10, 0, some ⟨21, [1, 2, 3, 4], 4, [4, 7, 5, 11], []⟩, none, none, none⟩) ∧
    (let ch : Chunk := ⟨21, [1], 1, [4], []⟩
     let next := some (newChunk 22 [2])
     ∀ done ∈ [0, 9], ∀ staged ∈ [none, next],
       let j := streamJob .inGrant done (some ch) staged none
       let s := granted (streaming .inGrant done (some ch) staged none) 9 1 [6]
       s.engine = some (grantIn s 9 1 [6]) ∧ s.job 9 = some j ∧
         (s.recordAll j (s.grantResults j (grantIn s 9 1 [6]))).ctx =
           .stream ⟨17, 1, 6, 10, done, some ⟨21, [1], 2, [4], [6]⟩, staged, none, none⟩ ∧
         1 ≤ (s.port (.line .l2)).reserved ∧ s.noHeads = true ∧ s.waitList = []) := by decide +kernel

/-- The stream of L2 at the last pass of its chunk, with a chunk staged and a third at the head: 1 + 4 + 4 of 10 blocks. -/
theorem witness_GrantEndMovesAStream_staging :
    let ch : Chunk := ⟨21, [1], 1, [4], []⟩
    let next := newChunk 22 [2, 3, 4, 5]
    let head : Request := ⟨0x04, 23, streamChunkBody 9 17 [6, 7, 8, 9]⟩
    let s0 := streaming .inGrant 0 (some ch) (some next) none
    let s := granted (s0.setPort (.line .l2) { s0.port (.line .l2) with requests := [head], wait := .staging 9 }) 9 1 [6]
    s.job 9 = some (streamJob .inGrant 0 (some ch) (some next) none) ∧ s.mode = .operating ∧ s.tries = [] ∧
      (s.port (.line .l2)).wait = .staging 9 ∧ s.onlyHead (.line .l2) head ∧ 1 ≤ [(6 : Block), 7, 8, 9].length ∧
      [(6 : Block), 7, 8, 9].length ≤ 4 ∧ 0 + 1 + next.blocks.length + [(6 : Block), 7, 8, 9].length ≤ 10 ∧ 0 + 1 ≠ 10 := by
  refine ⟨by decide +kernel, rfl, rfl, rfl, ⟨by decide +kernel, rfl, by decide +kernel, ?_⟩, by decide +kernel⟩
  exact fun q hq => noRequests_of (ps := [.line .l2]) (by decide +kernel) q (by simpa using hq)

theorem witness_GrantEndJoinsAComponent :
    (let j := custodyJobOf .inGrant .component false
     let s := granted (inCeremony ceremony j) 15 1 []
     s.engine = some (grantIn s 15 1 []) ∧ (grantIn s 15 1 []).work = s.passInput j ∧ s.job 15 = some j ∧
       s.ceremony = some ceremony ∧ s.tries = [] ∧ s.noHeads = true ∧
       ceremony.received.length + 1 < ceremony.required ∧ 1 ≤ (s.port .cp).reserved) ∧
    (let cer := { ceremony with required := 2 }
     let s := granted (inCeremony cer (custodyJobOf .inGrant .component false)) 15 1 []
     s.ceremony = some cer ∧ s.noHeads = true ∧ cer.required ≤ cer.received.length + 1) := by decide +kernel

/-- A COMPONENT of custodian 15 waits for slot 15 behind the one of custodian 5. -/
theorem witness_GrantEndJoinsAComponent_next :
    let head : Request := ⟨0x21, 8, componentBody 15 0xC7⟩
    let s0 := inCeremony ceremony (custodyJobOf .inGrant .component false)
    let s := granted (s0.setPort .cp { s0.port .cp with requests := [head], wait := .slot15 }) 15 1 []
    let joined := ceremony.received ++ [(5, firstThree (encipher 0xC5 0))]
    s.ceremony = some ceremony ∧ ceremony.combining = false ∧ (s.port .cp).wait = .slot15 ∧ s.onlyHead .cp head ∧ 1 ≤ 15 ∧
      15 ≤ 15 ∧ (∀ x ∈ joined, x.1 ≠ 15) ∧ (0xC7 : Block) ≠ 0 ∧ (0xC7 : Block) ∉ ceremony.retained ++ [0xC5] := by
  refine ⟨rfl, rfl, rfl, ⟨by decide +kernel, rfl, by decide +kernel, ?_⟩, by decide +kernel⟩
  exact fun q hq => noRequests_of (ps := [.cp]) (by decide +kernel) q (by simpa using hq)

/-- The ceremony at its combination, with a running value and an expected check value. -/
def combining (running : Block) (expected : Option Check) : State :=
  granted (inCeremony { ceremony with combining := true, running := running, expected := expected }
    (custodyJobOf .inGrant .combination false)) 15 1 []

theorem witness_GrantEndCombinesTheComponents :
    (let j := custodyJobOf .inGrant .combination false
     let s := combining 0 none
     s.engine = some (grantIn s 15 1 []) ∧ (grantIn s 15 1 []).work = s.passInput j ∧ s.job 15 = some j ∧
       s.entry 4 = .key { master with cellB := formingCell } ∧ s.tries = [] ∧ s.noHeads = true ∧
       1 ≤ (s.port .cp).reserved ∧ s.ceremony.map Ceremony.running = some 0) ∧
    ((combining 0xC2 (some 1)).ceremony.map Ceremony.running = some 0xC2 ∧ (0xC2 : Block) ≠ 0 ∧
      (1 : Check) ≠ firstThree (encipher 0xC2 0)) ∧
    ((combining 0xC2 none).ceremony.map Ceremony.expected = some none ∧
      (combining 0xC2 (some (firstThree (encipher 0xC2 0)))).ceremony.map Ceremony.expected =
        some (some (firstThree (encipher 0xC2 0)))) := by decide +kernel

/-- A CUSTODY job that a deferred ABANDON-CEREMONY with tag 6 cancels. -/
def abandoned : Job := ⟨.cp, 3, .inGrant, [(4, .b)], true, .custody ⟨5, 0xC5, .component, some 6⟩⟩

/-- The stream of L2 with a chunk in service and one staged, to be closed by the STREAM-CLOSE with tag 24. -/
def closingStream : Job :=
  ⟨.line .l2, 20, .inGrant, [(44, .a), (45, .b)], true,
    .stream ⟨17, 1, 2, 10, 0, some (newChunk 21 [1]), some (newChunk 22 [2]), none, some 24⟩⟩

theorem witness_GrantEndOfACancelledDeriveReleases :
    (let j := { deriveJob .inGrant [0] 1 [] with cancelPending := true }
     let s := granted ((keying .inGrant [0] 1 []).setJob 3 (some j)) 3 1 []
     s.engine = some (grantIn s 3 1 []) ∧ s.job 3 = some j ∧ 3 < 15 ∧ s.tries = [] ∧ s.waitList = [] ∧ s.noHeads = true ∧
       1 ≤ (s.port (.line .l1)).reserved) ∧
    (let s0 := (streaming .inGrant 0 (some (newChunk 21 [1])) (some (newChunk 22 [2])) none).setJob 9 (some closingStream)
     let s := granted (s0.setPort (.line .l2) { s0.port (.line .l2) with reserved := 3 }) 9 1 []
     s.engine = some (grantIn s 9 1 []) ∧ s.job 9 = some closingStream ∧ 9 < 15 ∧ s.tries = [] ∧ s.waitList = [] ∧
       s.noHeads = true ∧ 3 ≤ (s.port (.line .l2)).reserved) ∧
    (∀ due ∈ [CustodyPass.component, .combination],
      let s := granted (inCeremony ceremony (custodyJobOf .inGrant due true)) 15 1 []
      s.engine = some (grantIn s 15 1 []) ∧ s.job 15 = some (custodyJobOf .inGrant due true) ∧ s.waitList = [] ∧
        s.noHeads = true ∧ 1 ≤ (s.port .cp).reserved) ∧
    (let s0 := inCeremony ceremony abandoned
     let s := granted (s0.setPort .cp { s0.port .cp with reserved := 2 }) 15 1 []
     s.engine = some (grantIn s 15 1 []) ∧ s.job 15 = some abandoned ∧ s.ceremony = some ceremony ∧ s.noHeads = true ∧
       2 ≤ (s.port .cp).reserved) := by decide +kernel

theorem witness_PortResetEmptiesThePort :
    bench.alive = true ∧ (bench.port .cp).resetIn = false ∧ bench.tries = [] ∧ bench.liveOf .cp = [] ∧
      bench.grantOwnedBy .cp = false ∧ (bench.port (.line .l3)).resetIn = false ∧ bench.liveOf (.line .l3) = [] ∧
      bench.grantOwnedBy (.line .l3) = false := by decide +kernel

theorem witness_TamperEventEntersZeroising :
    (bench.alive = true ∧ bench.sweep = .idle ∧ bench.tamperPins.get .supply = false ∧ bench.mode = .operating ∧
      ∀ x ∈ bench.causes, x ∈ allCauses) ∧
    (State.reset.alive = true ∧ State.reset.mode = .lockout ∧ ∀ x ∈ State.reset.causes, x ∈ allCauses) ∧
    (let s := after .mainPowerLoss (keying .waiting [0] 0 [])
     s.mainPower = false ∧ s.holdingLost = false ∧ s.sweep = .idle ∧ s.mode = .operating ∧ s.tamperPins.get .mesh = false) ∧
    (let s := after .mainReset State.reset
     s.mainPower = true ∧ s.resetHeld = true ∧ s.sweep = .idle ∧ s.mode = .lockout) ∧
    ({ bench with sweep := .running .power }.sweep = .running .power ∧
      { bench with sweep := .clearing .power }.sweep = .clearing .power ∧ bench.mainPower = true ∧
      bench.holdingLost = false) := by decide +kernel

theorem witness_TamperEventIsOnlyRecordedInZeroising :
    { bench with tamperPins := ⟨true, false, false, false⟩ }.tamperPins.get .enclosure = true ∧
    ((zeroising 0).tamperPins.get .mesh = false ∧ (zeroising 0).sweep = .idle ∧ (zeroising 0).mode = .zeroising ∧
      (zeroising 0).alive = true) ∧
    (let s := { zeroising 0 with mainPower := false }
     s.tamperPins.get .mesh = false ∧ s.mode = .zeroising ∧ s.holdingLost = false) ∧
    (let s := after .mainReset (zeroising 0)
     s.tamperPins.get .mesh = false ∧ s.sweep = .idle ∧ s.mode = .zeroising ∧ s.mainPower = true ∧ s.resetHeld = true) ∧
    { zeroising 0 with sweep := .due .power }.sweep = .due .power ∧ { zeroising 3 with mode := .failed }.mode = .failed := by
  decide +kernel

theorem witness_ReadBackEndsTheZeroisation :
    (∀ n ∈ [0, 1, 2], ∀ sweep ∈ [Sweep.idle, .due .power, .clearing .resetLine],
      let s := { zeroising n with sweep := sweep }
      s.zeroRun = some n ∧ s.alive = true ∧ s.tries = [] ∧ s.noHeads = true ∧ s.zeroTag.isSome = true ∧
        1 ≤ (s.port .cp).reserved ∧ s.heldTamper = [] ∧ s.battery = .good) ∧
    (∀ c ∈ [Instr.mainPowerLoss, .mainReset],
      let s := after c (zeroising 2)
      s.zeroRun = some 2 ∧ s.alive = false ∧ s.tries = [] ∧ s.noHeads = true ∧ s.sweep = .idle ∧ s.mode = .zeroising) ∧
    SweepCause.resetLine ≠ .storeLost ∧ 1 + 1 < 3 ∧ 3 ≤ 2 + 1 := by decide +kernel

theorem witness_BatteryAndStoreLevelsActOnTheirState :
    (bench.alive = true ∧ bench.sweep = .idle ∧ bench.battery = .good ∧ { bench with battery := .low }.battery = .low) ∧
    ({ bench with resetHeld := true }.alive = false ∧ { bench with sweep := .running .power }.sweep ≠ .idle) ∧
    (bench.mainPower = true ∧ { bench with mainPower := false }.mainPower = false ∧ bench.holdingLost = false ∧
      { bench with mainPower := false, holdingLost := true }.holdingLost = true ∧ bench.tamperPins.get .mesh = false) := by
  decide +kernel

theorem witness_PowerLossAndMainResetTakeVolatileState :
    let s := keying .inGrant [0] 0 []
    s.mainPower = true ∧ s.heldTamper = [] ∧ s.resetHeld = false ∧ { s with resetHeld := true }.resetHeld = true := by
  decide +kernel

theorem witness_PowerOnAndReleaseBeginTheSweep :
    (let s := { bench with mainPower := false }
     s.mainPower = false ∧ s.resetHeld = false ∧ s.zeroRun = none) ∧
    { zeroising 0 with mainPower := false }.zeroRun ≠ none ∧
    (let s := { bench with resetHeld := true }
     s.mainPower = true ∧ s.resetHeld = true ∧ s.zeroRun = none) := by decide +kernel

/-- `bench` after a loss of power in the middle of a derive of a batch that is CLOSING, about to be swept. -/
def sweeping : State :=
  (after .mainPowerOn (after .mainPowerLoss (keying .inGrant [0] 0 []))).setBatch 9 { run 3 with state := .closing }

theorem witness_SweepPutsAGoodStoreRight :
    (sweeping.sweep = .running .power ∧ sweeping.markerGood = true ∧ sweeping.tries = [] ∧ sweeping.noHeads = true ∧
      sweeping.heldTamper = [] ∧ sweeping.zeroisePending = false) ∧
    (sweeping.alive = true ∧ { sweeping with batteryBelow := true }.batteryBelow = true) ∧
    { sweeping with zeroisePending := true, mode := .zeroising }.zeroisePending = true := by decide +kernel

/-- Two lines active when the sweep ends; and none. -/
theorem witness_StoreLossEmptiesTheTables :
    (let s := { sweeping with markerGood := false, tamperPins := ⟨true, true, false, false⟩ }
     s.sweep = .running .power ∧ s.markerGood = false ∧ s.noHeads = true) ∧
    (let s := { sweeping with markerGood := false, batteryBelow := true }
     s.noHeads = true ∧ (∀ l ∈ allTamperLines, s.tamperPins.get l = false) ∧ s.heldTamper = []) := by decide +kernel

/-- Gates in slots 46, to an EMPTY slot, and 47, to the MASTER key, both without a batch; slot 45 without a serving cell; L0 holds
domain 5 alone. -/
def gated : State :=
  (((bench.setEntry 46 (.gate ⟨label8, 127, 2, [.derive], none⟩)).setEntry 47 (.gate ⟨label8, 4, 3, [.derive, .wrap], none⟩)).setEntry
    45 (.key { outKey with cellB := readyCell, serving := none })).setBinding .l0 ⟨1, [5], 32, 16, 1, 30⟩

theorem witness_AccessCheckRefusesAtItsFirstFailingStep :
    (31 < (bench.binding .l1).base ∧ (bench.binding .l1).base + (bench.binding .l1).count ≤ 48 ∧
      (bench.binding .l1).base ≤ 32 ∧ 47 < (bench.binding .l1).base + (bench.binding .l1).count ∧ bench.entry 47 = .empty) ∧
    (bench.entry 36 = .gate ⟨label8, 4, 2, [.derive], some 7⟩ ∧ 2 < (bench.binding .l2).rank ∧ (bench.binding .l1).rank ≤ 2 ∧
      KeyUse.wrap ∉ [KeyUse.derive] ∧ some 9 ≠ some 7 ∧ bench.entry 4 = .key master ∧ KeyUse.derive ∈ master.uses) ∧
    (gated.entry 46 = .gate ⟨label8, 127, 2, [.derive], none⟩ ∧ gated.entry 127 = .empty ∧
      gated.entry 47 = .gate ⟨label8, 4, 3, [.derive, .wrap], none⟩ ∧ KeyUse.wrap ∉ master.uses ∧ master.domain = some 3 ∧
      3 ∉ (gated.binding .l0).domains ∧ 3 ∈ (gated.binding .l1).domains ∧ (gated.batch 11).domain = 5 ∧
      (gated.batch 7).domain = 3 ∧ master.serving = some .a) ∧
    (bench.entry 41 = .key lowKey ∧ lowKey.rank < (bench.binding .l1).rank ∧ bench.entry 40 = .key wrapKey ∧
      (bench.binding .l1).rank ≤ wrapKey.rank ∧ KeyUse.derive ∉ wrapKey.uses ∧ KeyUse.wrap ∈ wrapKey.uses ∧
      wrapKey.domain = none) ∧
    (gated.entry 45 = .key { outKey with cellB := readyCell, serving := none } ∧ (gated.binding .l2).rank ≤ outKey.rank ∧
      KeyUse.encryptOut ∈ outKey.uses) := by decide +kernel

theorem witness_PositionsAreReservedCommittedAndReleased :
    (∀ st ∈ [PosState.fresh, .spoilt, .issued, .reservedFresh, .reservedSpoilt],
      ((withPos bench 9 st 0 0 0).batch 7).map[9]? = some st) ∧
    (let b := (withPos bench 9 .reservedFresh 2 1 0).batch 7
     1 ≤ b.freshRes ∧ b.level < 1 ∧ (1 * b.quantity + 3) / 4 ≤ b.derived + 1 ∧ ¬ (b.state = .closing ∧ b.freshRes + b.reissueRes = 1)) ∧
    (let b := { (withPos bench 9 .reservedFresh 2 1 0).batch 7 with state := .closing }
     b.state = .closing ∧ b.freshRes + b.reissueRes = 1 ∧ b.level < 1) ∧
    (let b := (withPos bench 9 .reservedFresh 0 1 0).batch 7
     b.derived + 1 < (1 * b.quantity + 3) / 4) ∧
    (let b := (withPos bench 9 .reservedSpoilt 3 0 1).batch 7
     b.map[9]? = some .reservedSpoilt ∧ 1 ≤ b.reissueRes ∧ b.freshRes + b.reissueRes = 1) := by decide +kernel

theorem witness_ReleaseLowersTheCountAndEndsDrains :
    ((keying .waiting [0] 0 []).entry 4 = .key { master with cellA := { inService 5 with inFlight := 1 } }) ∧
    (∀ n ∈ [1, 2], (withCells (drainingCell n) (inService 5) (some .b)).entry 4 =
      .key { master with cellA := drainingCell n, cellB := inService 5, serving := some .b }) := by decide +kernel

/-- One and three key indices; one and four blocks. -/
theorem witness_PassesComputeCardKeysAndChains :
    (∀ keys ∈ [[2], [0, 1, 2]], (deriveJob .inGrant keys 0 []).ctx = .derive ⟨7, 4, .fresh, keys, 0, []⟩ ∧
      1 ≤ keys.length ∧ keys.length ≤ 3) ∧
    (∀ blocks ∈ [[(1 : Block)], [1, 2, 3, 4]],
      (streamJob .inGrant 0 (some (newChunk 21 blocks)) none none).ctx =
        .stream ⟨17, 1, 2, 10, 0, some ⟨21, blocks, 0, [], []⟩, none, none, none⟩ ∧
      1 ≤ blocks.length ∧ blocks.length ≤ 4) := by decide +kernel

/-! ### Witnesses of the relations that every step keeps -/

/-- The DERIVE of L1 in slot 3, IN_GRANT for its first four passes. -/
def busy : State := granted (keying .inGrant [0, 1, 2] 0 []) 3 4 []

/-- That job is all the work there is. -/
theorem busy_job (n : Nat) : busy.job n = if n = 3 then some (deriveJob .inGrant [0, 1, 2] 0 []) else none := by
  by_cases h : n < 16
  · have all : ∀ m, m < 16 → busy.job m = if m = 3 then some (deriveJob .inGrant [0, 1, 2] 0 []) else none := by
      decide +kernel
    exact all n h
  · rw [if_neg (by omega)]; simp [State.job, h]

theorem busy_live (p : Port) : busy.liveOf p = if p = .line .l1 then [3] else [] := by
  rcases p with l | _
  · cases l <;> rfl
  · rfl

theorem busy_jobsListed : busy.jobsListed := by
  refine ⟨fun p n => ?_, fun p => ?_, fun n j hj => ?_, fun l => ?_, ?_⟩
  · rw [busy_live, busy_job]
    by_cases hp : p = .line .l1 <;> by_cases hn : n = 3 <;> simp [hp, hn, deriveJob, eq_comm]
  · rw [busy_live]; split <;> simp
  · rw [busy_job] at hj
    split at hj
    · subst n; cases hj; simp [deriveJob, Config.custodySlot]
    · cases hj
  · rw [busy_live]; split <;> simp [Config.lineQuota]
  · rw [busy_live]; simp

/-- Its entries, the cells that the DERIVE captured held once. -/
theorem busy_entry {n : Nat} {k : KeyEntry} (h : busy.entry n = .key k) :
    k ∈ [{ master with cellA := { inService 5 with inFlight := 1 } }, { wrapKey with cellB := { inService 7 with inFlight := 1 } },
      lowKey, dataKey, outKey] := by
  have all : ∀ m, m < 128 → busy.entry m ∈ [.empty, .gate ⟨label8, 4, 2, [.derive], some 7⟩,
      .key { master with cellA := { inService 5 with inFlight := 1 } },
      .key { wrapKey with cellB := { inService 7 with inFlight := 1 } }, .key lowKey, .key dataKey, .key outKey] := by
    decide +kernel
  have hn : n < 128 := by
    by_contra hn
    simp [State.entry, hn] at h
  have := all n hn
  rw [h] at this
  simpa using this

theorem busy_keysOk : busy.keysOk := by
  refine ⟨⟨⟨⟨fun h => ?_, fun h => ?_⟩, fun h => ?_⟩, fun h => ?_⟩, fun n k hk => ?_, fun c hc => ?_⟩
  · exact absurd h (by decide +kernel)
  · exact absurd h (by decide +kernel)
  · exact absurd h (by decide +kernel)
  · exact absurd h (by decide +kernel)
  · have := busy_entry hk
    simp only [List.mem_cons, List.not_mem_nil, or_false] at this
    rcases this with rfl | rfl | rfl | rfl | rfl <;> refine ⟨?_, ?_, fun c => ?_⟩ <;> (try cases c) <;>
      simp [Cell.ok, KeyEntry.cell, master, wrapKey, lowKey, dataKey, outKey, inService, blankCell]
  · exact absurd hc (by simp [show busy.ceremony = none from rfl])

theorem busy_countsAgree : busy.countsAgree := by
  refine ⟨busy_keysOk, fun n k hk => ?_, fun _ _ => ⟨fun n k c hk => ?_, fun n j hj => ?_⟩⟩
  · have := busy_entry hk
    simp only [List.mem_cons, List.not_mem_nil, or_false] at this
    rcases this with rfl | rfl | rfl | rfl | rfl <;> decide
  · have hn : n < 128 := by
      by_contra hn
      simp [State.entry, hn] at hk
    have all : ∀ m, m < 128 → (match busy.entry m with
        | .key k => [CellId.a, .b].all fun c => (k.cell c).inFlight == (busy.holders (m, c)).length
        | _ => true) = true := by decide +kernel
    have := all n hn
    rw [hk] at this
    simp only [List.all_cons, List.all_nil, Bool.and_true, Bool.and_eq_true, beq_iff_eq] at this
    cases c
    · exact this.1
    · exact this.2
  · rw [busy_job] at hj
    split at hj
    · cases hj
      refine ⟨fun cell hcell => ?_, .inr (by decide)⟩
      simp only [Job.holdsCell, deriveJob, List.contains_cons, List.contains_nil, Bool.or_false, Bool.or_eq_true,
        beq_iff_eq] at hcell
      rcases hcell with rfl | rfl
      · exact ⟨_, rfl⟩
      · exact ⟨_, rfl⟩
    · cases hj

theorem busy_positionsHeld : busy.positionsHeld := by
  have beyond : ∀ n, ¬ n < 32 → busy.batch n = unusedBatch := fun n h => by simp [State.batch, h]
  refine ⟨fun n => ?_, fun n => ?_, fun _ _ => ⟨fun n j c hj hc => ?_, fun b pos hpos => ?_, fun m n b pos hm hn => ?_⟩⟩
  · by_cases h : n < 32
    · have all : ∀ m, m < 32 →
          let b := busy.batch m
          b.map.length = b.quantity ∧ b.derived = countIn [.issued, .spoilt, .reservedSpoilt] b.map ∧
            b.freshRes = countIn [.reservedFresh] b.map ∧ b.reissueRes = countIn [.reservedSpoilt] b.map ∧
            b.reissued + b.reissueRes ≤ b.allowance := by decide +kernel
      exact all n h
    · rw [beyond n h]; simp [Batch.agrees, unusedBatch, countIn]
  · by_cases h : n < 32
    · have all : ∀ m, m < 32 →
          ((busy.batch m).state = .unused ∨ (busy.batch m).state = .closed →
            (busy.batch m).freshRes + (busy.batch m).reissueRes = 0) ∧
          ((busy.batch m).state = .closing → 0 < (busy.batch m).freshRes + (busy.batch m).reissueRes) := by decide +kernel
      exact all n h
    · rw [beyond n h]; simp [Batch.stateFits, unusedBatch]
  · rw [busy_job] at hj
    split at hj
    · cases hj; cases hc; exact .inl ⟨rfl, rfl⟩
    · cases hj
  · have all : ∀ b, b < 32 → (busy.batch b).map.length ≤ 10 ∧ ∀ pos, pos < 10 →
        (busy.batch b).map[pos]? = some .reservedFresh ∨ (busy.batch b).map[pos]? = some .reservedSpoilt →
          b = 7 ∧ pos = 4 := by decide +kernel
    by_cases h : b < 32
    · obtain ⟨len, at4⟩ := all b h
      by_cases hp : pos < 10
      · obtain ⟨rfl, rfl⟩ := at4 pos hp hpos
        exact ⟨3, _, _, rfl, rfl, rfl, rfl⟩
      · rw [List.getElem?_eq_none (by omega)] at hpos
        simp at hpos
    · rw [beyond b h] at hpos
      simp [unusedBatch] at hpos
  · obtain ⟨j, _, hj, -⟩ := hm
    obtain ⟨k, _, hk, -⟩ := hn
    rw [busy_job] at hj hk
    by_cases h : m = 3 <;> by_cases h' : n = 3 <;> simp_all

theorem busy_grantAgrees : busy.grantAgrees := by
  refine ⟨busy_countsAgree, busy_positionsHeld, busy_jobsListed, fun n j c hj hc => ?_, fun n j hj => ?_, fun g hg => ?_⟩
  · rw [busy_job] at hj
    split at hj
    · cases hj; cases hc
    · cases hj
  · rw [busy_job] at hj
    split at hj
    · subst n; cases hj; exact ⟨fun _ => ⟨_, rfl, rfl⟩, fun _ => rfl⟩
    · cases hj
  · cases hg
    exact ⟨deriveJob .inGrant [0, 1, 2] 0 [], rfl, by decide, rfl⟩

/-- `busy`, whose grant belongs to L1: its port is reset, or the custody port. -/
theorem witness_PortResetEmptiesThePort_jobs :
    busy.jobsListed ∧ busy.alive = true ∧ (busy.port (.line .l1)).resetIn = false ∧ (busy.port .cp).resetIn = false ∧
      busy.tries = [] ∧ busy.waitList = [] ∧ (∀ q, (busy.port q).requests = []) ∧ busy.liveOf (.line .l1) = [3] ∧
      busy.engine = some (grantIn (keying .inGrant [0, 1, 2] 0 []) 3 4 []) ∧
      busy.job 3 = some (deriveJob .inGrant [0, 1, 2] 0 []) ∧ (deriveJob .inGrant [0, 1, 2] 0 []).owner = .line .l1 ∧
      (deriveJob .inGrant [0, 1, 2] 0 []).owner ≠ .cp := by
  refine ⟨busy_jobsListed, rfl, rfl, rfl, rfl, rfl, fun q => ?_, rfl, rfl, rfl, rfl, by decide⟩
  rcases q with l | _
  · cases l <;> rfl
  · rfl

/-- `busy` with a command that waits. -/
def busyWith (c : Instr) : State := { busy with pending := [c] }

theorem witness_StepKeepsJobListsAndQuotas :
    ∃ s t : State, s.jobsListed ∧ s.grantAgrees ∧ (∃ n, (s.job n).isSome) ∧ step s = .next t :=
  ⟨busyWith (.derive (.line .l1) 0 1 (deriveBody 7 500005 36 40 [0])), _, busy_jobsListed, busy_grantAgrees, ⟨3, rfl⟩, rfl⟩

theorem witness_StepKeepsQueuesAndLists :
    ∃ s t : State, s.queuesFit ∧ s.listsOnce ∧ step s = .next t := by
  refine ⟨{ loaded .cp (List.replicate 8 placed) 15 1 .none .entry with
    notices := [⟨.restarted, 1⟩], waitList := [.l0, .l1], pending := [.frameStart .cp [0x01]] }, _, ?_, ?_, rfl⟩
  · intro p; rcases p with l | _
    · cases l <;> decide +kernel
    · decide +kernel
  · exact ⟨by decide +kernel, by decide +kernel⟩

theorem witness_StepKeepsBatchCountersInAgreement :
    ∃ s t : State, s.batchesAgree ∧ s.positionsHeld ∧ s.jobsListed ∧ (s.batch 7).freshRes = 1 ∧ step s = .next t :=
  ⟨busyWith (.cancel (.line .l1) 1 41 [40]), _, busy_positionsHeld.1, busy_positionsHeld, busy_jobsListed, rfl, rfl⟩

theorem witness_StepKeepsDeficitsBounded :
    ∃ s t : State, s.deficitsFit ∧ s.deficit s.pointer = 7 ∧ step s = .next t := by
  refine ⟨{ (keying .waiting [0, 1, 2] 0 []).setDeficit .l1 7 with
    pointer := .l1, pending := [.derive (.line .l1) 0 1 (deriveBody 7 500005 36 40 [0])] }, _, ⟨fun l => ?_, fun h => ?_⟩,
    by decide +kernel, rfl⟩
  · cases l <;> decide +kernel
  · exact absurd h (by decide +kernel)

/-- No job is in any slot of a part that is ZEROISING. -/
theorem zeroising_noJob (k n : Nat) : (zeroising k).job n = none := by
  by_cases h : n < 16
  · have all : ∀ m, m < 16 → (zeroising 0).job m = none := by decide +kernel
    exact all n h
  · simp [State.job, h]

theorem zeroising_idle : (zeroising 2).zeroisingIdle :=
  ⟨⟨⟨fun _ => rfl, fun _ => rfl⟩, fun _ => rfl⟩, fun _ => ⟨zeroising_noJob 2, rfl, rfl⟩⟩

theorem witness_StepKeepsZeroisingWithoutWork :
    ∃ s t : State, s.zeroisingIdle ∧ s.mode = .zeroising ∧ step s = .next t :=
  ⟨{ zeroising 2 with pending := [.readBackAttemptEnd false] }, _, zeroising_idle, rfl, rfl⟩

theorem witness_StepKeepsKeyEntriesConsistent_counts :
    ∃ s t : State, s.countsAgree ∧ s.jobsListed ∧ (∃ n, (s.job n).isSome) ∧ step s = .next t :=
  ⟨busyWith (.cancel (.line .l1) 1 41 [40]), _, busy_countsAgree, busy_jobsListed, ⟨3, rfl⟩, rfl⟩

/-- Cell A of slot 4 serves, and the ceremony of 3.7 forms cell B. -/
theorem witness_StepKeepsKeyEntriesConsistent :
    ∃ s t : State, s.keysOk ∧ s.ceremony = some ceremony ∧ step s = .next t := by
  refine ⟨{ (withCells (inService 5) formingCell (some .a)).setCeremony ceremony with
    pending := [.abandonCeremony .cp 0 1 []] }, _, ⟨?_, ?_, ?_⟩, rfl, rfl⟩
  · refine ⟨⟨⟨fun h => ?_, fun h => ?_⟩, fun h => ?_⟩, fun h => ?_⟩
    · exact absurd h (by decide +kernel)
    · exact absurd h (by decide +kernel)
    · exact absurd h (by decide +kernel)
    · exact absurd h (by decide +kernel)
  · intro n k hk
    have all : ∀ m, m < 128 → (withCells (inService 5) formingCell (some .a)).entry m ∈
        [.empty, .gate ⟨label8, 4, 2, [.derive], some 7⟩, .key { master with cellB := formingCell }, .key wrapKey,
          .key lowKey, .key dataKey, .key outKey] := by decide +kernel
    have hn : n < 128 := by
      by_contra h
      simp [State.entry, h] at hk
    have := all n hn
    change (withCells (inService 5) formingCell (some .a)).entry n = _ at hk
    rw [hk] at this
    simp only [List.mem_cons, List.not_mem_nil, Entry.key.injEq, reduceCtorEq, false_or, or_false] at this
    rcases this with rfl | rfl | rfl | rfl | rfl <;>
      refine ⟨?_, ?_, fun c => ?_⟩ <;> (try cases c) <;>
      simp [Cell.ok, KeyEntry.cell, master, wrapKey, lowKey, dataKey, outKey, inService, blankCell, formingCell]
  · intro c hc
    cases hc
    exact ⟨{ master with cellB := formingCell }, by decide +kernel, rfl⟩

theorem witness_StepKeepsStreamsWithinTheirCount :
    ∃ s t : State, s.streamsFit ∧ (∃ n, (s.job n).isSome) ∧ step s = .next t := by
  refine ⟨{ streaming .waiting 6 (some (newChunk 21 [1, 2, 3, 4])) none none with
    pending := [.streamChunk (.line .l2) 0 22 (streamChunkBody 9 17 [5])] }, _, fun n j c hj hc => ?_, ⟨9, rfl⟩, rfl⟩
  have hn : n < 16 := by
    by_contra h
    simp [State.job, h] at hj
  have all : ∀ m, m < 16 → (streaming .waiting 6 (some (newChunk 21 [1, 2, 3, 4])) none none).job m ∈
      [none, some (streamJob .waiting 6 (some (newChunk 21 [1, 2, 3, 4])) none none)] := by decide +kernel
  have := all n hn
  change (streaming .waiting 6 (some (newChunk 21 [1, 2, 3, 4])) none none).job n = _ at hj
  rw [hj] at this
  simp at this
  subst this
  cases hc
  decide +kernel

end Sys2Proof.Tests
end

/-! SUPPORT. The access check, one equation per row of R37. The rows are listed in the order of the tests: each section adds, as
a hypothesis, the test that the rows after it have passed. -/

section
namespace Sys2Proof.Machine

theorem Binding.inWindow_iff (b : Binding) (r : Nat) : b.inWindow r = true ↔ b.base ≤ r ∧ r < b.base + b.count := by
  simp [Binding.inWindow]

theorem domain_all_contains_iff (k : KeyEntry) (domains : List Nat) :
    k.domain.all (domains.contains ·) = true ↔ ∀ d, k.domain = some d → d ∈ domains := by
  simp [Option.all_eq_true]

/-- A gate bound to no batch, or to the one the request names, passes the test of its binding. -/
theorem GateEntry.not_other_batch {g : GateEntry} {batch : Option Nat} (hb : g.batch = none ∨ g.batch = batch) :
    ¬ (g.batch.isSome = true ∧ g.batch ≠ batch) := by
  rintro ⟨hsome, hne⟩
  rcases hb with hnone | hsame
  · simp [hnone] at hsome
  · exact hne hsame

/-! ### Steps 5 and 6: the domains and the serving cell of the resolved key -/

section Resolved

variable {bd : Binding} {u : KeyUse} {batchDomain : Option Nat} {n : Nat} {stage : Stage} {k : KeyEntry}

theorem resolvedCheck_of_domain_not_bound {d : Nat} (hd : k.domain = some d) (hout : d ∉ bd.domains) :
    resolvedCheck bd u batchDomain n stage k = .error ⟨.domain, some n, stage⟩ := by
  have hall : ¬ k.domain.all (bd.domains.contains ·) = true :=
    fun h => hout ((domain_all_contains_iff k _).mp h d hd)
  rw [resolvedCheck, if_neg hall]

variable (hbound : ∀ d, k.domain = some d → d ∈ bd.domains)
include hbound

theorem resolvedCheck_of_derive_other_domain (hu : u = .derive) (hne : k.domain ≠ batchDomain) :
    resolvedCheck bd u batchDomain n stage k = .error ⟨.domain, some n, stage⟩ := by
  rw [resolvedCheck, if_pos ((domain_all_contains_iff k _).mpr hbound), if_pos ⟨hu, hne⟩]

variable (hderive : u = .derive → k.domain = batchDomain)
include hderive

theorem resolvedCheck_of_no_serving (hc : k.serving = none) :
    resolvedCheck bd u batchDomain n stage k = .error ⟨.cellEmpty, some n, stage⟩ := by
  rw [resolvedCheck, if_pos ((domain_all_contains_iff k _).mpr hbound), if_neg fun h => h.2 (hderive h.1), hc]

theorem resolvedCheck_of_serving {c : CellId} (hc : k.serving = some c) :
    resolvedCheck bd u batchDomain n stage k = .ok (n, c) := by
  rw [resolvedCheck, if_pos ((domain_all_contains_iff k _).mpr hbound), if_neg fun h => h.2 (hderive h.1), hc]

end Resolved

/-! ### Steps 1 to 4: window, entry, and the tests of a key or of a gate and its target -/

section Steps

variable {s : State} {l : LinePort} {r : Nat} {u : KeyUse} {batch : Option Nat}

theorem State.accessCheck_of_outside_window
    (hout : r < (s.binding l).base ∨ (s.binding l).base + (s.binding l).count ≤ r) :
    s.accessCheck l r u batch = .error ⟨.window, some r, .direct⟩ := by
  have hw : ¬ (s.binding l).inWindow r = true := by rw [Binding.inWindow_iff]; omega
  rw [State.accessCheck, if_neg hw]

variable (hw : (s.binding l).inWindow r = true)
include hw

theorem State.accessCheck_of_empty (he : s.entry r = .empty) :
    s.accessCheck l r u batch = .error ⟨.absent, some r, .direct⟩ := by
  simp only [State.accessCheck, hw, if_true, he]

section Key

variable {k : KeyEntry} (he : s.entry r = .key k)
include he

theorem State.accessCheck_of_key_rank_below (hr : k.rank < (s.binding l).rank) :
    s.accessCheck l r u batch = .error ⟨.rank, some r, .direct⟩ := by
  simp only [State.accessCheck, hw, he, hr, if_true]

variable (hr : (s.binding l).rank ≤ k.rank)
include hr

theorem State.accessCheck_of_key_without_use (hu : u ∉ k.uses) :
    s.accessCheck l r u batch = .error ⟨.use, some r, .direct⟩ := by
  simp only [State.accessCheck, hw, he, hr.not_gt, hu, not_false_eq_true, if_true, if_false]

theorem State.accessCheck_of_key (hu : u ∈ k.uses) :
    s.accessCheck l r u batch =
      resolvedCheck (s.binding l) u (batch.map fun b => (s.batch b).domain) r .direct k := by
  simp only [State.accessCheck, hw, he, hr.not_gt, hu, not_true_eq_false, if_true, if_false]

end Key

section Gate

variable {g : GateEntry} (he : s.entry r = .gate g)
include he

theorem State.accessCheck_of_gate_reach_below (hr : g.reach < (s.binding l).rank) :
    s.accessCheck l r u batch = .error ⟨.rank, some r, .direct⟩ := by
  simp only [State.accessCheck, hw, he, hr, if_true]

variable (hr : (s.binding l).rank ≤ g.reach)
include hr

theorem State.accessCheck_of_gate_without_use (hu : u ∉ g.uses) :
    s.accessCheck l r u batch = .error ⟨.use, some r, .direct⟩ := by
  simp only [State.accessCheck, hw, he, hr.not_gt, hu, not_false_eq_true, if_true, if_false]

variable (hu : u ∈ g.uses)
include hu

theorem State.accessCheck_of_gate_of_other_batch {b : Nat} (hg : g.batch = some b) (hb : batch ≠ some b) :
    s.accessCheck l r u batch = .error ⟨.binding, some r, .direct⟩ := by
  have hother : g.batch.isSome = true ∧ g.batch ≠ batch := ⟨by rw [hg]; rfl, by rw [hg]; exact hb.symm⟩
  simp only [State.accessCheck, hw, he, hr.not_gt, hu, not_true_eq_false, if_true, if_false, if_pos hother]

variable (hb : g.batch = none ∨ g.batch = batch)
include hb

theorem State.accessCheck_of_gate_without_target (ht : ∀ k, s.entry g.target ≠ .key k) :
    s.accessCheck l r u batch = .error ⟨.gateTarget, some g.target, .throughGate⟩ := by
  have hbatch := GateEntry.not_other_batch hb
  cases hk : s.entry g.target with
  | key k => exact absurd hk (ht k)
  | empty | gate =>
    simp only [State.accessCheck, hw, he, hr.not_gt, hu, not_true_eq_false, if_true, if_false, if_neg hbatch, hk]

variable {k : KeyEntry} (hk : s.entry g.target = .key k)
include hk

theorem State.accessCheck_of_target_without_use (hku : u ∉ k.uses) :
    s.accessCheck l r u batch = .error ⟨.use, some g.target, .throughGate⟩ := by
  have hbatch := GateEntry.not_other_batch hb
  simp only [State.accessCheck, hw, he, hr.not_gt, hu, not_true_eq_false, if_true, if_false, if_neg hbatch, hk, hku]

theorem State.accessCheck_of_gate (hku : u ∈ k.uses) :
    s.accessCheck l r u batch =
      resolvedCheck (s.binding l) u (batch.map fun b => (s.batch b).domain) g.target .throughGate k := by
  have hbatch := GateEntry.not_other_batch hb
  simp only [State.accessCheck, hw, he, hr.not_gt, hu, not_true_eq_false, if_true, if_false, if_neg hbatch, hk, hku]

end Gate
end Steps

/-! ### The rows together -/

/-- Steps 5 and 6 for an answer `x` that they decide. -/
theorem resolvedCheck_refuses_in_order {bd : Binding} {u : KeyUse} {batchDomain : Option Nat} {n : Nat} {stage : Stage}
    {k : KeyEntry} {x : Except RefusalRec (Nat × CellId)} (hx : x = resolvedCheck bd u batchDomain n stage k) :
    (∀ d, k.domain = some d → d ∉ bd.domains → x = .error ⟨.domain, some n, stage⟩) ∧
    ((∀ d, k.domain = some d → d ∈ bd.domains) →
      (u = .derive → k.domain ≠ batchDomain → x = .error ⟨.domain, some n, stage⟩) ∧
      ((u = .derive → k.domain = batchDomain) →
        (k.serving = none → x = .error ⟨.cellEmpty, some n, stage⟩) ∧
        ∀ c, k.serving = some c → x = .ok (n, c))) := by
  subst hx
  exact ⟨fun _ => resolvedCheck_of_domain_not_bound, fun hbound =>
    ⟨resolvedCheck_of_derive_other_domain hbound, fun hderive =>
      ⟨resolvedCheck_of_no_serving hbound hderive, fun _ => resolvedCheck_of_serving hbound hderive⟩⟩⟩

/-- Settles O49: each clause is the row of R37 at which the check stops. -/
theorem accessCheckRefusesAtItsFirstFailingStep : Obligations.AccessCheckRefusesAtItsFirstFailingStep := by
  intro s l r u batch bd answers resolved
  refine ⟨State.accessCheck_of_outside_window, fun hbase hcount => ?_⟩
  have hw : bd.inWindow r = true := (bd.inWindow_iff r).mpr ⟨hbase, hcount⟩
  refine ⟨State.accessCheck_of_empty hw, fun g he => ?gate, fun k he => ?key⟩
  case gate =>
    refine ⟨State.accessCheck_of_gate_reach_below hw he, fun hr =>
      ⟨State.accessCheck_of_gate_without_use hw he hr, fun hu =>
        ⟨fun _ => State.accessCheck_of_gate_of_other_batch hw he hr hu, fun hb =>
          ⟨State.accessCheck_of_gate_without_target hw he hr hu hb, fun k hk => ?target⟩⟩⟩⟩
    case target =>
      exact ⟨State.accessCheck_of_target_without_use hw he hr hu hb hk, fun hku =>
        resolvedCheck_refuses_in_order (State.accessCheck_of_gate hw he hr hu hb hk hku)⟩
  case key =>
    exact ⟨State.accessCheck_of_key_rank_below hw he, fun hr =>
      ⟨State.accessCheck_of_key_without_use hw he hr, fun hu =>
        resolvedCheck_refuses_in_order (State.accessCheck_of_key hw he hr hu)⟩⟩

end Sys2Proof.Machine
end

/-! SUPPORT. SPOIL (R71): its five checks as one list, what its admission does when one of them fails and when all pass, and
from that the whole SPOIL frame at a line port at rest. -/

section
namespace Sys2Proof.Machine

/-! ### The first test that fails -/

@[simp] theorem firstFailure_nil : firstFailure [] = none := rfl

@[simp] theorem firstFailure_cons (ok : Bool) (a : Answer) (rest : List (Bool × Answer)) :
    firstFailure ((ok, a) :: rest) = if ok = true then firstFailure rest else some a := rfl

/-! ### Batch records beside the port units and the slot wait list -/

theorem State.setBatch_setPort (s : State) (p : Port) (u : PortUnit) (n : Nat) (b : Batch) :
    (s.setPort p u).setBatch n b = (s.setBatch n b).setPort p u := rfl

theorem State.setBatch_leaveWaitList (s : State) (p : Port) (n : Nat) (b : Batch) :
    (s.leaveWaitList p).setBatch n b = (s.setBatch n b).leaveWaitList p := by cases p <;> rfl

theorem State.inReach_line (s : State) (l : LinePort) (b : Batch) :
    s.inReach (.line l) b = decide (b.domain ∈ (s.binding l).domains) := List.contains_eq_mem _ _

theorem Batch.holds_iff (b : Batch) (serial : Nat) :
    b.holds serial = true ↔ b.first ≤ serial ∧ serial < b.first + b.quantity := by
  simp [Batch.holds]

/-! ### The body of a SPOIL -/

theorem spoilBody_length (n serial : Nat) : (spoilBody n serial).length = 5 := by simp [spoilBody]

theorem field_spoilBody {n : Nat} (hn : n ≤ 255) (serial : Nat) : field (spoilBody n serial) 0 = n :=
  field_zero n (by omega) _

theorem beNat_slice_spoilBody (n : Nat) {serial : Nat} (hs : serial ≤ maxSerial) :
    beNat (slice (spoilBody n serial) 1 4) = serial := by
  have hslice : slice (spoilBody n serial) 1 4 = beBytes 4 serial := by
    simp [slice, spoilBody, List.take_of_length_le]
  rw [hslice, beNat_beBytes 4 serial (by unfold maxSerial at hs; omega)]

/-! ### The checks of R71 -/

/-- The checks of R71 in its order, on the batch number and serial that the body names; `admitSpoil_refuse` and
`admitSpoil_answered` tie them to the model. -/
def State.spoilTests (s : State) (p : Port) (n serial : Nat) : List (Bool × Answer) :=
  [(n ≤ 31, .range), (s.inReach p (s.batch n), .domain),
    ((s.batch n).state == .opened || (s.batch n).state == .paused, .batchState),
    ((s.batch n).holds serial, .outOfBatch),
    ((s.batch n).map[serial - (s.batch n).first]? == some .issued, .notIssued)]

section Rows

variable {s : State} {l : LinePort} {n serial : Nat}

theorem spoilTests_of_number_out_of_range (hout : 31 < n) :
    firstFailure (s.spoilTests (.line l) n serial) = some .range := by
  simp [State.spoilTests, hout.not_ge]

variable (hrange : n ≤ 31)
include hrange

theorem spoilTests_of_out_of_reach (hout : (s.batch n).domain ∉ (s.binding l).domains) :
    firstFailure (s.spoilTests (.line l) n serial) = some .domain := by
  simp [State.spoilTests, hrange, State.inReach_line, hout]

variable (hreach : (s.batch n).domain ∈ (s.binding l).domains)
include hreach

theorem spoilTests_of_other_state (hopened : (s.batch n).state ≠ .opened) (hpaused : (s.batch n).state ≠ .paused) :
    firstFailure (s.spoilTests (.line l) n serial) = some .batchState := by
  simp [State.spoilTests, hrange, State.inReach_line, hreach, hopened, hpaused]

variable (hstate : (s.batch n).state = .opened ∨ (s.batch n).state = .paused)
include hstate

theorem spoilTests_of_serial_outside
    (hout : serial < (s.batch n).first ∨ (s.batch n).first + (s.batch n).quantity ≤ serial) :
    firstFailure (s.spoilTests (.line l) n serial) = some .outOfBatch := by
  have hholds : ¬ (s.batch n).holds serial = true := by
    rw [Batch.holds_iff]
    omega
  simp [State.spoilTests, hrange, State.inReach_line, hreach, hstate, hholds]

variable (hfirst : (s.batch n).first ≤ serial) (hlast : serial < (s.batch n).first + (s.batch n).quantity)
include hfirst hlast

/-- With the checks before it passed, the position decides. -/
theorem spoilTests_of_serial_inside :
    firstFailure (s.spoilTests (.line l) n serial) =
      if (s.batch n).map[serial - (s.batch n).first]? = some .issued then none else some .notIssued := by
  have hholds : (s.batch n).holds serial = true := (Batch.holds_iff _ _).2 ⟨hfirst, hlast⟩
  simp [State.spoilTests, hrange, State.inReach_line, hreach, hstate, hholds]

end Rows

/-! ### The admission of a SPOIL -/

section Admission

variable {s : State} {p : Port} {code tag : Byte} {n serial : Nat} (hn : n ≤ 255) (hs : serial ≤ maxSerial)
include hn hs

theorem admitSpoil_refuse {a : Answer} (h : firstFailure (s.spoilTests p n serial) = some a) :
    admitSpoil p ⟨code, tag, spoilBody n serial⟩ s = .refuse (bare a) := by
  rw [State.spoilTests] at h
  simp only [admitSpoil, field_spoilBody hn, beNat_slice_spoilBody n hs, h]

theorem admitSpoil_answered (h : firstFailure (s.spoilTests p n serial) = none) :
    admitSpoil p ⟨code, tag, spoilBody n serial⟩ s =
      s.answered p ⟨code, tag, spoilBody n serial⟩
        ([byte n] ++ beBytes 4 serial ++ beBytes 2 (serial - (s.batch n).first) ++ [byte (s.batch n).left])
        (·.setBatch n { s.batch n with map := (s.batch n).map.set (serial - (s.batch n).first) .spoilt }) := by
  rw [State.spoilTests] at h
  simp only [admitSpoil, field_spoilBody hn, beNat_slice_spoilBody n hs, h]

end Admission

/-! ### The frame of a SPOIL at a line port at rest -/

section Frame

variable {s : State} {l : LinePort} {flags tag : Byte} {n serial : Nat} (hq : s.quiet (.line l) = true)
  (hm : s.mode = .operating) (hn : n ≤ 255) (hs : serial ≤ maxSerial)
include hq hm hn hs

theorem exec_spoil_refused {a : Answer} (h : firstFailure (s.spoilTests (.line l) n serial) = some a) :
    exec (.spoil (.line l) flags tag (spoilBody n serial)) s =
      .next (s.served (.line l) ⟨0x02, tag, a, none, .none, []⟩) :=
  congrArg Host.Outcome.next <|
    deliver_refused s (.line l) .spoil _ flags tag _ (bare a) hq (by simp [spoilBody_length]) rfl (by decide) rfl
      (.inr (by simp [hm])) (by simp [ReqKind.lengthOk, spoilBody_length]) (admitSpoil_refuse hn hs h)

theorem exec_spoil_done (h : firstFailure (s.spoilTests (.line l) n serial) = none) :
    exec (.spoil (.line l) flags tag (spoilBody n serial)) s =
      .next ((s.setBatch n
          { s.batch n with map := (s.batch n).map.set (serial - (s.batch n).first) .spoilt }).served (.line l)
        (plainResponse 0x02 tag .done
          ([byte n] ++ beBytes 4 serial ++ beBytes 2 (serial - (s.batch n).first) ++ [byte (s.batch n).left]))) := by
  obtain ⟨_, htries, _⟩ := (State.quiet_iff s (.line l)).1 hq
  exact congrArg Host.Outcome.next <|
    deliver_answered s (.line l) .spoil _ flags tag _ _ _ hq (by simp [spoilBody_length]) rfl (by decide) rfl
      (.inr (by simp [hm])) (by simp [ReqKind.lengthOk, spoilBody_length]) (admitSpoil_answered hn hs h)
      (fun t u => t.setBatch_setPort _ u n _) (fun t => t.setBatch_leaveWaitList _ n _) htries rfl

end Frame

/-- Settles O11: each clause adds the next check of R71 to those that the clauses before it passed. -/
theorem spoilMarksAnIssuedPosition : Obligations.SpoilMarksAnIssuedPosition := by
  intro s l flags tag n serial hq hm hn hs b pos refused
  have refusedBy : ∀ {a}, firstFailure (s.spoilTests (.line l) n serial) = some a → refused a :=
    exec_spoil_refused hq hm hn hs
  refine ⟨fun hout => refusedBy (spoilTests_of_number_out_of_range hout), fun hrange =>
    ⟨fun hout => refusedBy (spoilTests_of_out_of_reach hrange hout), fun hreach =>
      ⟨fun hopened hpaused => refusedBy (spoilTests_of_other_state hrange hreach hopened hpaused), fun hstate =>
        ⟨fun hout => refusedBy (spoilTests_of_serial_outside hrange hreach hstate hout), fun hfirst hlast => ?position⟩⟩⟩⟩
  case position =>
    have hposition := spoilTests_of_serial_inside hrange hreach hstate hfirst hlast
    exact ⟨fun hissued => refusedBy (hposition.trans (if_neg hissued)),
      fun hissued => exec_spoil_done hq hm hn hs (hposition.trans (if_pos hissued))⟩

end Sys2Proof.Machine
end

/-! SUPPORT. The grant size (R105): the unit and the passes done of a job by kind, and the size by what is left of the unit. -/

section
namespace Sys2Proof.Machine

variable {j : Job}

/-! ### The unit of a job, by kind -/

theorem Job.unit_of_derive {c : DeriveCtx} (h : j.ctx = .derive c) :
    j.unitPasses = 3 * c.keys.length ∧ j.passesDone = c.done := by
  simp [Job.unitPasses, Job.passesDone, h]

theorem Job.unit_of_stream {c : StreamCtx} {ch : Chunk} (h : j.ctx = .stream c) (hch : c.inService = some ch) :
    j.unitPasses = 2 * ch.blocks.length ∧ j.passesDone = ch.done := by
  simp [Job.unitPasses, Job.passesDone, h, hch]

theorem Job.unit_of_custody {c : CustodyCtx} (h : j.ctx = .custody c) : j.unitPasses = 1 ∧ j.passesDone = 0 := by
  simp [Job.unitPasses, Job.passesDone, h]

@[simp] theorem newChunk_done (tag : Byte) (blocks : List Block) : (newChunk tag blocks).done = 0 := rfl

/-! ### The size of the next grant -/

theorem Job.grantSize_of_four_left (hblock : j.passesDone % 4 = 0) (hleft : j.passesDone + 4 ≤ j.unitPasses) :
    j.grantSize = 4 :=
  if_pos ⟨hblock, hleft⟩

theorem Job.grantSize_of_few_left (hleft : j.unitPasses < j.passesDone + 4) : j.grantSize = 1 :=
  if_neg fun ⟨_, hfour⟩ => absurd hfour (Nat.not_le.2 hleft)

/-- Passes done that are no multiple of 4: the unit was left within a block of four, and goes on in single passes. -/
theorem Job.grantSize_of_within_block (hblock : j.passesDone % 4 ≠ 0) : j.grantSize = 1 :=
  if_neg fun ⟨hmultiple, _⟩ => hblock hmultiple

theorem Job.grantSize_eq_four_iff :
    j.grantSize = 4 ↔ j.passesDone % 4 = 0 ∧ j.passesDone + 4 ≤ j.unitPasses := by
  simp [Job.grantSize]

theorem Job.grantSize_four_or_one (j : Job) : j.grantSize = 4 ∨ j.grantSize = 1 :=
  ite_eq_or_eq _ 4 1

theorem Job.passesDone_add_grantSize_le (h : j.passesDone < j.unitPasses) :
    j.passesDone + j.grantSize ≤ j.unitPasses := by
  rcases j.grantSize_four_or_one with hfour | hone
  · have ⟨_, hleft⟩ := Job.grantSize_eq_four_iff.1 hfour
    rwa [hfour]
  · rwa [hone]

/-! ### The rows of the table of R105 -/

/-- The first grant of a unit. -/
theorem Job.grantSize_at_start (h : j.passesDone = 0) :
    (j.unitPasses = 3 → j.grantSize = 1) ∧ (j.unitPasses = 2 → j.grantSize = 1) ∧ (j.unitPasses = 1 → j.grantSize = 1) ∧
      (4 ≤ j.unitPasses → j.grantSize = 4) :=
  have single (hshort : j.unitPasses < 4) : j.grantSize = 1 := Job.grantSize_of_few_left (by omega)
  ⟨fun _ => single (by omega), fun _ => single (by omega), fun _ => single (by omega),
    fun _ => Job.grantSize_of_four_left (by omega) (by omega)⟩

/-- The grant after the first four passes of a unit. -/
theorem Job.grantSize_after_four (h : j.passesDone = 4) :
    (j.unitPasses = 6 → j.grantSize = 1) ∧ (j.unitPasses = 8 → j.grantSize = 4) ∧ (j.unitPasses = 9 → j.grantSize = 4) :=
  have four (hlong : 8 ≤ j.unitPasses) : j.grantSize = 4 := Job.grantSize_of_four_left (by omega) (by omega)
  ⟨fun _ => Job.grantSize_of_few_left (by omega), fun _ => four (by omega), fun _ => four (by omega)⟩

/-- Settles O32: the unit by kind, the rule and its bound for every job, and the rows of the table of R105 from the rule. -/
theorem grantSizeFollowsPassesDone : Obligations.GrantSizeFollowsPassesDone := by
  refine ⟨fun j c => Job.unit_of_derive, fun j c ch => Job.unit_of_stream, fun j c => Job.unit_of_custody,
    fun j hdone => ⟨?four, j.grantSize_four_or_one, Job.passesDone_add_grantSize_le hdone⟩, newChunk_done,
    fun j => Job.grantSize_at_start,
    fun j => ⟨Job.grantSize_after_four, fun _ _ => Job.grantSize_of_within_block (by omega),
      fun _ _ => Job.grantSize_of_few_left (by omega)⟩⟩
  case four =>
    have hleft : j.passesDone + 4 ≤ j.unitPasses ↔ 4 ≤ j.unitPasses - j.passesDone := by omega
    rw [Job.grantSize_eq_four_iff, hleft]

end Sys2Proof.Machine
end

/-! SUPPORT. When the access check passes (R37), what a change of one cell does to the Key Table, and small facts on tables that
the later sections share. -/

section
namespace Sys2Proof.Machine

/-! ### The access check passes -/

theorem resolvedCheck_ok_iff {bd : Binding} {u : KeyUse} {batchDomain : Option Nat} {n m : Nat} {stage : Stage}
    {k : KeyEntry} {c : CellId} :
    resolvedCheck bd u batchDomain n stage k = .ok (m, c) ↔
      n = m ∧ (∀ d, k.domain = some d → d ∈ bd.domains) ∧ (u = .derive → k.domain = batchDomain) ∧ k.serving = some c := by
  constructor
  · intro h
    have hd : ∀ d, k.domain = some d → d ∈ bd.domains := fun d hd => by_contra fun hout => by
      rw [resolvedCheck_of_domain_not_bound hd hout] at h; simp at h
    have hb : u = .derive → k.domain = batchDomain := fun hu => by_contra fun hne => by
      rw [resolvedCheck_of_derive_other_domain hd hu hne] at h; simp at h
    cases hs : k.serving with
    | none => rw [resolvedCheck_of_no_serving hd hb hs] at h; simp at h
    | some x =>
      rw [resolvedCheck_of_serving hd hb hs] at h
      simp only [Except.ok.injEq, Prod.mk.injEq] at h
      exact ⟨h.1, hd, hb, congrArg some h.2⟩
  · rintro ⟨rfl, hd, hb, hs⟩
    exact resolvedCheck_of_serving hd hb hs

/-- A check that passes has passed each row of R37. -/
theorem accessCheck_passes {s : State} {l : LinePort} {r : Nat} {u : KeyUse} {batch : Option Nat} {n : Nat} {c : CellId}
    (h : s.accessCheck l r u batch = .ok (n, c)) :
    (s.binding l).inWindow r = true ∧
      ∃ k, s.entry n = .key k ∧ u ∈ k.uses ∧ (∀ d, k.domain = some d → d ∈ (s.binding l).domains) ∧
        (u = .derive → k.domain = batch.map fun b => (s.batch b).domain) ∧ k.serving = some c ∧
        (n = r ∧ (s.binding l).rank ≤ k.rank ∨
          ∃ g, s.entry r = .gate g ∧ g.target = n ∧ (s.binding l).rank ≤ g.reach ∧ u ∈ g.uses ∧
            (g.batch = none ∨ g.batch = batch)) := by
  have hw : (s.binding l).inWindow r = true := by_contra fun hw => by
    rw [Binding.inWindow_iff] at hw
    rw [State.accessCheck_of_outside_window (by omega)] at h; simp at h
  refine ⟨hw, ?_⟩
  cases he : s.entry r with
  | empty => rw [State.accessCheck_of_empty hw he] at h; simp at h
  | key k =>
    have hr : (s.binding l).rank ≤ k.rank := by_contra fun hr => by
      rw [State.accessCheck_of_key_rank_below hw he (by omega)] at h; simp at h
    have hu : u ∈ k.uses := by_contra fun hu => by
      rw [State.accessCheck_of_key_without_use hw he hr hu] at h; simp at h
    rw [State.accessCheck_of_key hw he hr hu, resolvedCheck_ok_iff] at h
    obtain ⟨rfl, hd, hb, hs⟩ := h
    exact ⟨k, he, hu, hd, hb, hs, .inl ⟨rfl, hr⟩⟩
  | gate g =>
    have hr : (s.binding l).rank ≤ g.reach := by_contra fun hr => by
      rw [State.accessCheck_of_gate_reach_below hw he (by omega)] at h; simp at h
    have hgu : u ∈ g.uses := by_contra fun hu => by
      rw [State.accessCheck_of_gate_without_use hw he hr hu] at h; simp at h
    have hgb : g.batch = none ∨ g.batch = batch := by_contra fun hgb => by
      obtain ⟨b, hb⟩ : ∃ b, g.batch = some b := Option.ne_none_iff_exists'.1 fun h => hgb (.inl h)
      rw [State.accessCheck_of_gate_of_other_batch hw he hr hgu hb fun h => hgb (.inr (hb.trans h.symm))] at h
      simp at h
    obtain ⟨k, hk⟩ : ∃ k, s.entry g.target = .key k := by_contra fun ht => by
      rw [State.accessCheck_of_gate_without_target hw he hr hgu hgb fun k hk => ht ⟨k, hk⟩] at h; simp at h
    have hu : u ∈ k.uses := by_contra fun hu => by
      rw [State.accessCheck_of_target_without_use hw he hr hgu hgb hk hu] at h; simp at h
    rw [State.accessCheck_of_gate hw he hr hgu hgb hk hu, resolvedCheck_ok_iff] at h
    obtain ⟨rfl, hd, hb, hs⟩ := h
    exact ⟨k, hk, hu, hd, hb, hs, .inr ⟨g, rfl, rfl, hr, hgu, hgb⟩⟩

/-- Settles O48: one direction is `accessCheck_passes`, the other the last row for a key and for a gate. -/
theorem accessCheckPassesWhenEveryStepPasses : Obligations.AccessCheckPassesWhenEveryStepPasses := by
  intro s l r u batch n c
  constructor
  · intro h
    obtain ⟨hw, hk⟩ := accessCheck_passes h
    obtain ⟨hbase, hcount⟩ := (Binding.inWindow_iff _ _).1 hw
    exact ⟨hbase, hcount, hk⟩
  · rintro ⟨hbase, hcount, k, hk, hu, hd, hb, hs, ⟨rfl, hr⟩ | ⟨g, hg, rfl, hr, hgu, hgb⟩⟩
    all_goals have hw := (Binding.inWindow_iff _ _).2 ⟨hbase, hcount⟩
    · rw [State.accessCheck_of_key hw hk hr hu]
      exact resolvedCheck_of_serving hd hb hs
    · rw [State.accessCheck_of_gate hw hg hr hgu hgb hk hu]
      exact resolvedCheck_of_serving hd hb hs

/-! ### One cell of an entry -/

@[simp] theorem KeyEntry.cell_setCell_same (k : KeyEntry) (c : CellId) (x : Cell) : (k.setCell c x).cell c = x := by
  cases c <;> rfl

theorem KeyEntry.cell_setCell_ne (k : KeyEntry) {c d : CellId} (x : Cell) (h : d ≠ c) : (k.setCell c x).cell d = k.cell d := by
  cases c with
  | a =>
    cases d with
    | a => exact absurd rfl h
    | b => rfl
  | b =>
    cases d with
    | a => rfl
    | b => exact absurd rfl h

theorem KeyEntry.cell_setCell (k : KeyEntry) (c d : CellId) (x : Cell) :
    (k.setCell c x).cell d = if d = c then x else k.cell d := by
  split
  · next h => rw [h, KeyEntry.cell_setCell_same]
  · next h => rw [KeyEntry.cell_setCell_ne _ _ h]

@[simp] theorem KeyEntry.setCell_serving (k : KeyEntry) (c : CellId) (x : Cell) : (k.setCell c x).serving = k.serving := by
  cases c <;> rfl

@[simp] theorem KeyEntry.setCell_uses (k : KeyEntry) (c : CellId) (x : Cell) : (k.setCell c x).uses = k.uses := by
  cases c <;> rfl

@[simp] theorem KeyEntry.setCell_cls (k : KeyEntry) (c : CellId) (x : Cell) : (k.setCell c x).cls = k.cls := by
  cases c <;> rfl

/-- An entry with one cell changed, where it is a KEY; `entry_modCell` ties it to `State.modCell`. -/
def Entry.modCell (e : Entry) (c : CellId) (f : Cell → Cell) : Entry :=
  match e with
  | .key k => .key (k.setCell c (f (k.cell c)))
  | e => e

theorem State.entry_of_ge (s : State) {n : Nat} (h : ¬ n < 128) : s.entry n = .empty := dif_neg h

theorem State.lt_of_entry_key {s : State} {n : Nat} {k : KeyEntry} (h : s.entry n = .key k) : n < 128 := by
  by_contra hn
  rw [s.entry_of_ge hn] at h
  simp at h

theorem State.lt_of_job {s : State} {n : Nat} {j : Job} (h : s.job n = some j) : n < 16 := by
  by_contra hn
  rw [State.job, dif_neg hn] at h
  simp at h

theorem State.job_of_ge (s : State) {n : Nat} (h : ¬ n < 16) : s.job n = none := dif_neg h

theorem State.batch_of_ge (s : State) {n : Nat} (h : ¬ n < 32) : s.batch n = unusedBatch := dif_neg h

theorem entry_modCell (s : State) (n m : Nat) (c : CellId) (f : Cell → Cell) :
    (s.modCell n c f).entry m = if m = n then (s.entry n).modCell c f else s.entry m := by
  unfold State.modCell
  cases he : s.entry n with
  | key k =>
    rw [State.entry_setEntry]
    simp [Entry.modCell, State.lt_of_entry_key he]
  | empty | gate =>
    dsimp only
    split
    · next h => rw [h, he]; rfl
    · rfl

theorem batch_setBatch_eq (s : State) (n m : Nat) (b : Batch) (h : ¬ n < 32 → b = unusedBatch) :
    (s.setBatch n b).batch m = if m = n then b else s.batch m := by
  rw [State.batch_setBatch]
  by_cases hn : n < 32
  · simp [hn]
  · by_cases hm : m = n
    · subst hm; simp [hn, h hn, s.batch_of_ge hn]
    · simp [hm]

/-- The release of one hold is a change of that cell and perhaps a notice (R10, R11). -/
theorem releaseCell_eq (loud : Bool) (s : State) (x : Nat × CellId) :
    ∃ ns, State.releaseCell loud s x = { s.modCell x.1 x.2 releasedCell with notices := ns } ∧
      (ns = s.notices ∨ ns = raiseIn (.cellDrained x.1 x.2) 0 s.notices) := by
  unfold State.releaseCell State.modCell
  split
  · dsimp only
    split
    · exact ⟨_, rfl, .inr rfl⟩
    · exact ⟨s.notices, rfl, .inl rfl⟩
  · exact ⟨s.notices, rfl, .inl rfl⟩

theorem entry_releaseCell (loud : Bool) (s : State) (x : Nat × CellId) (m : Nat) :
    (State.releaseCell loud s x).entry m = if m = x.1 then (s.entry x.1).modCell x.2 releasedCell else s.entry m := by
  obtain ⟨ns, h, _⟩ := releaseCell_eq loud s x
  rw [h]
  exact entry_modCell s x.1 m x.2 releasedCell

/-- The close of the ceremony is a change of its target cell (R52). -/
theorem closeCeremony_some {s : State} {c : Ceremony} (h : s.ceremony = some c) :
    s.closeCeremony =
      { s.modCell c.slot c.cell (fun x => if x.state = .forming then blankCell else x) with ceremony := none } := by
  unfold State.closeCeremony; rw [h]

theorem closeCeremony_none {s : State} (h : s.ceremony = none) : s.closeCeremony = s := by
  unfold State.closeCeremony; rw [h]

end Sys2Proof.Machine
end

/-! SUPPORT. What one event is made of: the moves that the tries of heads, the job ends and the entry to ZEROISING consist of.
Every relation that the statements of the invariants name is shown to be kept by each move, and every command to be a run of
moves. -/

section
namespace Sys2Proof.Machine

/-! ### What an entry, a batch record and a job may become -/

/-- A port unit within its entries (R145, R146). -/
def PortUnit.fits (u : PortUnit) : Prop := u.entriesTaken ≤ 8 ∧ u.occupied.length + u.reserved ≤ 16

/-- The holds on a cell of an entry; none where there is no cell. -/
def Entry.held (e : Entry) (c : CellId) : Nat :=
  match e with
  | .key k => (k.cell c).inFlight
  | _ => 0

/-- The key value in a cell of an entry, as `State.cellValue` reads it. -/
def Entry.value (e : Entry) (c : CellId) : Block :=
  match e with
  | .key k => (k.cell c).value.getD 0
  | _ => 0

/-- A cell of the entry is FORMING. -/
def Entry.forms (e : Entry) (c : CellId) : Prop := ∃ k, e = .key k ∧ (k.cell c).state = .forming

/-- The entry, if a KEY, is as R4 and R6 say. -/
def Entry.ok (e : Entry) : Prop := ∀ k, e = .key k → k.ok

/-- The uses of the entry, if a KEY, are permitted by its class (R3). -/
def Entry.usesFit (e : Entry) : Prop := ∀ k, e = .key k → ∀ u ∈ k.uses, u ∈ k.cls.permitted

/-- What a custody request may make of an entry: it stays as R4 and R6 say, no hold on a cell changes, and neither does the value
of a cell that is held, nor a FORMING cell. -/
structure Entry.Becomes (e e' : Entry) : Prop where
  ok : e.ok → e'.ok
  uses : e.usesFit → e'.usesFit
  held : e.ok → ∀ c, e'.held c = e.held c
  value : e.ok → ∀ c, 0 < e.held c → e'.value c = e.value c
  forms : e.ok → ∀ c, e.forms c → e'.forms c

/-- A reserved position (R61). -/
def PosState.reserved (x : PosState) : Prop := x = .reservedFresh ∨ x = .reservedSpoilt

/-- What a batch request may make of a record: the counters stay in agreement, the state with the reservations, and a run in
which a position is reserved keeps its reservations, its first serial and its domain. -/
structure Batch.Becomes (b b' : Batch) : Prop where
  agrees : b.agrees → b'.agrees
  fits : b.agrees → b.stateFits → b'.stateFits
  reserved : b.agrees → b.stateFits → ∀ (pos : Nat) (x : PosState), x.reserved → (b'.map[pos]? = some x ↔ b.map[pos]? = some x)
  run : b.agrees → b.stateFits → (∃ (pos : Nat) (x : PosState), x.reserved ∧ b.map[pos]? = some x) →
  b'.first = b.first ∧ b'.domain = b.domain

/-- What stays of a job's context while it lives: its kind, a DERIVE's position, a stream within its count. -/
def JobCtx.Follows : JobCtx → JobCtx → Prop
  | .derive c, .derive c' => c'.batch = c.batch ∧ c'.pos = c.pos ∧ c'.prior = c.prior
  | .stream c, .stream c' => c.accepted ≤ c.declared → c'.accepted ≤ c'.declared
  | .custody _, .custody _ => True
  | _, _ => False

/-- A STREAM is IDLE exactly while it has no chunk in service (R87). -/
def Job.idleFits (j : Job) : Prop := ∀ c, j.ctx = .stream c → (j.state = .idle ↔ c.inService = none)

/-- What a request, a grant end or the passes may make of a live job; a grant start alone makes a job IN_GRANT. -/
structure Job.Follows (j j' : Job) : Prop where
  owner : j'.owner = j.owner
  captured : j'.captured = j.captured
  ctx : j.ctx.Follows j'.ctx
  idle : j.idleFits → j'.idleFits
  grant : j'.state = .inGrant → j.state = .inGrant

/-- The grant of a job IN_GRANT goes on with the same passes. -/
structure Job.SameWork (j j' : Job) : Prop where
  state : j.state = .inGrant → j'.state = .inGrant
  input : j.state = .inGrant → ∀ (s : State) (held : List Block),
    s.passInput (s.recordAll j' held) = s.passInput (s.recordAll j held)

/-- A cell that serves a KEY entry with this use (R37 step 6). -/
def State.serves (s : State) (x : Nat × CellId) (u : KeyUse) : Prop :=
  ∃ k, s.entry x.1 = .key k ∧ u ∈ k.uses ∧ k.serving = some x.2

/-! ### The moves -/

/-- Steps 1 to 4 of a job's end (R98): the position, the cells and the responses. -/
def State.settleJob (s : State) (commits loud : Bool) (answers : List Response) (j : Job) : State :=
  ((s.settlePosition commits j).releaseCaptured loud j).respondAll j.owner answers

/-- One move of an event. `linked` says that the grant in progress is the one its job is in, as it is but while a grant ends or is
abandoned; `now` that the arbiter may decide within the tries. -/
inductive Move (linked : Prop) (now : Bool) (s : State) : State → Prop
  | aside (seqs causes first tag tries choices) :
    Move linked now s
      { s with seqs := seqs, causes := causes, firstCause := first, zeroTag := tag, tries := tries, choices := choices }
  | port (p : Port) (u : PortUnit) (h : (s.port p).fits → u.fits) : Move linked now s (s.setPort p u)
  | waits (ws : List LinePort) (h : s.waitList.Nodup → ws.Nodup) : Move linked now s { s with waitList := ws }
  | notices (ns : List Notice) (h : (s.notices.map Notice.key).Nodup → (ns.map Notice.key).Nodup) :
    Move linked now s { s with notices := ns }
  | bind (l : LinePort) (b : Binding) : Move linked now s (s.bind l b)
  | unlock (h : s.mode = .lockout) : Move linked now s { s with mode := .operating }
  | entry (n : Nat) (e : Entry) (h : (s.entry n).Becomes e) : Move linked now s (s.setEntry n e)
  | beginCeremony (cer : Ceremony) (ha : s.admitting = true) (hc : s.ceremony = none) (hr : cer.running = 0)
      (hf : (s.entry cer.slot).forms cer.cell) : Move linked now s (s.setCeremony cer)
  | closeCeremony (h : linked → s.custodyJobLive = none) : Move linked now s s.closeCeremony
  | batch (n : Nat) (b : Batch) (h : (s.batch n).Becomes b) : Move linked now s (s.setBatch n b)
  | derive (l : LinePort) (tag : Byte) (b pos : Nat) (prior : PosState) (keys : List Nat) (mk tk : Nat × CellId) (slot : Nat)
      (ha : s.admitting = true) (hb : (s.batch b).state = .opened) (hp : (s.batch b).reserveTest pos = .ok prior)
      (hm : s.serves mk .derive) (ht : s.serves tk .wrap) (hs : s.lineSlotFor (.line l) = .ok slot) :
    Move linked now s
      ((((s.setBatch b ((s.batch b).reserve pos prior)).capture mk.1 mk.2).capture tk.1 tk.2).placeJob slot
        { owner := .line l, tag := tag, state := .waiting, captured := [mk, tk], cancelPending := false
          ctx := .derive { batch := b, pos := pos, prior := prior, keys := keys, done := 0, results := [] } })
  | stream (l : LinePort) (tag seq : Byte) (sk dk : Nat × CellId) (ivIn ivOut : Block) (n limit slot : Nat)
      (ha : s.admitting = true) (hm : s.serves sk .decryptIn) (ht : s.serves dk .encryptOut)
      (hs : s.lineSlotFor (.line l) = .ok slot) :
    Move linked now s
      (((s.capture sk.1 sk.2).capture dk.1 dk.2).placeJob slot
        { owner := .line l, tag := tag, state := .idle, captured := [sk, dk], cancelPending := false
          ctx := .stream { seq := seq, chainIn := ivIn, chainOut := ivOut, declared := n, done := 0, inService := none,
                           staged := none, idle := some limit, closing := none } })
  | custody (tag : Byte) (cer : Ceremony) (custodian : Nat) (value : Block) (ha : s.admitting = true)
      (hs : s.job Config.custodySlot = none) :
    Move linked now s (s.placeJob Config.custodySlot (custodyJob .cp tag cer custodian value))
  | job (slot : Nat) (j j' : Job) (hj : s.job slot = some j) (hf : j.Follows j') (hl : linked → j.SameWork j') :
    Move linked now s (s.setJob slot (some j'))
  | ends (slot : Nat) (j : Job) (commits loud : Bool) (answers : List Response) (hj : s.job slot = some j)
      (hl : linked → j.state ≠ .inGrant) :
    Move linked now s ((s.settleJob commits loud answers j).freeSlot slot j.owner)
  | arbitrate (hn : now = true) (ha : s.alive = true) : Move linked now s s.arbitrate
  | zeroise : Move linked now s s.enterZeroising
  | join (hl : ¬ linked) (cer cer' : Ceremony) (hc : s.ceremony = some cer) (hs : cer'.slot = cer.slot)
      (hx : cer'.cell = cer.cell) : Move linked now s (s.setCeremony cer')
  | combine (hl : ¬ linked) (cer : Ceremony) (x : Cell) (hc : s.ceremony = some cer) (hx : x.ok)
      (hr : x.state = .ready ∨ x.state = .blank) (h0 : x.inFlight = 0) :
    Move linked now s { s.modCell cer.slot cer.cell (fun _ => x) with ceremony := none }
  | freeEngine (hl : ¬ linked) : Move linked now s { s with engine := none }

/-- A run of moves. -/
def Moves (linked : Prop) (now : Bool) : State → State → Prop := Relation.ReflTransGen (Move linked now)

/-- What each move keeps, a run of moves keeps. -/
theorem Moves.keeps {linked : Prop} {now : Bool} {I : State → Prop} (hI : ∀ {s t}, Move linked now s t → I s → I t)
    {s t : State} (h : Moves linked now s t) (hs : I s) : I t := by
  induction h with
  | refl => exact hs
  | tail _ hm ih => exact hI hm ih

/-! ### What the composite moves touch -/

theorem settleJob_touches (s : State) (commits loud : Bool) (answers : List Response) (j : Job) :
    ∃ batches notices keys ports, s.settleJob commits loud answers j =
      { s with batches := batches, notices := notices, keys := keys, ports := ports } := by
  obtain ⟨b, n1, h1⟩ := settlePosition_touches commits s j
  obtain ⟨k, n2, h2⟩ := releaseCaptured_touches loud (s.settlePosition commits j) j
  obtain ⟨p, h3⟩ := respondAll_touches ((s.settlePosition commits j).releaseCaptured loud j) j.owner answers
  exact ⟨b, n2, k, p, by rw [State.settleJob, h3, h2, h1]⟩

theorem captures_touch (s : State) (x y : Nat × CellId) :
    ∃ keys, (s.capture x.1 x.2).capture y.1 y.2 = { s with keys := keys } := by
  obtain ⟨k1, h1⟩ := capture_touches s x.1 x.2
  obtain ⟨k2, h2⟩ := capture_touches (s.capture x.1 x.2) y.1 y.2
  exact ⟨k2, by rw [h2, h1]⟩

/-- A job that is live ends with TAMPER by steps 1 to 5 of R98 alone. -/
theorem tamperJob_live {s : State} {slot : Nat} {j : Job} (hj : s.job slot = some j) :
    s.tamperJob slot = (s.settleJob false false (j.owed .tamper) j).freeSlot slot j.owner := by
  unfold State.tamperJob
  rw [hj]
  exact endJob_live _ slot s j hj

theorem tamperJob_free {s : State} {slot : Nat} (hj : s.job slot = none) : s.tamperJob slot = s := by
  unfold State.tamperJob; rw [hj]

/-- What the end of a job keeps, the end of all of them with TAMPER keeps. -/
theorem tamperJobs_keeps {I : State → Prop}
    (hI : ∀ s slot j, s.job slot = some j → I s → I ((s.settleJob false false (j.owed .tamper) j).freeSlot slot j.owner))
    {s : State} (hs : I s) : I s.tamperJobs := by
  have h : ∀ (ns : List Nat) (t : State), I t → I (ns.foldl State.tamperJob t) := by
    intro ns
    induction ns with
    | nil => exact fun t ht => ht
    | cons n ns ih =>
      intro t ht
      refine ih _ ?_
      cases hj : t.job n with
      | none => rwa [tamperJob_free hj]
      | some j => rw [tamperJob_live hj]; exact hI t n j hj ht
  exact h _ s hs

theorem freeSlot_job (s : State) (slot n : Nat) (p : Port) :
    (s.freeSlot slot p).job n = if n = slot then none else s.job n := by
  show (s.setJob slot none).job n = _
  rw [State.job_setJob]
  by_cases h : n = slot
  · by_cases h16 : slot < 16
    · simp [h, h16]
    · simp [h, h16, s.job_of_ge h16]
  · simp [h]

theorem settleJob_job (s : State) (commits loud : Bool) (answers : List Response) (j : Job) (n : Nat) :
    (s.settleJob commits loud answers j).job n = s.job n := by
  obtain ⟨_, _, _, _, h⟩ := settleJob_touches s commits loud answers j
  rw [h]; rfl

theorem tamperJob_job (s : State) (slot n : Nat) : (s.tamperJob slot).job n = if n = slot then none else s.job n := by
  cases hj : s.job slot with
  | none =>
    rw [tamperJob_free hj]
    split
    · next h => rw [h, hj]
    · rfl
  | some j => rw [tamperJob_live hj, freeSlot_job, settleJob_job]

/-- No job is left by the entry to ZEROISING (R101). -/
theorem tamperJobs_job (s : State) (n : Nat) : s.tamperJobs.job n = none := by
  have h : ∀ (ns : List Nat) (t : State), (ns.foldl State.tamperJob t).job n = if n ∈ ns then none else t.job n := by
    intro ns
    induction ns with
    | nil => intro t; simp
    | cons m ns ih =>
      intro t
      rw [List.foldl_cons, ih, tamperJob_job]
      by_cases h1 : n ∈ ns <;> by_cases h2 : n = m <;> simp [h1, h2]
  rw [State.tamperJobs, h]
  by_cases hn : n < 16
  · simp [hn]
  · simp [hn, s.job_of_ge hn]

theorem tamperJobs_touches (s : State) :
    ∃ batches notices keys ports slots live, s.tamperJobs =
      { s with batches := batches, notices := notices, keys := keys, ports := ports, slots := slots, live := live } := by
  refine tamperJobs_keeps (I := fun t => ∃ batches notices keys ports slots live, t =
      { s with batches := batches, notices := notices, keys := keys, ports := ports, slots := slots, live := live })
    ?_ ⟨s.batches, s.notices, s.keys, s.ports, s.slots, s.live, rfl⟩
  rintro t slot j _ ⟨b, n, k, p, sl, li, rfl⟩
  obtain ⟨b', n', k', p', h⟩ := settleJob_touches
    { s with batches := b, notices := n, keys := k, ports := p, slots := sl, live := li } false false (j.owed .tamper) j
  exact ⟨b', n', k', p', _, _, by rw [h]; rfl⟩

theorem mapVector_get {α : Type} {n : Nat} (f : α → α) (v : Vector α n) (i : Nat) (h : i < n) :
    (mapVector f v)[i] = f v[i] := by
  simp [mapVector]

@[simp] theorem entry_clearCells (s : State) (n : Nat) : s.clearCells.entry n = (s.entry n).zeroised := by
  unfold State.entry State.clearCells
  split
  · exact mapVector_get _ _ _ _
  · rfl

@[simp] theorem batch_suspendBatches (s : State) (n : Nat) : s.suspendBatches.batch n = (s.batch n).suspend := by
  unfold State.batch State.suspendBatches
  split
  · exact mapVector_get _ _ _ _
  · rfl

/-- The entry to ZEROISING without jobs and ceremony to end (R164, R169). -/
theorem enterZeroising_off {s : State} (h : s.alive = false) :
    s.enterZeroising = s.startZeroisation.suspendBatches.clearCells := by
  simp [State.enterZeroising, h]

/-- The entry to ZEROISING with the part at work, in the order of R160. -/
theorem enterZeroising_on {s : State} (h : s.alive = true) :
    s.enterZeroising = s.startZeroisation.tamperJobs.clearEngine.closeCeremony.suspendBatches.clearCells := by
  simp [State.enterZeroising, h]

/-- What the entry to ZEROISING with the part at work leaves of the fields that its steps do not compute. -/
theorem enterZeroising_on_touches {s : State} (h : s.alive = true) :
    ∃ batches keys, s.enterZeroising =
      { s with
        zeroisePending := true, mode := .zeroising, zeroRun := some 0, engine := none, deficits := ⟨0, 0, 0, 0⟩
        pointer := .l0, waitList := [], ceremony := none, batches := batches, keys := keys
        notices := s.startZeroisation.tamperJobs.notices, ports := s.startZeroisation.tamperJobs.ports
        slots := s.startZeroisation.tamperJobs.slots, live := s.startZeroisation.tamperJobs.live } := by
  obtain ⟨b, n, k, p, sl, li, h1⟩ := tamperJobs_touches s.startZeroisation
  obtain ⟨k2, h2⟩ := closeCeremony_touches s.startZeroisation.tamperJobs.clearEngine
  rw [enterZeroising_on h, h2]
  exact ⟨_, _, by rw [h1]; rfl⟩

/-! ### The arbiter's decision -/

theorem startGrant_of_job {s : State} {slot : Nat} {j : Job} (hj : s.job slot = some j) :
    ∃ deficits, s.startGrant slot =
      { s.setJob slot (some { j with state := .inGrant }) with
        deficits := deficits
        engine := some { slot := slot, size := j.grantSize, held := [], work := s.passInput j } } ∧
      ∀ l, deficits.get l ≤ s.deficit l := by
  unfold State.startGrant
  rw [hj]
  dsimp only
  split
  · exact ⟨s.deficits, rfl, fun l => le_rfl⟩
  · next l _ =>
    refine ⟨_, rfl, fun m => ?_⟩
    show (s.deficits.set l (s.deficit l - j.grantSize)).get m ≤ s.deficit m
    by_cases hm : m = l
    · subst hm
      rw [PerLine.get_set_same]
      exact Nat.sub_le _ _
    · rw [PerLine.get_set_ne _ _ hm]
      exact le_rfl

theorem waitingAt_iff {s : State} {slot : Nat} : s.waitingAt slot = true ↔ ∃ j, s.job slot = some j ∧ j.state = .waiting := by
  unfold State.waitingAt
  cases s.job slot <;> simp

theorem oldestWaiting_some {s : State} {p : Port} {slot : Nat} (h : s.oldestWaiting p = some slot) :
    ∃ j, s.job slot = some j ∧ j.state = .waiting := waitingAt_iff.1 (List.find?_some h)

/-- The job that a covered port offers is its oldest WAITING one (R108 step 2). -/
theorem coveredJob_some {s : State} {l : LinePort} {slot : Nat} (h : s.coveredJob l = some slot) :
    s.oldestWaiting (.line l) = some slot ∧ ∃ j, s.job slot = some j ∧ j.state = .waiting ∧ j.grantSize ≤ s.deficit l := by
  unfold State.coveredJob at h
  split at h
  · next x hx =>
    obtain ⟨j, hj, hw⟩ := oldestWaiting_some hx
    rw [hj] at h
    dsimp only at h
    split at h
    · next hsize => cases h; exact ⟨hx, j, hj, hw, hsize⟩
    · simp at h
  · simp at h

/-- A port with a WAITING job that is not covered has less in its deficit than that job's grant. -/
theorem coveredJob_none {s : State} {l : LinePort} {slot : Nat} (h : s.coveredJob l = none)
    (ho : s.oldestWaiting (.line l) = some slot) : ∃ j, s.job slot = some j ∧ s.deficit l < j.grantSize := by
  obtain ⟨j, hj, _⟩ := oldestWaiting_some ho
  unfold State.coveredJob at h
  rw [ho] at h
  dsimp only at h
  rw [hj] at h
  dsimp only at h
  split at h
  · simp at h
  · next hlt => exact ⟨j, hj, by omega⟩

/-- All that a decision of the arbiter can be: nothing, or a grant start for a WAITING job, in each case perhaps after the end of
a visit whose port was not covered (R108). -/
theorem arbitrate_cases (s : State) :
    s.arbitrate = s ∨ s.engine = none ∧ ∃ t, (t = s ∨ s.coveredJob s.pointer = none ∧ t = s.endVisit) ∧
      (s.arbitrate = t ∨ ∃ slot j, t.job slot = some j ∧ j.state = .waiting ∧ s.arbitrate = t.startGrant slot) := by
  unfold State.arbitrate
  split
  · exact .inl rfl
  · next he =>
    refine .inr ⟨he, ?_⟩
    split
    · next hw =>
      obtain ⟨j, hj, hjw⟩ := waitingAt_iff.1 hw
      exact ⟨s, .inl rfl, .inr ⟨_, j, hj, hjw, rfl⟩⟩
    · unfold State.decideLine
      split
      · next slot hc =>
        obtain ⟨_, j, hj, hjw, _⟩ := coveredJob_some hc
        exact ⟨s, .inl rfl, .inr ⟨slot, j, hj, hjw, rfl⟩⟩
      · next hc =>
        dsimp only
        refine ⟨s.endVisit, .inr ⟨hc, rfl⟩, ?_⟩
        split
        · next slot hc' =>
          obtain ⟨_, j, hj, hjw, _⟩ := coveredJob_some hc'
          exact .inr ⟨slot, j, hj, hjw, rfl⟩
        · exact .inl rfl

/-- What a decision of the arbiter does to the jobs and the engine: nothing, or the grant start of one WAITING job (R104). -/
theorem arbitrate_grants (s : State) :
    (∃ pointer deficits, s.arbitrate = { s with pointer := pointer, deficits := deficits }) ∨
    ∃ slot j pointer deficits, s.engine = none ∧ s.job slot = some j ∧ j.state = .waiting ∧ s.arbitrate =
      { s.setJob slot (some { j with state := .inGrant }) with
        pointer := pointer, deficits := deficits
        engine := some { slot := slot, size := j.grantSize, held := [], work := s.passInput j } } := by
  rcases arbitrate_cases s with h | ⟨he, t, ht, h⟩
  · exact .inl ⟨s.pointer, s.deficits, h⟩
  have ht : ∃ pointer deficits, t = { s with pointer := pointer, deficits := deficits } := by
    rcases ht with rfl | ⟨_, rfl⟩
    · exact ⟨t.pointer, t.deficits, rfl⟩
    · exact endVisit_touches s
  obtain ⟨p, d, rfl⟩ := ht
  rcases h with h | ⟨slot, j, hj, hw, h⟩
  · exact .inl ⟨p, d, h⟩
  · obtain ⟨d', hg, _⟩ := startGrant_of_job hj
    exact .inr ⟨slot, j, p, d', he, hj, hw, by rw [h, hg]; rfl⟩

/-- With no job WAITING the arbiter changes nothing (R108). -/
theorem arbitrate_idle {s : State} (hcp : s.waitingAt Config.custodySlot = false)
    (hl : ∀ l, s.oldestWaiting (.line l) = none) : s.arbitrate = s := by
  have hc : ∀ l, s.coveredJob l = none := fun l => by unfold State.coveredJob; rw [hl]
  have hv : s.endVisit = s := by
    unfold State.endVisit
    rw [List.find?_eq_none.2 fun l _ => by simp [hl]]
  unfold State.arbitrate
  split
  · rfl
  · rw [hcp, if_neg (by simp), State.decideLine, hc]
    dsimp only
    rw [hv, hc]

theorem arbitrate_without_jobs {s : State} (h : ∀ n, s.job n = none) : s.arbitrate = s := by
  have hw : ∀ n, s.waitingAt n = false := fun n => by simp [State.waitingAt, h]
  exact arbitrate_idle (hw _) fun l => List.find?_eq_none.2 fun n _ => by simp [hw]

end Sys2Proof.Machine
end

/-! SUPPORT. What a move does to the jobs: nothing, or it places, changes, frees or grants one, or the entry to ZEROISING ends
them all. From that: the live-job lists, the streams' counts, the IDLE streams, and the part without work. -/

section
namespace Sys2Proof.Machine

variable {linked : Prop} {now : Bool} {s t : State}

/-! ### The tables that two states share -/

theorem job_congr (h : t.slots = s.slots) (n : Nat) : t.job n = s.job n := by unfold State.job; rw [h]
theorem liveOf_congr (h : t.live = s.live) (p : Port) : t.liveOf p = s.liveOf p := by unfold State.liveOf; rw [h]
theorem entry_congr (h : t.keys = s.keys) (n : Nat) : t.entry n = s.entry n := by unfold State.entry; rw [h]
theorem batch_congr (h : t.batches = s.batches) (n : Nat) : t.batch n = s.batch n := by unfold State.batch; rw [h]
theorem port_congr (h : t.ports = s.ports) (p : Port) : t.port p = s.port p := by unfold State.port; rw [h]

/-! ### Jobs after one write -/

theorem setJob_some {slot n : Nat} {o : Option Job} {x : Job} (h : (s.setJob slot o).job n = some x) :
    n = slot ∧ o = some x ∨ n ≠ slot ∧ s.job n = some x := by
  rw [State.job_setJob] at h
  split at h
  · next hn => exact .inl ⟨hn.1, h⟩
  · next hn =>
    by_cases he : n = slot
    · subst he
      exact absurd ⟨rfl, State.lt_of_job h⟩ hn
    · exact .inr ⟨he, h⟩

theorem setJob_live {slot : Nat} {j : Job} (hj : s.job slot = some j) (o : Option Job) : (s.setJob slot o).job slot = o :=
  State.job_setJob_same s slot o (State.lt_of_job hj)

theorem freeSlot_some {slot n : Nat} {p : Port} {x : Job} (h : (s.freeSlot slot p).job n = some x) :
    n ≠ slot ∧ s.job n = some x := by
  rw [freeSlot_job] at h
  split at h
  · simp at h
  · next hn => exact ⟨hn, h⟩

theorem lineSlotFor_ok {p : Port} {slot : Nat} (h : s.lineSlotFor p = .ok slot) :
    slot < 15 ∧ s.job slot = none ∧ (s.liveOf p).length < 5 := by
  unfold State.lineSlotFor at h
  split at h
  · simp at h
  · next hq =>
    split at h
    · next i hi =>
      simp only [Except.ok.injEq] at h
      subst h
      have hmem := List.mem_of_find?_eq_some hi
      have hfree := List.find?_some hi
      simp only [Config.lineSlots, List.mem_range] at hmem
      simp only [Config.lineQuota] at hq
      exact ⟨hmem, by simpa using hfree, by omega⟩
    · simp at h

/-! ### The inversion lemma for the jobs -/

/-- A job that an admission makes, and the slot it takes (R83 to R85, R117, R128, R47). -/
structure NewJob (s : State) (slot : Nat) (j : Job) : Prop where
  admitting : s.admitting = true
  free : s.job slot = none
  lt : slot < 16
  place : slot = Config.custodySlot ∧ j.owner = .cp ∧ (∃ c, j.ctx = .custody c) ∨
    slot < 15 ∧ (∃ l, j.owner = .line l ∧ (s.liveOf (.line l)).length < 5) ∧ ∀ c, j.ctx ≠ .custody c
  notGranted : j.state ≠ .inGrant
  idle : j.idleFits
  fits : ∀ c, j.ctx = .stream c → c.accepted ≤ c.declared

/-- What a move makes of the slots and the live-job lists. -/
inductive JobMove (now : Bool) (s : State) : Vector (Option Job) 16 → PerPort (List Nat) → Prop
  | same : JobMove now s s.slots s.live
  | placed (slot : Nat) (j : Job) (h : NewJob s slot j) : JobMove now s (s.placeJob slot j).slots (s.placeJob slot j).live
  | changed (slot : Nat) (j j' : Job) (hj : s.job slot = some j) (hf : j.Follows j') :
    JobMove now s (s.setJob slot (some j')).slots s.live
  | freed (slot : Nat) (j : Job) (hj : s.job slot = some j) :
    JobMove now s (s.freeSlot slot j.owner).slots (s.freeSlot slot j.owner).live
  | granted (hn : now = true) (slot : Nat) (j : Job) (hj : s.job slot = some j) (hw : j.state = .waiting) :
    JobMove now s (s.setJob slot (some { j with state := .inGrant })).slots s.live
  | gone : JobMove now s s.startZeroisation.tamperJobs.slots s.startZeroisation.tamperJobs.live

theorem Move.jobMove (hm : Move linked now s t) : JobMove now s t.slots t.live := by
  cases hm with
  | aside | port | waits | notices | bind | unlock | entry | beginCeremony | batch | join | freeEngine => exact .same
  | closeCeremony =>
    obtain ⟨k, hk⟩ := closeCeremony_touches s
    rw [hk]; exact .same
  | combine _ cer x =>
    obtain ⟨k, hk⟩ := modCell_touches s cer.slot cer.cell fun _ => x
    rw [hk]; exact .same
  | derive l tag b pos prior keys mk tk slot ha _ _ _ _ hs =>
    obtain ⟨k, hk⟩ := captures_touch (s.setBatch b ((s.batch b).reserve pos prior)) mk tk
    obtain ⟨hlt, hfree, hq⟩ := lineSlotFor_ok hs
    rw [hk]
    exact .placed slot _ ⟨ha, hfree, by omega, .inr ⟨hlt, ⟨l, rfl, hq⟩, fun c => by simp⟩, by simp, fun c h => by simp at h,
      fun c h => by simp at h⟩
  | stream l tag seq sk dk ivIn ivOut n limit slot ha _ _ hs =>
    obtain ⟨k, hk⟩ := captures_touch s sk dk
    obtain ⟨hlt, hfree, hq⟩ := lineSlotFor_ok hs
    rw [hk]
    refine .placed slot _ ⟨ha, hfree, by omega, .inr ⟨hlt, ⟨l, rfl, hq⟩, fun c => by simp⟩, by simp, fun c h => ?_,
      fun c h => ?_⟩
    all_goals
      simp only [JobCtx.stream.injEq] at h
      subst h
      simp [StreamCtx.accepted]
  | custody tag cer custodian value ha hs =>
    exact .placed _ _ ⟨ha, hs, by decide, .inl ⟨rfl, rfl, _, rfl⟩, by simp [custodyJob], fun c h => by simp [custodyJob] at h,
      fun c h => by simp [custodyJob] at h⟩
  | job slot j j' hj hf => exact .changed slot j j' hj hf
  | ends slot j commits loud answers hj =>
    obtain ⟨b, n, k, p, h⟩ := settleJob_touches s commits loud answers j
    rw [h]; exact .freed slot j hj
  | arbitrate hn =>
    rcases arbitrate_grants s with ⟨p, d, h⟩ | ⟨slot, j, p, d, _, hj, hw, h⟩
    · rw [h]; exact .same
    · rw [h]; exact .granted hn slot j hj hw
  | zeroise =>
    cases ha : s.alive with
    | false => rw [enterZeroising_off ha]; exact .same
    | true =>
      obtain ⟨b, k, h⟩ := enterZeroising_on_touches ha
      rw [h]
      dsimp only
      exact .gone

/-! ### The live-job lists (R83 to R85, R88) -/

theorem jobsListed_congr (h1 : t.slots = s.slots) (h2 : t.live = s.live) (h : s.jobsListed) : t.jobsListed := by
  simp only [State.jobsListed, job_congr h1, liveOf_congr h2]
  exact h

theorem JobCtx.Follows.custody_iff {c c' : JobCtx} (h : c.Follows c') : (∃ x, c' = .custody x) ↔ ∃ x, c = .custody x := by
  cases c <;> cases c' <;> simp [JobCtx.Follows] at h ⊢

/-- A change of a job that keeps its owner and whether it is a CUSTODY job keeps the lists. -/
theorem jobsListed_setJob {slot : Nat} {j j' : Job} (hj : s.job slot = some j) (ho : j'.owner = j.owner)
    (hc : (∃ x, j'.ctx = .custody x) ↔ ∃ x, j.ctx = .custody x) (h : s.jobsListed) :
    (s.setJob slot (some j')).jobsListed := by
  obtain ⟨hlive, hnodup, hplace, hquota⟩ := h
  refine ⟨fun p n => ?_, hnodup, fun n x hx => ?_, hquota⟩
  · rw [State.liveOf_setJob, hlive]
    by_cases hn : n = slot
    · subst hn
      rw [hj, setJob_live hj]
      simp [ho]
    · rw [State.job_setJob_ne s _ hn]
  · rcases setJob_some hx with ⟨rfl, hxj⟩ | ⟨_, hx⟩
    · obtain rfl := Option.some.inj hxj
      rw [ho, hc]
      exact hplace n j hj
    · exact hplace n x hx

theorem jobsListed_placeJob {slot : Nat} {j : Job} (hn : NewJob s slot j) (h : s.jobsListed) :
    (s.placeJob slot j).jobsListed := by
  obtain ⟨hlive, hnodup, hplace, hquota, hcp⟩ := h
  have hjob : ∀ n, (s.placeJob slot j).job n = if n = slot then some j else s.job n := fun n => by
    show (s.setJob slot (some j)).job n = _
    rw [State.job_setJob]; simp [hn.lt]
  have hout : ∀ p, slot ∉ s.liveOf p := fun p hm => by
    obtain ⟨x, hx, _⟩ := (hlive p slot).1 hm
    rw [hn.free] at hx; simp at hx
  have hsame : (s.placeJob slot j).liveOf j.owner = s.liveOf j.owner ++ [slot] := State.liveOf_setLive_same _ _ _
  have hother : ∀ p, p ≠ j.owner → (s.placeJob slot j).liveOf p = s.liveOf p := fun p hp => State.liveOf_setLive_ne _ _ hp
  refine ⟨fun p n => ?_, fun p => ?_, fun n x hx => ?_, fun l => ?_, ?_⟩
  · rw [hjob]
    by_cases hp : p = j.owner
    · subst hp
      rw [hsame, List.mem_append, hlive]
      by_cases hns : n = slot
      · simp [hns]
      · simp [hns]
    · rw [hother p hp, hlive]
      by_cases hns : n = slot
      · subst hns
        simp [hn.free, Ne.symm hp]
      · simp [hns]
  · by_cases hp : p = j.owner
    · subst hp
      rw [hsame, List.nodup_append]
      exact ⟨hnodup _, by simp, fun a ha b hb => by
        simp only [List.mem_singleton] at hb
        subst hb
        exact fun e => hout _ (e ▸ ha)⟩
    · rw [hother p hp]; exact hnodup p
  · rw [hjob] at hx
    split at hx
    · next hns =>
      subst hns
      cases hx
      rcases hn.place with ⟨rfl, ho, hc⟩ | ⟨hlt, ⟨l, ho, _⟩, hc⟩
      · exact ⟨by simp [ho], by simp [hc]⟩
      · have hne : n ≠ Config.custodySlot := by unfold Config.custodySlot; omega
        exact ⟨by simp [ho, hne], by simp [hc, hne]⟩
    · exact hplace n x hx
  · by_cases hp : Port.line l = j.owner
    · rcases hn.place with ⟨_, ho, _⟩ | ⟨_, ⟨m, ho, hq⟩, _⟩
      · rw [ho] at hp; simp at hp
      · rw [← ho, ← hp] at hq
        rw [hp, hsame, ← hp]
        simp only [List.length_append, List.length_singleton, Config.lineQuota]
        omega
    · rw [hother _ hp]; exact hquota l
  · by_cases hp : Port.cp = j.owner
    · rcases hn.place with ⟨hslot, _, _⟩ | ⟨_, ⟨m, ho, _⟩, _⟩
      · have hempty : s.liveOf .cp = [] := List.eq_nil_iff_forall_not_mem.2 fun n hm => by
          obtain ⟨x, hx, hox⟩ := (hlive .cp n).1 hm
          have := (hplace n x hx).1.1 hox
          subst this
          rw [← hslot, hn.free] at hx; simp at hx
        rw [hp, hsame, ← hp, hempty]; simp
      · rw [ho] at hp; simp at hp
    · rw [hother _ hp]; exact hcp

theorem jobsListed_freeSlot {slot : Nat} {j : Job} (hj : s.job slot = some j) (h : s.jobsListed) :
    (s.freeSlot slot j.owner).jobsListed := by
  obtain ⟨hlive, hnodup, hplace, hquota, hcp⟩ := h
  have hsame : (s.freeSlot slot j.owner).liveOf j.owner = (s.liveOf j.owner).filter (· != slot) :=
    State.liveOf_setLive_same _ _ _
  have hother : ∀ p, p ≠ j.owner → (s.freeSlot slot j.owner).liveOf p = s.liveOf p :=
    fun p hp => State.liveOf_setLive_ne _ _ hp
  have hlen : ∀ p, ((s.freeSlot slot j.owner).liveOf p).length ≤ (s.liveOf p).length := fun p => by
    by_cases hp : p = j.owner
    · subst hp; rw [hsame]; exact List.length_filter_le _ _
    · rw [hother p hp]
  refine ⟨fun p n => ?_, fun p => ?_, fun n x hx => hplace n x (freeSlot_some hx).2, fun l => (hlen _).trans (hquota l),
    (hlen _).trans hcp⟩
  · rw [freeSlot_job]
    by_cases hp : p = j.owner
    · subst hp
      rw [hsame, List.mem_filter, hlive]
      by_cases hns : n = slot <;> simp [hns]
    · rw [hother p hp, hlive]
      by_cases hns : n = slot
      · subst hns
        simp [hj, Ne.symm hp]
      · simp [hns]
  · by_cases hp : p = j.owner
    · subst hp; rw [hsame]; exact (hnodup _).filter _
    · rw [hother p hp]; exact hnodup p

/-- Steps 1 to 5 of a job's end take it off its list (R98). -/
theorem jobsListed_ends {slot : Nat} {j : Job} (commits loud : Bool) (answers : List Response) (hj : s.job slot = some j)
    (h : s.jobsListed) : ((s.settleJob commits loud answers j).freeSlot slot j.owner).jobsListed := by
  obtain ⟨_, _, _, _, ht⟩ := settleJob_touches s commits loud answers j
  refine jobsListed_freeSlot (by rwa [settleJob_job]) ?_
  rw [ht]; exact h

theorem jobsListed_tamperJobs (h : s.jobsListed) : s.tamperJobs.jobsListed :=
  tamperJobs_keeps (I := State.jobsListed) (fun _ _ _ hj => jobsListed_ends _ _ _ hj) h

theorem Move.keeps_jobsListed (hm : Move linked now s t) (h : s.jobsListed) : t.jobsListed := by
  have congr : ∀ {u : State}, u.jobsListed → t.slots = u.slots → t.live = u.live → t.jobsListed :=
    fun hu h1 h2 => jobsListed_congr h1 h2 hu
  generalize hsl : t.slots = sl at congr
  generalize hli : t.live = li at congr
  have hjm := hm.jobMove
  rw [hsl, hli] at hjm
  cases hjm with
  | same => exact congr h rfl rfl
  | placed slot j hn => exact congr (jobsListed_placeJob hn h) rfl rfl
  | changed slot j j' hj hf => exact congr (jobsListed_setJob hj hf.owner hf.ctx.custody_iff h) rfl rfl
  | freed slot j hj => exact congr (jobsListed_freeSlot hj h) rfl rfl
  | granted _ slot j hj hw => exact congr (jobsListed_setJob (j' := { j with state := .inGrant }) hj rfl Iff.rfl h) rfl rfl
  | gone => exact congr (jobsListed_tamperJobs (s := s.startZeroisation) h) rfl rfl

/-! ### A property of every job by itself -/

/-- Every live job has the property. -/
def State.allJobs (P : Job → Prop) (s : State) : Prop := ∀ n j, s.job n = some j → P j

theorem allJobs_congr {P : Job → Prop} (h1 : t.slots = s.slots) (h : s.allJobs P) : t.allJobs P := by
  intro n j hj
  exact h n j (by rwa [job_congr h1] at hj)

theorem allJobs_setJob {P : Job → Prop} {slot : Nat} {o : Option Job} (ho : ∀ j, o = some j → P j) (h : s.allJobs P) :
    (s.setJob slot o).allJobs P := by
  intro n x hx
  rcases setJob_some hx with ⟨_, hx⟩ | ⟨_, hx⟩
  · exact ho x hx
  · exact h n x hx

/-- A property of the single job that a new job has, that a change and a grant start keep, is kept by every move. -/
theorem Move.keeps_allJobs {P : Job → Prop} (hnew : ∀ {s slot j}, NewJob s slot j → P j)
    (hfollows : ∀ {j j'}, j.Follows j' → P j → P j')
    (hgrant : now = true → ∀ {j}, j.state = .waiting → P j → P { j with state := .inGrant })
    (hm : Move linked now s t) (h : s.allJobs P) : t.allJobs P := by
  have congr : ∀ {u : State}, u.allJobs P → t.slots = u.slots → t.allJobs P := fun hu h1 => allJobs_congr h1 hu
  have hjm := hm.jobMove
  generalize hsl : t.slots = sl at congr hjm
  generalize t.live = li at hjm
  cases hjm with
  | same => exact congr h rfl
  | placed slot j hn =>
    exact congr (u := s.setJob slot (some j)) (allJobs_setJob (fun x hx => by cases hx; exact hnew hn) h) rfl
  | changed slot j j' hj hf =>
    exact congr (u := s.setJob slot (some j')) (allJobs_setJob (fun x hx => by cases hx; exact hfollows hf (h _ _ hj)) h) rfl
  | freed slot j hj => exact congr (u := s.setJob slot none) (allJobs_setJob (fun x hx => by cases hx) h) rfl
  | granted hn slot j hj hw =>
    exact congr (u := s.setJob slot (some { j with state := .inGrant }))
      (allJobs_setJob (fun x hx => by cases hx; exact hgrant hn hw (h _ _ hj)) h) rfl
  | gone =>
    refine congr (u := s.startZeroisation.tamperJobs) (fun n j hj => ?_) rfl
    rw [tamperJobs_job] at hj; simp at hj

/-! ### Streams within their count (R130), and IDLE streams (R87) -/

/-- A stream within its declared count. -/
def Job.streamFits (j : Job) : Prop := ∀ c, j.ctx = .stream c → c.accepted ≤ c.declared

theorem streamsFit_iff : s.streamsFit ↔ s.allJobs Job.streamFits :=
  ⟨fun h n j hj c hc => h n j c hj hc, fun h n j c hj hc => h n j hj c hc⟩

theorem Job.Follows.streamFits {j j' : Job} (hf : j.Follows j') (h : j.streamFits) : j'.streamFits := by
  intro c' hc'
  have hctx := hf.ctx
  rw [hc'] at hctx
  cases hc : j.ctx with
  | stream c => rw [hc] at hctx; exact hctx (h c hc)
  | derive | custody => rw [hc] at hctx; exact hctx.elim

theorem Move.keeps_streamsFit (hm : Move linked now s t) (h : s.streamsFit) : t.streamsFit := by
  rw [streamsFit_iff] at h ⊢
  exact hm.keeps_allJobs (fun hn => hn.fits) Job.Follows.streamFits (fun _ _ _ hp => hp) h

theorem Move.keeps_idleFits (hm : Move linked now s t) (h : s.allJobs Job.idleFits) : t.allJobs Job.idleFits := by
  refine hm.keeps_allJobs (fun hn => hn.idle) (fun hf => hf.idle) (fun _ j hw hp c hc => ?_) h
  have := hp c hc
  simp only [hw, reduceCtorEq, false_iff] at this
  simp [this]

/-! ### The part without work (R156, R162, R167) -/

theorem idleWork_enterZeroising (h : s.alive = false → s.idleWork) : s.enterZeroising.idleWork := by
  cases ha : s.alive with
  | false => rw [enterZeroising_off ha]; exact h ha
  | true =>
    obtain ⟨b, k, he⟩ := enterZeroising_on_touches ha
    have hs : s.enterZeroising.slots = s.startZeroisation.tamperJobs.slots := by rw [he]
    exact ⟨fun n => (job_congr hs n).trans (tamperJobs_job _ n), by rw [he], by rw [he]⟩

theorem enterZeroising_mode (s : State) :
    s.enterZeroising.mode = .zeroising ∧ s.enterZeroising.zeroisePending = true ∧ s.enterZeroising.zeroRun = some 0 ∧
      s.enterZeroising.alive = s.alive ∧ s.enterZeroising.sweep = s.sweep := by
  cases ha : s.alive with
  | false => rw [enterZeroising_off ha]; exact ⟨rfl, rfl, rfl, ha, rfl⟩
  | true =>
    obtain ⟨b, k, he⟩ := enterZeroising_on_touches ha
    rw [he]; exact ⟨rfl, rfl, rfl, ha, rfl⟩

theorem not_off_of_admitting (h : s.admitting = true) :
    ¬ (s.mode = .zeroising ∨ s.mode = .failed ∨ s.alive = false ∨ s.sweep ≠ .idle) := by
  simp only [State.admitting, Bool.and_eq_true, Bool.or_eq_true, beq_iff_eq] at h
  obtain ⟨⟨hm, hs⟩, ha⟩ := h
  rintro (h | h | h | h)
  · rcases hm with hm | hm <;> rw [h] at hm <;> simp at hm
  · rcases hm with hm | hm <;> rw [h] at hm <;> simp at hm
  · rw [ha] at h; simp at h
  · exact h hs

theorem Move.keeps_zeroisingIdle (hm : Move linked now s t) (h : s.zeroisingIdle) : t.zeroisingIdle := by
  obtain ⟨hmode, hidle⟩ := h
  cases hm with
  | aside | port | waits | notices | bind | entry | batch => exact ⟨hmode, hidle⟩
  | unlock hl =>
    refine ⟨⟨?_, ?_⟩, fun h => hidle ?_⟩
    · have := hmode.1
      rw [hl] at this
      simpa [storedMode] using this
    · intro hz
      have := hmode.2 hz
      rw [hl] at this; simp at this
    · rcases h with h | h | h
      · simp at h
      · simp at h
      · exact .inr (.inr h)
  | beginCeremony cer ha => exact ⟨hmode, fun h => absurd h (not_off_of_admitting ha)⟩
  | closeCeremony =>
    obtain ⟨k, hk⟩ := closeCeremony_touches s
    rw [hk]
    exact ⟨hmode, fun h => ⟨(hidle h).1, (hidle h).2.1, rfl⟩⟩
  | combine _ cer x =>
    obtain ⟨k, hk⟩ := modCell_touches s cer.slot cer.cell fun _ => x
    rw [hk]
    exact ⟨hmode, fun h => ⟨(hidle h).1, (hidle h).2.1, rfl⟩⟩
  | derive l tag b pos prior keys mk tk slot ha =>
    obtain ⟨k, hk⟩ := captures_touch (s.setBatch b ((s.batch b).reserve pos prior)) mk tk
    rw [hk]
    exact ⟨hmode, fun h => absurd h (not_off_of_admitting ha)⟩
  | stream l tag seq sk dk ivIn ivOut n limit slot ha =>
    obtain ⟨k, hk⟩ := captures_touch s sk dk
    rw [hk]
    exact ⟨hmode, fun h => absurd h (not_off_of_admitting ha)⟩
  | custody tag cer custodian value ha => exact ⟨hmode, fun h => absurd h (not_off_of_admitting ha)⟩
  | job slot j j' hj => exact ⟨hmode, fun h => absurd hj (by simp [(hidle h).1])⟩
  | ends slot j commits loud answers hj =>
    obtain ⟨b, n, k, p, ht⟩ := settleJob_touches s commits loud answers j
    rw [ht]
    exact ⟨hmode, fun h => absurd hj (by simp [(hidle h).1])⟩
  | arbitrate =>
    by_cases hno : ∀ n, s.job n = none
    · rw [arbitrate_without_jobs hno]; exact ⟨hmode, hidle⟩
    · obtain ⟨sl, d, e, p, ht⟩ := arbitrate_touches s
      rw [ht]
      exact ⟨hmode, fun h => absurd (hidle h).1 hno⟩
  | zeroise =>
    obtain ⟨hm, hp, hz, ha, hs⟩ := enterZeroising_mode s
    refine ⟨⟨by simp [hm, hp, storedMode], fun _ => hm⟩, fun _ => idleWork_enterZeroising fun ha => hidle (.inr (.inr (.inl ha)))⟩
  | join _ cer cer' hc => exact ⟨hmode, fun h => absurd hc (by simp [(hidle h).2.2])⟩
  | freeEngine => exact ⟨hmode, fun h => ⟨(hidle h).1, rfl, (hidle h).2.2⟩⟩

end Sys2Proof.Machine
end

/-! SUPPORT. What a move does to the deficits (R108, R110), to the queues, the slot wait list and the notices (R145, R146, R93,
R152), and to the batch records and their reserved positions (R62, R72 to R75). -/

section
namespace Sys2Proof.Machine

variable {linked : Prop} {now : Bool} {s t : State}

/-! ### Deficits -/

theorem deficitsFit_congr (h1 : t.deficits = s.deficits) (h2 : t.pointer = s.pointer) (h3 : t.bindings = s.bindings)
    (h4 : t.mainPower = s.mainPower) (h5 : t.resetHeld = s.resetHeld) (h6 : t.engine = s.engine) (h : s.deficitsFit) :
    t.deficitsFit := by
  simp only [State.deficitsFit, State.deficit, State.binding, State.alive, h1, h2, h3, h4, h5, h6]
  exact h

theorem deficitsFit_bind (l : LinePort) (b : Binding) (h : s.deficitsFit) : (s.bind l b).deficitsFit := by
  obtain ⟨hle, hoff⟩ := h
  have hd : ∀ m, (s.bind l b).deficit m = if m = l then min (s.deficit l) (deficitBound b.weight) else s.deficit m := by
    intro m
    unfold State.bind
    by_cases hm : m = l
    · subst hm; simp
    · simp [hm]
  have hb : ∀ m, (s.bind l b).binding m = if m = l then b else s.binding m := by
    intro m
    unfold State.bind
    by_cases hm : m = l
    · subst hm; simp
    · simp [hm]
  refine ⟨fun m => ?_, fun ha => ⟨(hoff ha).1, fun m => ?_⟩⟩
  · have := hle m
    have hp : (s.bind l b).pointer = s.pointer := rfl
    rw [hd, hb, hp]
    by_cases hm : m = l
    · subst hm
      simp only [deficitBound, if_true] at this ⊢
      split_ifs at this ⊢ <;> omega
    · simpa [hm] using this
  · rw [hd, (hoff ha).2, (hoff ha).2]
    simp

/-- The end of a visit whose port is not covered leaves every port but the new one under visit at most 3 (R108, R110). -/
theorem deficitsFit_endVisit (hc : s.coveredJob s.pointer = none) (ha : s.alive = true) (h : s.deficitsFit) :
    s.endVisit.deficitsFit := by
  obtain ⟨hle, _⟩ := h
  unfold State.endVisit
  split
  · exact ⟨hle, fun hoff => by rw [ha] at hoff; simp at hoff⟩
  · next l _ =>
    dsimp only
    refine ⟨?_, fun hoff => ?_⟩
    · generalize hs1 : (if (s.oldestWaiting (.line s.pointer)).isSome then s else s.setDeficit s.pointer 0) = s1
      have hbound : ∀ m, s1.deficit m ≤ 3 := by
        intro m
        rw [← hs1]
        split
        · next ho =>
          by_cases hm : m = s.pointer
          · subst hm
            obtain ⟨slot, hslot⟩ := Option.isSome_iff_exists.1 ho
            obtain ⟨j, _, hlt⟩ := coveredJob_none hc hslot
            have := j.grantSize_four_or_one
            omega
          · simpa [hm] using hle m
        · by_cases hm : m = s.pointer
          · subst hm; simp
          · rw [State.deficit_setDeficit_ne _ _ hm]
            simpa [hm] using hle m
      intro m
      have hget : (State.setDeficit { s1 with pointer := l } l (s1.deficit l + 4 * (s1.binding l).weight)).deficit m =
          if m = l then s1.deficit l + 4 * (s1.binding l).weight else s1.deficit m := by
        split
        · next hm => subst hm; exact State.deficit_setDeficit_same _ _ _
        · next hm => exact State.deficit_setDeficit_ne _ _ hm
      rw [hget]
      show _ ≤ if m = l then 4 * (s1.binding m).weight + 3 else 3
      by_cases hm : m = l
      · subst hm
        have := hbound m
        simp only [if_true]
        omega
      · simpa [hm] using hbound m
    · have hsame : ∀ (s1 : State), s1.alive = s.alive →
          (State.setDeficit { s1 with pointer := l } l (s1.deficit l + 4 * (s1.binding l).weight)).alive = true :=
        fun s1 h1 => h1.trans ha
      rw [hsame _ (by split <;> rfl)] at hoff
      simp at hoff

theorem deficitsFit_startGrant {slot : Nat} {j : Job} (hj : s.job slot = some j) (ha : s.alive = true) (h : s.deficitsFit) :
    (s.startGrant slot).deficitsFit := by
  obtain ⟨d, hs, hd⟩ := startGrant_of_job hj
  rw [hs]
  refine ⟨fun l => (hd l).trans (h.1 l), fun hoff => ?_⟩
  have : s.alive = false := hoff
  rw [ha] at this; simp at this

theorem deficitsFit_arbitrate (ha : s.alive = true) (h : s.deficitsFit) : s.arbitrate.deficitsFit := by
  rcases arbitrate_cases s with he | ⟨_, t, ht, he⟩
  · rwa [he]
  have htfit : t.deficitsFit ∧ t.alive = true := by
    rcases ht with rfl | ⟨hc, rfl⟩
    · exact ⟨h, ha⟩
    · obtain ⟨p, d, hv⟩ := endVisit_touches s
      exact ⟨deficitsFit_endVisit hc ha h, by rw [hv]; exact ha⟩
  rcases he with he | ⟨slot, j, hj, _, he⟩
  · rw [he]; exact htfit.1
  · rw [he]; exact deficitsFit_startGrant hj htfit.2 htfit.1

theorem Move.keeps_deficitsFit (hm : Move linked now s t) (h : s.deficitsFit) : t.deficitsFit := by
  cases hm with
  | aside | port | waits | notices | unlock | entry | beginCeremony | batch | custody | job | join => exact h
  | bind l b => exact deficitsFit_bind l b h
  | closeCeremony =>
    obtain ⟨k, hk⟩ := closeCeremony_touches s
    rw [hk]; exact h
  | combine _ cer x =>
    obtain ⟨k, hk⟩ := modCell_touches s cer.slot cer.cell fun _ => x
    rw [hk]; exact h
  | derive l tag b pos prior keys mk tk slot =>
    obtain ⟨k, hk⟩ := captures_touch (s.setBatch b ((s.batch b).reserve pos prior)) mk tk
    rw [hk]; exact h
  | stream l tag seq sk dk ivIn ivOut n limit slot =>
    obtain ⟨k, hk⟩ := captures_touch s sk dk
    rw [hk]; exact h
  | ends slot j commits loud answers =>
    obtain ⟨b, n, k, p, ht⟩ := settleJob_touches s commits loud answers j
    rw [ht]; exact h
  | arbitrate _ ha => exact deficitsFit_arbitrate ha h
  | zeroise =>
    cases ha : s.alive with
    | false => rw [enterZeroising_off ha]; exact h
    | true =>
      obtain ⟨b, k, he⟩ := enterZeroising_on_touches ha
      rw [he]
      have zero : ∀ l, (⟨0, 0, 0, 0⟩ : PerLine Nat).get l = 0 := fun l => by cases l <;> rfl
      exact ⟨fun l => (zero l).le.trans (Nat.zero_le _), fun _ => ⟨rfl, zero⟩⟩
  | freeEngine => exact ⟨h.1, fun ha => ⟨rfl, (h.2 ha).2⟩⟩

/-! ### Queues, the slot wait list and the notices -/

/-- The notice list holds one notice of a kind and subject (R152). -/
def State.noticesOnce (s : State) : Prop := (s.notices.map Notice.key).Nodup

theorem raiseIn_once (k : NoticeKey) (c : Nat) {ns : List Notice} (h : (ns.map Notice.key).Nodup) :
    ((raiseIn k c ns).map Notice.key).Nodup := by
  unfold raiseIn
  split
  · have : (ns.map fun n => if n.key == k then ⟨k, c⟩ else n).map Notice.key = ns.map Notice.key := by
      rw [List.map_map]
      refine List.map_congr_left fun n _ => ?_
      by_cases hk : n.key = k <;> simp [hk]
    rwa [this]
  · next hno =>
    rw [List.map_append, List.nodup_append]
    refine ⟨h, by simp, fun a ha b hb => ?_⟩
    simp only [List.map_cons, List.map_nil, List.mem_singleton] at hb
    subst hb
    rintro rfl
    obtain ⟨n, hn, hk⟩ := List.mem_map.1 ha
    exact hno (List.any_eq_true.2 ⟨n, hn, by simp [hk]⟩)

theorem noticesOnce_notice (k : NoticeKey) (c : Nat) (h : s.noticesOnce) : (s.notice k c).noticesOnce := raiseIn_once k c h

theorem noticesOnce_closeIfDrained (n : Nat) (h : s.noticesOnce) : (s.closeIfDrained n).noticesOnce := by
  unfold State.closeIfDrained
  dsimp only
  split
  · exact noticesOnce_notice _ _ h
  · exact h

theorem noticesOnce_testLevel (n : Nat) (h : s.noticesOnce) : (s.testLevel n).noticesOnce := by
  unfold State.testLevel
  dsimp only
  split
  · exact noticesOnce_notice _ _ h
  · exact h

theorem noticesOnce_settlePosition (commits : Bool) (j : Job) (h : s.noticesOnce) :
    (s.settlePosition commits j).noticesOnce := by
  unfold State.settlePosition State.commitPos State.releasePos
  dsimp only
  split
  · split
    · split
      · exact noticesOnce_closeIfDrained _ (noticesOnce_testLevel _ h)
      · exact noticesOnce_closeIfDrained _ h
      · exact h
    · split
      · exact noticesOnce_closeIfDrained _ h
      · exact noticesOnce_closeIfDrained _ h
      · exact h
  · exact h

theorem noticesOnce_releaseCells (loud : Bool) (xs : List (Nat × CellId)) (h : s.noticesOnce) :
    (xs.foldl (State.releaseCell loud) s).noticesOnce := by
  induction xs generalizing s with
  | nil => exact h
  | cons x xs ih =>
    refine ih ?_
    obtain ⟨ns, hr, hns⟩ := releaseCell_eq loud s x
    rw [hr]
    rcases hns with rfl | rfl
    · exact h
    · exact raiseIn_once _ _ h

theorem noticesOnce_releaseCaptured (loud : Bool) (j : Job) (h : s.noticesOnce) : (s.releaseCaptured loud j).noticesOnce := by
  unfold State.releaseCaptured
  split
  · exact h
  · exact noticesOnce_releaseCells _ _ h

theorem noticesOnce_settleJob (commits loud : Bool) (answers : List Response) (j : Job) (h : s.noticesOnce) :
    (s.settleJob commits loud answers j).noticesOnce := by
  obtain ⟨p, hp⟩ := respondAll_touches ((s.settlePosition commits j).releaseCaptured loud j) j.owner answers
  rw [State.settleJob, hp]
  exact noticesOnce_releaseCaptured _ _ (noticesOnce_settlePosition _ _ h)

/-- The response queue of a port unit takes a response into an entry reserved for it (R146). -/
theorem fits_respond {u : PortUnit} (r : Response) (h0 : u.reserved ≠ 0) (h : u.fits) :
    PortUnit.fits { u with reserved := u.reserved - 1, occupied := u.occupied ++ [r] } := by
  refine ⟨h.1, ?_⟩
  have := h.2
  simp only [List.length_append, List.length_singleton]
  omega

theorem queuesFit_setPort {p : Port} {u : PortUnit} (hu : (s.port p).fits → u.fits) (h : s.queuesFit) :
    (s.setPort p u).queuesFit := by
  intro q
  by_cases hq : q = p
  · subst hq
    rw [State.port_setPort_same]
    exact hu (h q)
  · rw [State.port_setPort_ne _ _ hq]
    exact h q

theorem queuesFit_respond (p : Port) (r : Response) (h : s.queuesFit) : (s.respond p r).queuesFit := by
  unfold State.respond
  dsimp only
  split
  · exact h
  · next h0 => exact queuesFit_setPort (fits_respond r h0) h

theorem queuesFit_respondAll (p : Port) (rs : List Response) (h : s.queuesFit) : (s.respondAll p rs).queuesFit := by
  induction rs generalizing s with
  | nil => exact h
  | cons r rs ih => exact ih (queuesFit_respond p r h)

theorem queuesFit_settleJob (commits loud : Bool) (answers : List Response) (j : Job) (h : s.queuesFit) :
    (s.settleJob commits loud answers j).queuesFit := by
  refine queuesFit_respondAll _ _ ?_
  obtain ⟨b, n1, h1⟩ := settlePosition_touches commits s j
  obtain ⟨k, n2, h2⟩ := releaseCaptured_touches loud (s.settlePosition commits j) j
  rw [h2, h1]
  exact h

theorem Move.keeps_queues (hm : Move linked now s t) (h : s.queuesFit ∧ s.listsOnce) : t.queuesFit ∧ t.listsOnce := by
  obtain ⟨hq, hw, hn⟩ := h
  cases hm with
  | aside | bind | unlock | entry | beginCeremony | batch | custody | job | join | freeEngine => exact ⟨hq, hw, hn⟩
  | port p u hu => exact ⟨queuesFit_setPort hu hq, hw, hn⟩
  | waits ws hws => exact ⟨hq, hws hw, hn⟩
  | notices ns hns => exact ⟨hq, hw, hns hn⟩
  | closeCeremony =>
    obtain ⟨k, hk⟩ := closeCeremony_touches s
    rw [hk]; exact ⟨hq, hw, hn⟩
  | combine _ cer x =>
    obtain ⟨k, hk⟩ := modCell_touches s cer.slot cer.cell fun _ => x
    rw [hk]; exact ⟨hq, hw, hn⟩
  | derive l tag b pos prior keys mk tk slot =>
    obtain ⟨k, hk⟩ := captures_touch (s.setBatch b ((s.batch b).reserve pos prior)) mk tk
    rw [hk]; exact ⟨hq, hw, hn⟩
  | stream l tag seq sk dk ivIn ivOut n limit slot =>
    obtain ⟨k, hk⟩ := captures_touch s sk dk
    rw [hk]; exact ⟨hq, hw, hn⟩
  | ends slot j commits loud answers =>
    have hn' := noticesOnce_settleJob commits loud answers j hn
    have hq' := queuesFit_settleJob commits loud answers j hq
    obtain ⟨b, n, k, p, ht⟩ := settleJob_touches s commits loud answers j
    exact ⟨hq', by rw [ht]; exact hw, hn'⟩
  | arbitrate =>
    obtain ⟨sl, d, e, p, ht⟩ := arbitrate_touches s
    rw [ht]; exact ⟨hq, hw, hn⟩
  | zeroise =>
    cases ha : s.alive with
    | false => rw [enterZeroising_off ha]; exact ⟨hq, hw, hn⟩
    | true =>
      obtain ⟨b, k, he⟩ := enterZeroising_on_touches ha
      have hports : s.enterZeroising.ports = s.startZeroisation.tamperJobs.ports := by rw [he]
      have hnotices : s.enterZeroising.notices = s.startZeroisation.tamperJobs.notices := by rw [he]
      have hwaits : s.enterZeroising.waitList = [] := by rw [he]
      obtain ⟨hq', hn'⟩ : s.startZeroisation.tamperJobs.queuesFit ∧ s.startZeroisation.tamperJobs.noticesOnce :=
        tamperJobs_keeps (I := fun u => u.queuesFit ∧ u.noticesOnce)
          (fun u slot j _ hu => ⟨queuesFit_settleJob _ _ _ j hu.1, noticesOnce_settleJob _ _ _ j hu.2⟩) ⟨hq, hn⟩
      refine ⟨fun p => ?_, ?_, ?_⟩
      · rw [port_congr hports]; exact hq' p
      · rw [hwaits]; exact List.nodup_nil
      · rw [hnotices]; exact hn'

/-! ### A position changed in an issue map -/

theorem countIn_set {map : List PosState} {pos : Nat} {x : PosState} (y : PosState) (sts : List PosState)
    (h : map[pos]? = some x) :
    countIn sts (map.set pos y) + (if x ∈ sts then 1 else 0) = countIn sts map + if y ∈ sts then 1 else 0 := by
  obtain ⟨hlt, hx⟩ := List.getElem?_eq_some_iff.1 h
  unfold countIn
  rw [List.countP_set hlt, hx]
  simp only [List.contains_eq_mem, decide_eq_true_eq]
  by_cases hmem : x ∈ sts
  · have hpos : 0 < map.countP fun a => decide (a ∈ sts) :=
      List.countP_pos_iff.2 ⟨x, by rw [← hx]; exact List.getElem_mem hlt, by simpa using hmem⟩
    simp only [hmem, if_true]
    omega
  · simp only [hmem, if_false]
    omega

theorem countIn_pos {map : List PosState} {pos : Nat} {x : PosState} {sts : List PosState} (h : map[pos]? = some x)
    (hx : x ∈ sts) : 0 < countIn sts map :=
  List.countP_pos_iff.2 ⟨x, List.mem_of_getElem? h, by simpa using hx⟩

theorem set_getElem? {map : List PosState} {pos : Nat} {x : PosState} (y : PosState) (h : map[pos]? = some x) (i : Nat) :
    (map.set pos y)[i]? = if i = pos then some y else map[i]? := by
  obtain ⟨hlt, _⟩ := List.getElem?_eq_some_iff.1 h
  rw [List.getElem?_set]
  by_cases hi : i = pos
  · simp [hi, hlt]
  · simp [hi, Ne.symm hi]

/-! ### Reservation, commit and release of a position, as they change the batch record -/

theorem reserveTest_ok {b : Batch} {pos : Nat} {prior : PosState} (h : b.reserveTest pos = .ok prior) :
    b.map[pos]? = some prior ∧
      (prior = .fresh ∨ prior = .spoilt ∧ b.reissued + b.reissueRes < b.allowance) := by
  unfold Batch.reserveTest at h
  split at h
  · next hm => cases h; exact ⟨hm, .inl rfl⟩
  · next hm =>
    split at h
    · next hlt => cases h; exact ⟨hm, .inr ⟨rfl, hlt⟩⟩
    · simp at h
  · simp at h

theorem Batch.agrees.reserve {b : Batch} {pos : Nat} {prior : PosState} (h : b.agrees) (ht : b.reserveTest pos = .ok prior) :
    (b.reserve pos prior).agrees := by
  obtain ⟨hlen, hd, hf, hr, ha⟩ := h
  obtain ⟨hm, hp⟩ := reserveTest_ok ht
  rcases hp with rfl | ⟨rfl, hlt⟩
  · have h1 := countIn_set .reservedFresh [.issued, .spoilt, .reservedSpoilt] hm
    have h2 := countIn_set .reservedFresh [.reservedFresh] hm
    have h3 := countIn_set .reservedFresh [.reservedSpoilt] hm
    simp at h1 h2 h3
    simp only [Batch.reserve, Batch.agrees, List.length_set]
    omega
  · have h1 := countIn_set .reservedSpoilt [.issued, .spoilt, .reservedSpoilt] hm
    have h2 := countIn_set .reservedSpoilt [.reservedFresh] hm
    have h3 := countIn_set .reservedSpoilt [.reservedSpoilt] hm
    simp at h1 h2 h3
    simp only [Batch.reserve, Batch.agrees, List.length_set]
    omega

/-- A CLOSING record without reservations is CLOSED (R68). -/
def Batch.drained (b : Batch) : Batch :=
  if b.state = .closing ∧ b.freshRes + b.reissueRes = 0 then { b with state := .closed } else b

/-- The level after a commit that raised D (R75). -/
def Batch.levelled (b : Batch) : Batch :=
  if b.level < levelReached b.quantity b.derived then { b with level := levelReached b.quantity b.derived } else b

/-- The record after a position it reserves is committed or released (R73, R74). -/
def Batch.settled (b : Batch) (commits : Bool) (pos : Nat) : Batch :=
  match b.map[pos]?, commits with
  | some .reservedFresh, true =>
    ({ b with map := b.map.set pos .issued, freshRes := b.freshRes - 1, derived := b.derived + 1 } : Batch).levelled.drained
  | some .reservedSpoilt, true =>
    ({ b with map := b.map.set pos .issued, reissueRes := b.reissueRes - 1, reissued := b.reissued + 1 } : Batch).drained
  | some .reservedFresh, false => ({ b with map := b.map.set pos .fresh, freshRes := b.freshRes - 1 } : Batch).drained
  | some .reservedSpoilt, false => ({ b with map := b.map.set pos .spoilt, reissueRes := b.reissueRes - 1 } : Batch).drained
  | _, _ => b

theorem batch_closeIfDrained (s : State) (n m : Nat) :
    (s.closeIfDrained n).batch m = if m = n then (s.batch n).drained else s.batch m := by
  unfold State.closeIfDrained Batch.drained
  dsimp only
  split
  · next h =>
    show (s.setBatch n _).batch m = _
    rw [batch_setBatch_eq]
    intro hn
    rw [s.batch_of_ge hn] at h
    simp [unusedBatch] at h
  · split
    · next hm => rw [hm]
    · rfl

theorem batch_testLevel (s : State) {n : Nat} (hn : n < 32) (m : Nat) :
    (s.testLevel n).batch m = if m = n then (s.batch n).levelled else s.batch m := by
  unfold State.testLevel Batch.levelled
  dsimp only
  split
  · show (s.setBatch n _).batch m = _
    rw [batch_setBatch_eq _ _ _ _ fun h => absurd hn h]
  · split
    · next hm => rw [hm]
    · rfl

theorem lt_of_position {n pos : Nat} {x : PosState} (h : (s.batch n).map[pos]? = some x) : n < 32 := by
  by_contra hn
  rw [s.batch_of_ge hn] at h
  simp [unusedBatch] at h

theorem batch_commitPos (s : State) (n pos m : Nat) :
    (s.commitPos n pos).batch m = if m = n then (s.batch n).settled true pos else s.batch m := by
  unfold State.commitPos Batch.settled
  dsimp only
  split
  · next h =>
    have hn := lt_of_position h
    rw [batch_closeIfDrained, batch_testLevel _ hn, batch_testLevel _ hn]
    by_cases hm : m = n
    · simp [hm, hn, h]
    · simp [hm]
  · next h =>
    have hn := lt_of_position h
    rw [batch_closeIfDrained]
    by_cases hm : m = n
    · simp [hm, hn, h]
    · simp [hm]
  · next h1 h2 =>
    split
    · next hm => subst hm; split <;> simp_all
    · rfl

theorem batch_releasePos (s : State) (n pos m : Nat) :
    (s.releasePos n pos).batch m = if m = n then (s.batch n).settled false pos else s.batch m := by
  unfold State.releasePos Batch.settled
  dsimp only
  split
  · next h =>
    have hn := lt_of_position h
    rw [batch_closeIfDrained]
    by_cases hm : m = n
    · simp [hm, hn, h]
    · simp [hm]
  · next h =>
    have hn := lt_of_position h
    rw [batch_closeIfDrained]
    by_cases hm : m = n
    · simp [hm, hn, h]
    · simp [hm]
  · next h1 h2 =>
    split
    · next hm => subst hm; split <;> simp_all
    · rfl

/-- Of the end of a job only its own DERIVE's position is settled (R98 step 1). -/
theorem batch_settleJob (s : State) (commits loud : Bool) (answers : List Response) (j : Job) (m : Nat) :
    (s.settleJob commits loud answers j).batch m =
      match j.ctx with
      | .derive c => if m = c.batch then (s.batch m).settled commits c.pos else s.batch m
      | _ => s.batch m := by
  obtain ⟨k, n2, h2⟩ := releaseCaptured_touches loud (s.settlePosition commits j) j
  obtain ⟨p, h3⟩ := respondAll_touches ((s.settlePosition commits j).releaseCaptured loud j) j.owner answers
  have : (s.settleJob commits loud answers j).batch m = (s.settlePosition commits j).batch m := by
    rw [State.settleJob, h3, h2]; rfl
  rw [this]
  unfold State.settlePosition
  cases j.ctx with
  | derive c =>
    cases commits with
    | true =>
      show (s.commitPos c.batch c.pos).batch m = if m = c.batch then (s.batch m).settled true c.pos else s.batch m
      rw [batch_commitPos]
      by_cases hm : m = c.batch
      · rw [hm]
      · simp [hm]
    | false =>
      show (s.releasePos c.batch c.pos).batch m = if m = c.batch then (s.batch m).settled false c.pos else s.batch m
      rw [batch_releasePos]
      by_cases hm : m = c.batch
      · rw [hm]
      · simp [hm]
  | stream | custody => rfl

/-- What a commit or release leaves alone, and what it makes of the map. -/
theorem drained_fields (b : Batch) :
    b.drained.map = b.map ∧ b.drained.quantity = b.quantity ∧ b.drained.derived = b.derived ∧
      b.drained.freshRes = b.freshRes ∧ b.drained.reissueRes = b.reissueRes ∧ b.drained.reissued = b.reissued ∧
      b.drained.allowance = b.allowance ∧ b.drained.first = b.first ∧ b.drained.domain = b.domain := by
  unfold Batch.drained
  split <;> exact ⟨rfl, rfl, rfl, rfl, rfl, rfl, rfl, rfl, rfl⟩

theorem levelled_fields (b : Batch) : b.levelled = { b with level := b.levelled.level } := by
  unfold Batch.levelled
  split <;> rfl

theorem Batch.agrees.drained {b : Batch} (h : b.agrees) : b.drained.agrees := by
  obtain ⟨h1, h2, h3, h4, h5, h6, h7, _, _⟩ := drained_fields b
  simp only [Batch.agrees, h1, h2, h3, h4, h5, h6, h7]
  exact h

theorem Batch.agrees.settled {b : Batch} (h : b.agrees) (commits : Bool) (pos : Nat) : (b.settled commits pos).agrees := by
  obtain ⟨hlen, hd, hf, hr, ha⟩ := h
  have count : ∀ {x : PosState} (y : PosState), b.map[pos]? = some x → _ := fun {x} y hm =>
    And.intro (countIn_set y [.issued, .spoilt, .reservedSpoilt] hm)
      (And.intro (countIn_set y [.reservedFresh] hm) (countIn_set y [.reservedSpoilt] hm))
  unfold Batch.settled
  split
  · next hm =>
    refine Batch.agrees.drained ?_
    rw [levelled_fields]
    obtain ⟨h1, h2, h3⟩ := count .issued hm
    simp at h1 h2 h3
    simp only [Batch.agrees, List.length_set]
    omega
  · next hm =>
    refine Batch.agrees.drained ?_
    obtain ⟨h1, h2, h3⟩ := count .issued hm
    simp at h1 h2 h3
    simp only [Batch.agrees, List.length_set]
    omega
  · next hm =>
    refine Batch.agrees.drained ?_
    obtain ⟨h1, h2, h3⟩ := count .fresh hm
    simp at h1 h2 h3
    simp only [Batch.agrees, List.length_set]
    omega
  · next hm =>
    refine Batch.agrees.drained ?_
    obtain ⟨h1, h2, h3⟩ := count .spoilt hm
    simp at h1 h2 h3
    simp only [Batch.agrees, List.length_set]
    omega
  · exact ⟨hlen, hd, hf, hr, ha⟩

theorem Batch.agrees.suspend {b : Batch} (h : b.agrees) : b.suspend.agrees := by
  unfold Batch.suspend
  split <;> exact h

/-! ### Every batch record agrees with its map -/

theorem batchesAgree_congr (h1 : t.batches = s.batches) (h : s.batchesAgree) : t.batchesAgree := fun n => by
  rw [batch_congr h1]; exact h n

theorem unusedBatch_agrees : unusedBatch.agrees := by
  simp [Batch.agrees, unusedBatch, countIn]

theorem batchesAgree_setBatch {n : Nat} {b : Batch} (hb : b.agrees) (h : s.batchesAgree) : (s.setBatch n b).batchesAgree := by
  intro m
  rw [State.batch_setBatch]
  split
  · exact hb
  · exact h m

theorem batchesAgree_settleJob (commits loud : Bool) (answers : List Response) (j : Job) (h : s.batchesAgree) :
    (s.settleJob commits loud answers j).batchesAgree := by
  intro m
  rw [batch_settleJob]
  split
  · split
    · exact (h m).settled _ _
    · exact h m
  · exact h m

theorem batchesAgree_tamperJobs (h : s.batchesAgree) : s.tamperJobs.batchesAgree :=
  tamperJobs_keeps (I := State.batchesAgree)
    (fun u _ j _ hu => batchesAgree_congr (s := u.settleJob false false (j.owed .tamper) j) rfl
      (batchesAgree_settleJob _ _ _ j hu)) h

@[simp] theorem batch_clearCells (s : State) (n : Nat) : s.clearCells.batch n = s.batch n := rfl

@[simp] theorem batch_clearEngine (s : State) (n : Nat) : s.clearEngine.batch n = s.batch n := rfl

@[simp] theorem batch_startZeroisation (s : State) (n : Nat) : s.startZeroisation.batch n = s.batch n := rfl

@[simp] theorem batch_closeCeremony (s : State) (n : Nat) : s.closeCeremony.batch n = s.batch n := by
  obtain ⟨k, hk⟩ := closeCeremony_touches s
  rw [hk]; rfl

theorem batch_enterZeroising_on (ha : s.alive = true) (n : Nat) :
    s.enterZeroising.batch n = (s.startZeroisation.tamperJobs.batch n).suspend := by
  rw [enterZeroising_on ha, batch_clearCells, batch_suspendBatches, batch_closeCeremony, batch_clearEngine]

theorem Move.keeps_batchesAgree (hm : Move linked now s t) (h : s.batchesAgree) : t.batchesAgree := by
  cases hm with
  | aside | port | waits | notices | bind | unlock | entry | beginCeremony | custody | job | join | freeEngine => exact h
  | batch n b hb => exact batchesAgree_setBatch (hb.agrees (h n)) h
  | closeCeremony =>
    obtain ⟨k, hk⟩ := closeCeremony_touches s
    rw [hk]; exact h
  | combine _ cer x =>
    obtain ⟨k, hk⟩ := modCell_touches s cer.slot cer.cell fun _ => x
    rw [hk]; exact h
  | derive l tag b pos prior keys mk tk slot _ _ hp =>
    obtain ⟨k, hk⟩ := captures_touch (s.setBatch b ((s.batch b).reserve pos prior)) mk tk
    rw [hk]
    exact batchesAgree_setBatch ((h b).reserve hp) h
  | stream l tag seq sk dk ivIn ivOut n limit slot =>
    obtain ⟨k, hk⟩ := captures_touch s sk dk
    rw [hk]; exact h
  | ends slot j commits loud answers => exact batchesAgree_settleJob commits loud answers j h
  | arbitrate =>
    obtain ⟨sl, d, e, p, ht⟩ := arbitrate_touches s
    rw [ht]; exact h
  | zeroise =>
    intro n
    cases ha : s.alive with
    | false =>
      rw [enterZeroising_off ha, batch_clearCells, batch_suspendBatches]
      exact (h n).suspend
    | true =>
      rw [batch_enterZeroising_on ha]
      refine Batch.agrees.suspend ?_
      exact batchesAgree_tamperJobs (s := s.startZeroisation) h n

end Sys2Proof.Machine
end

/-! SUPPORT. The reserved positions and the DERIVEs that hold them (R62), through each move. -/

section
namespace Sys2Proof.Machine

variable {linked : Prop} {now : Bool} {s t : State}

/-! ### What no move changes -/

/-- The supplies and the sweep, which no move changes. -/
def State.sameSupplies (s t : State) : Prop := t.mainPower = s.mainPower ∧ t.resetHeld = s.resetHeld ∧ t.sweep = s.sweep

theorem State.sameSupplies.alive (h : s.sameSupplies t) : t.alive = s.alive := by unfold State.alive; rw [h.1, h.2.1]

theorem Move.sameSupplies (hm : Move linked now s t) : s.sameSupplies t := by
  cases hm with
  | aside | port | waits | notices | bind | unlock | entry | beginCeremony | batch | custody | job | join | freeEngine =>
    exact ⟨rfl, rfl, rfl⟩
  | closeCeremony =>
    obtain ⟨k, hk⟩ := closeCeremony_touches s
    rw [hk]; exact ⟨rfl, rfl, rfl⟩
  | combine _ cer x =>
    obtain ⟨k, hk⟩ := modCell_touches s cer.slot cer.cell fun _ => x
    rw [hk]; exact ⟨rfl, rfl, rfl⟩
  | derive l tag b pos prior keys mk tk slot =>
    obtain ⟨k, hk⟩ := captures_touch (s.setBatch b ((s.batch b).reserve pos prior)) mk tk
    rw [hk]; exact ⟨rfl, rfl, rfl⟩
  | stream l tag seq sk dk ivIn ivOut n limit slot =>
    obtain ⟨k, hk⟩ := captures_touch s sk dk
    rw [hk]; exact ⟨rfl, rfl, rfl⟩
  | ends slot j commits loud answers =>
    obtain ⟨b, n, k, p, ht⟩ := settleJob_touches s commits loud answers j
    rw [ht]; exact ⟨rfl, rfl, rfl⟩
  | arbitrate =>
    obtain ⟨sl, d, e, p, ht⟩ := arbitrate_touches s
    rw [ht]; exact ⟨rfl, rfl, rfl⟩
  | zeroise =>
    cases ha : s.alive with
    | false => rw [enterZeroising_off ha]; exact ⟨rfl, rfl, rfl⟩
    | true =>
      obtain ⟨b, k, he⟩ := enterZeroising_on_touches ha
      rw [he]; exact ⟨rfl, rfl, rfl⟩

/-! ### The position a job holds -/

/-- The position that a job's context holds: its batch, the position and the state it had. -/
def JobCtx.position : JobCtx → Option (Nat × Nat × PosState)
  | .derive c => some (c.batch, c.pos, c.prior)
  | _ => none

/-- The position held by the job in a slot; `holdsPosition_iff` ties it to `State.holdsPosition`. -/
def State.positionAt (s : State) (n : Nat) : Option (Nat × Nat × PosState) := (s.job n).bind fun j => j.ctx.position

/-- A position stands reserved in the map as the state it had tells (R62). -/
def Batch.reservedAs (b : Batch) (pos : Nat) (prior : PosState) : Prop :=
  prior = .fresh ∧ b.map[pos]? = some .reservedFresh ∨ prior = .spoilt ∧ b.map[pos]? = some .reservedSpoilt

/-- The third relation of `State.positionsHeld`, in terms of the position of each slot. -/
structure State.positionsMatch (s : State) : Prop where
  stands : ∀ n b pos prior, s.positionAt n = some (b, pos, prior) → (s.batch b).reservedAs pos prior
  held : ∀ b (pos : Nat) (x : PosState), (s.batch b).map[pos]? = some x → x.reserved →
    ∃ n prior, s.positionAt n = some (b, pos, prior)
  once : ∀ m n b pos x y, s.positionAt m = some (b, pos, x) → s.positionAt n = some (b, pos, y) → m = n

theorem positionAt_some {n b pos : Nat} {prior : PosState} :
    s.positionAt n = some (b, pos, prior) ↔
      ∃ j c, s.job n = some j ∧ j.ctx = .derive c ∧ c.batch = b ∧ c.pos = pos ∧ c.prior = prior := by
  unfold State.positionAt
  constructor
  · intro h
    obtain ⟨j, hj, hp⟩ := Option.bind_eq_some_iff.1 h
    cases hc : j.ctx with
    | derive c => rw [hc] at hp; simp [JobCtx.position] at hp; exact ⟨j, c, hj, hc, hp⟩
    | stream | custody => rw [hc] at hp; simp [JobCtx.position] at hp
  · rintro ⟨j, c, hj, hc, rfl, rfl, rfl⟩
    simp [hj, hc, JobCtx.position]

theorem holdsPosition_iff {n b pos : Nat} : s.holdsPosition n b pos ↔ ∃ prior, s.positionAt n = some (b, pos, prior) := by
  simp only [State.holdsPosition, positionAt_some]
  constructor
  · rintro ⟨j, c, hj, hc, hb, hp⟩; exact ⟨_, j, c, hj, hc, hb, hp, rfl⟩
  · rintro ⟨_, j, c, hj, hc, hb, hp, _⟩; exact ⟨j, c, hj, hc, hb, hp⟩

theorem positionsHeld_iff : s.positionsHeld ↔
    s.batchesAgree ∧ (∀ n, (s.batch n).stateFits) ∧ (s.alive = true → s.sweep = .idle → s.positionsMatch) := by
  refine and_congr_right fun _ => and_congr_right fun _ => forall_congr' fun _ => forall_congr' fun _ => ?_
  constructor
  · rintro ⟨h1, h2, h3⟩
    refine ⟨fun n b pos prior h => ?_, fun b pos x hx hr => ?_, fun m n b pos x y hm hn => ?_⟩
    · obtain ⟨j, c, hj, hc, rfl, rfl, rfl⟩ := positionAt_some.1 h
      exact h1 n j c hj hc
    · obtain ⟨n, hn⟩ := h2 b pos (by rcases hr with rfl | rfl <;> simp [hx])
      exact ⟨n, holdsPosition_iff.1 hn⟩
    · exact h3 m n b pos (holdsPosition_iff.2 ⟨_, hm⟩) (holdsPosition_iff.2 ⟨_, hn⟩)
  · rintro ⟨h1, h2, h3⟩
    refine ⟨fun n j c hj hc => h1 n _ _ _ (positionAt_some.2 ⟨j, c, hj, hc, rfl, rfl, rfl⟩), fun b pos hx => ?_,
      fun m n b pos hm hn => ?_⟩
    · rcases hx with hx | hx
      · obtain ⟨n, prior, hn⟩ := h2 b pos _ hx (.inl rfl)
        exact ⟨n, holdsPosition_iff.2 ⟨_, hn⟩⟩
      · obtain ⟨n, prior, hn⟩ := h2 b pos _ hx (.inr rfl)
        exact ⟨n, holdsPosition_iff.2 ⟨_, hn⟩⟩
    · obtain ⟨x, hx⟩ := holdsPosition_iff.1 hm
      obtain ⟨y, hy⟩ := holdsPosition_iff.1 hn
      exact h3 m n b pos x y hx hy

/-- Only the reserved positions of the maps and the positions of the slots count. -/
theorem State.positionsMatch.congr (h : s.positionsMatch) (hp : ∀ n, t.positionAt n = s.positionAt n)
    (hb : ∀ b (pos : Nat) (x : PosState), x.reserved → ((t.batch b).map[pos]? = some x ↔ (s.batch b).map[pos]? = some x)) :
    t.positionsMatch := by
  refine ⟨fun n b pos prior hn => ?_, fun b pos x hx hr => ?_, fun m n b pos x y hm hn => ?_⟩
  · rw [hp] at hn
    simp only [Batch.reservedAs, hb b pos _ (.inl rfl), hb b pos _ (.inr rfl)]
    exact h.stands n b pos prior hn
  · simp only [hp]
    exact h.held b pos x ((hb b pos x hr).1 hx) hr
  · rw [hp] at hm hn
    exact h.once m n b pos x y hm hn

theorem positionAt_congr (h : t.slots = s.slots) (n : Nat) : t.positionAt n = s.positionAt n := by
  unfold State.positionAt; rw [job_congr h]

theorem JobCtx.Follows.position {c c' : JobCtx} (h : c.Follows c') : c'.position = c.position := by
  cases c <;> cases c' <;> simp [JobCtx.Follows, JobCtx.position] at h ⊢
  exact h

theorem positionAt_setJob {slot : Nat} {j j' : Job} (hj : s.job slot = some j) (hp : j'.ctx.position = j.ctx.position)
    (n : Nat) : (s.setJob slot (some j')).positionAt n = s.positionAt n := by
  unfold State.positionAt
  by_cases hn : n = slot
  · subst hn
    rw [hj, setJob_live hj]
    exact hp
  · rw [State.job_setJob_ne s _ hn]

/-! ### A position reserved, and a position settled -/

theorem reserve_map {b : Batch} {pos : Nat} {prior : PosState} (h : b.reserveTest pos = .ok prior) :
    (b.reserve pos prior).reservedAs pos prior ∧ ∀ i, i ≠ pos → (b.reserve pos prior).map[i]? = b.map[i]? := by
  obtain ⟨hm, hp⟩ := reserveTest_ok h
  rcases hp with rfl | ⟨rfl, _⟩
  · refine ⟨.inl ⟨rfl, ?_⟩, fun i hi => ?_⟩
    · simp [Batch.reserve, set_getElem? _ hm]
    · simp [Batch.reserve, set_getElem? _ hm, hi]
  · refine ⟨.inr ⟨rfl, ?_⟩, fun i hi => ?_⟩
    · simp [Batch.reserve, set_getElem? _ hm]
    · simp [Batch.reserve, set_getElem? _ hm, hi]

theorem Batch.reservedAs.get {b : Batch} {pos : Nat} {prior : PosState} (h : b.reservedAs pos prior) :
    ∃ x : PosState, x.reserved ∧ b.map[pos]? = some x := by
  rcases h with ⟨_, h⟩ | ⟨_, h⟩
  · exact ⟨_, .inl rfl, h⟩
  · exact ⟨_, .inr rfl, h⟩

/-- The map of the record after a position it reserves is settled: that position is reserved no more, every other as it was. -/
theorem settled_map {b : Batch} {pos : Nat} {x : PosState} (commits : Bool) (hx : b.map[pos]? = some x) (hr : x.reserved) :
    (∃ y : PosState, ¬ y.reserved ∧ (b.settled commits pos).map[pos]? = some y) ∧
      ∀ i, i ≠ pos → (b.settled commits pos).map[i]? = b.map[i]? := by
  have drained : ∀ c : Batch, c.drained.map = c.map := fun c => (drained_fields c).1
  have levelled : ∀ c : Batch, c.levelled.map = c.map := fun c => by rw [levelled_fields]
  rcases hr with rfl | rfl <;> cases commits
  all_goals
    simp only [Batch.settled, hx, drained, levelled, set_getElem? _ hx]
    refine ⟨⟨_, ?_, if_pos trivial⟩, fun i hi => if_neg hi⟩
    simp [PosState.reserved]

theorem settled_run (b : Batch) (commits : Bool) (pos : Nat) :
    (b.settled commits pos).first = b.first ∧ (b.settled commits pos).domain = b.domain := by
  have drained : ∀ c : Batch, c.drained.first = c.first ∧ c.drained.domain = c.domain := fun c =>
    ⟨(drained_fields c).2.2.2.2.2.2.2.1, (drained_fields c).2.2.2.2.2.2.2.2⟩
  have levelled : ∀ c : Batch, c.levelled.first = c.first ∧ c.levelled.domain = c.domain := fun c => by
    rw [levelled_fields]; exact ⟨rfl, rfl⟩
  unfold Batch.settled
  split <;> simp [drained, levelled]

theorem stateFits_drained {b : Batch} (h : b.state = .unused ∨ b.state = .closed → b.freshRes + b.reissueRes = 0) :
    b.drained.stateFits := by
  unfold Batch.drained
  split
  · next hb => exact ⟨fun _ => hb.2, by simp⟩
  · next hb => exact ⟨h, fun hc => by
      by_contra h0
      exact hb ⟨hc, by omega⟩⟩

theorem levelled_state (b : Batch) : b.levelled.state = b.state ∧ b.levelled.freshRes = b.freshRes ∧
    b.levelled.reissueRes = b.reissueRes := by
  rw [levelled_fields]; exact ⟨rfl, rfl, rfl⟩

theorem Batch.stateFits.settled {b : Batch} (ha : b.agrees) (h : b.stateFits) (commits : Bool) (pos : Nat) :
    (b.settled commits pos).stateFits := by
  obtain ⟨_, _, hf, hr, _⟩ := ha
  unfold Batch.settled
  split
  · next hm =>
    have := countIn_pos (sts := [.reservedFresh]) hm (by simp)
    refine stateFits_drained fun hst => ?_
    have := h.1 (by simpa [levelled_state] using hst)
    omega
  · next hm =>
    have := countIn_pos (sts := [.reservedSpoilt]) hm (by simp)
    refine stateFits_drained fun hst => ?_
    have := h.1 hst
    omega
  · next hm =>
    have := countIn_pos (sts := [.reservedFresh]) hm (by simp)
    refine stateFits_drained fun hst => ?_
    have := h.1 hst
    omega
  · next hm =>
    have := countIn_pos (sts := [.reservedSpoilt]) hm (by simp)
    refine stateFits_drained fun hst => ?_
    have := h.1 hst
    omega
  · exact h

theorem Batch.stateFits.suspend {b : Batch} (h : b.stateFits) : b.suspend.stateFits := by
  unfold Batch.suspend
  split
  · exact ⟨by simp, by simp⟩
  · exact h

/-! ### The moves -/

/-- A new job that holds a position just reserved. -/
theorem State.positionsMatch.reserve {slot b pos : Nat} {prior : PosState} (h : s.positionsMatch)
    (ht : (s.batch b).reserveTest pos = .ok prior) (hfree : s.positionAt slot = none)
    (hp : ∀ n, t.positionAt n = if n = slot then some (b, pos, prior) else s.positionAt n)
    (hb : ∀ m, (t.batch m).map = if m = b then ((s.batch b).reserve pos prior).map else (s.batch m).map) :
    t.positionsMatch := by
  obtain ⟨hstands, hother⟩ := reserve_map ht
  obtain ⟨hm, hprior⟩ := reserveTest_ok ht
  have hout : ∀ n prior', s.positionAt n ≠ some (b, pos, prior') := fun n prior' hn => by
    obtain ⟨x, hx, hget⟩ := (h.stands n b pos prior' hn).get
    rw [hm] at hget
    cases hget
    rcases hprior with rfl | ⟨rfl, _⟩ <;> rcases hx with hx | hx <;> simp at hx
  have hkeep : ∀ m i, ¬ (m = b ∧ i = pos) → (t.batch m).map[i]? = (s.batch m).map[i]? := fun m i hmi => by
    rw [hb]
    split
    · next hmb => subst hmb; exact hother i fun hi => hmi ⟨rfl, hi⟩
    · rfl
  refine ⟨fun n b' pos' prior' hn => ?_, fun b' pos' x hx hr => ?_, fun m n b' pos' x y hm hn => ?_⟩
  · rw [hp] at hn
    split at hn
    · simp only [Option.some.injEq, Prod.mk.injEq] at hn
      obtain ⟨rfl, rfl, rfl⟩ := hn
      simpa [Batch.reservedAs, hb] using hstands
    · have hne : ¬ (b' = b ∧ pos' = pos) := by
        rintro ⟨rfl, rfl⟩; exact hout n prior' hn
      simp only [Batch.reservedAs, hkeep b' pos' hne]
      exact h.stands n b' pos' prior' hn
  · by_cases hbp : b' = b ∧ pos' = pos
    · obtain ⟨rfl, rfl⟩ := hbp
      exact ⟨slot, prior, by simp [hp]⟩
    · rw [hkeep b' pos' hbp] at hx
      obtain ⟨n, prior', hn⟩ := h.held b' pos' x hx hr
      refine ⟨n, prior', ?_⟩
      rw [hp, if_neg (fun e => by rw [e, hfree] at hn; simp at hn), hn]
  · rw [hp] at hm hn
    split at hm <;> split at hn
    · next h1 h2 => rw [h1, h2]
    · cases hm; exact absurd hn (hout n y)
    · cases hn; exact absurd hm (hout m x)
    · exact h.once m n b' pos' x y hm hn

/-- A job that held a position which is now settled. -/
theorem State.positionsMatch.settle {slot b pos : Nat} {prior : PosState} {commits : Bool} (h : s.positionsMatch)
    (hslot : s.positionAt slot = some (b, pos, prior))
    (hp : ∀ n, t.positionAt n = if n = slot then none else s.positionAt n)
    (hb : ∀ m, (t.batch m).map = if m = b then ((s.batch b).settled commits pos).map else (s.batch m).map) :
    t.positionsMatch := by
  obtain ⟨x, hx, hget⟩ := (h.stands slot b pos prior hslot).get
  obtain ⟨⟨y, hy, hset⟩, hother⟩ := settled_map commits hget hx
  have hkeep : ∀ m i, ¬ (m = b ∧ i = pos) → (t.batch m).map[i]? = (s.batch m).map[i]? := fun m i hmi => by
    rw [hb]
    split
    · next hmb => subst hmb; exact hother i fun hi => hmi ⟨rfl, hi⟩
    · rfl
  have hpos : ∀ {n v}, t.positionAt n = some v → n ≠ slot ∧ s.positionAt n = some v := fun {n v} hn => by
    rw [hp] at hn
    split at hn
    · simp at hn
    · next hne => exact ⟨hne, hn⟩
  refine ⟨fun n b' pos' prior' hn => ?_, fun b' pos' z hz hr => ?_, fun m n b' pos' z w hm hn => ?_⟩
  · obtain ⟨hne, hn⟩ := hpos hn
    have hbp : ¬ (b' = b ∧ pos' = pos) := by
      rintro ⟨rfl, rfl⟩; exact hne (h.once n slot _ _ _ _ hn hslot)
    simp only [Batch.reservedAs, hkeep b' pos' hbp]
    exact h.stands n b' pos' prior' hn
  · have hbp : ¬ (b' = b ∧ pos' = pos) := by
      rintro ⟨rfl, rfl⟩
      rw [hb, if_pos rfl, hset] at hz
      cases hz
      exact hy hr
    rw [hkeep b' pos' hbp] at hz
    obtain ⟨n, prior', hn⟩ := h.held b' pos' z hz hr
    refine ⟨n, prior', ?_⟩
    rw [hp, if_neg (fun e => hbp ?_), hn]
    rw [e, hslot] at hn
    simp only [Option.some.injEq, Prod.mk.injEq] at hn
    exact ⟨hn.1.symm, hn.2.1.symm⟩
  · exact h.once m n b' pos' z w (hpos hm).2 (hpos hn).2

theorem positionsHeld_congr (h1 : t.batches = s.batches) (h2 : ∀ n, t.positionAt n = s.positionAt n) (h3 : s.sameSupplies t)
    (h : s.positionsHeld) : t.positionsHeld := by
  rw [positionsHeld_iff] at h ⊢
  obtain ⟨ha, hf, hm⟩ := h
  refine ⟨batchesAgree_congr h1 ha, fun n => by rw [batch_congr h1]; exact hf n, fun h4 h5 => ?_⟩
  exact (hm (h3.alive ▸ h4) (h3.2.2 ▸ h5)).congr h2 fun b pos x _ => by rw [batch_congr h1]

/-- Steps 1 to 5 of a job's end settle the position it holds (R62, R73, R74). -/
theorem positionsHeld_ends {slot : Nat} {j : Job} (commits loud : Bool) (answers : List Response) (hj : s.job slot = some j)
    (h : s.positionsHeld) : ((s.settleJob commits loud answers j).freeSlot slot j.owner).positionsHeld := by
  have hsup : s.sameSupplies ((s.settleJob commits loud answers j).freeSlot slot j.owner) :=
    (Move.ends (linked := False) (now := false) slot j commits loud answers hj False.elim).sameSupplies
  rw [positionsHeld_iff] at h ⊢
  obtain ⟨ha, hf, hm⟩ := h
  have hbatch : ∀ m, ((s.settleJob commits loud answers j).freeSlot slot j.owner).batch m =
      (s.settleJob commits loud answers j).batch m := fun m => rfl
  have hpos : ∀ n, ((s.settleJob commits loud answers j).freeSlot slot j.owner).positionAt n =
      if n = slot then none else s.positionAt n := fun n => by
    unfold State.positionAt
    rw [freeSlot_job, settleJob_job]
    split <;> rfl
  refine ⟨batchesAgree_congr (s := s.settleJob commits loud answers j) rfl (batchesAgree_settleJob commits loud answers j ha),
    fun n => ?_, fun h4 h5 => ?_⟩
  · rw [hbatch, batch_settleJob]
    split
    · split
      · exact (hf n).settled (ha n) _ _
      · exact hf n
    · exact hf n
  · have hm := hm (hsup.alive ▸ h4) (hsup.2.2 ▸ h5)
    cases hc : j.ctx with
    | derive c =>
      refine hm.settle (commits := commits) (positionAt_some.2 ⟨j, c, hj, hc, rfl, rfl, rfl⟩) hpos fun m => ?_
      rw [hbatch, batch_settleJob, hc]
      dsimp only
      by_cases hmc : m = c.batch
      · rw [if_pos hmc, if_pos hmc, hmc]
      · rw [if_neg hmc, if_neg hmc]
    | stream | custody =>
      refine hm.congr (fun n => ?_) fun b pos x _ => by rw [hbatch, batch_settleJob, hc]
      rw [hpos]
      split
      · next hn => subst hn; simp [State.positionAt, hj, hc, JobCtx.position]
      · rfl

theorem positionsHeld_tamperJobs (h : s.positionsHeld) : s.tamperJobs.positionsHeld :=
  tamperJobs_keeps (I := State.positionsHeld) (fun _ _ _ hj hu => positionsHeld_ends _ _ _ hj hu) h

theorem positionAt_placeJob {slot : Nat} (j : Job) (h : slot < 16) (n : Nat) :
    (s.placeJob slot j).positionAt n = if n = slot then j.ctx.position else s.positionAt n := by
  have hjob : (s.placeJob slot j).job n = if n = slot then some j else s.job n := by
    show (s.setJob slot (some j)).job n = _
    rw [State.job_setJob]; simp [h]
  unfold State.positionAt
  rw [hjob]
  split <;> rfl

theorem positionAt_free {slot : Nat} (h : s.job slot = none) : s.positionAt slot = none := by
  simp [State.positionAt, h]

theorem positionAt_placeOther {slot : Nat} {j : Job} (hfree : s.job slot = none) (h : slot < 16) (hp : j.ctx.position = none)
    (n : Nat) : (s.placeJob slot j).positionAt n = s.positionAt n := by
  rw [positionAt_placeJob j h, hp]
  split
  · next hn => rw [hn, positionAt_free hfree]
  · rfl

theorem Move.keeps_positionsHeld (hm : Move linked now s t) (h : s.positionsHeld) : t.positionsHeld := by
  have hsup := hm.sameSupplies
  cases hm with
  | aside | port | waits | notices | bind | unlock | entry | beginCeremony | join | freeEngine =>
    exact positionsHeld_congr (s := s) rfl (positionAt_congr rfl) hsup h
  | custody tag cer custodian value ha hs =>
    exact positionsHeld_congr (s := s) rfl (positionAt_placeOther hs (by decide) rfl) hsup h
  | job slot j j' hj hf => exact positionsHeld_congr (s := s) rfl (positionAt_setJob hj hf.ctx.position) hsup h
  | batch n b hb =>
    rw [positionsHeld_iff] at h ⊢
    obtain ⟨ha, hf, hm⟩ := h
    refine ⟨batchesAgree_setBatch (hb.agrees (ha n)) ha, fun m => ?_, fun h4 h5 => ?_⟩
    · rw [State.batch_setBatch]
      split
      · exact hb.fits (ha n) (hf n)
      · exact hf m
    · refine (hm (hsup.alive ▸ h4) (hsup.2.2 ▸ h5)).congr (positionAt_congr rfl) fun m pos x hx => ?_
      rw [State.batch_setBatch]
      split
      · next hmn => rw [hmn.1]; exact hb.reserved (ha n) (hf n) pos x hx
      · exact Iff.rfl
  | closeCeremony =>
    obtain ⟨k, hk⟩ := closeCeremony_touches s
    rw [hk] at hsup ⊢; exact positionsHeld_congr (s := s) rfl (positionAt_congr rfl) hsup h
  | combine _ cer x =>
    obtain ⟨k, hk⟩ := modCell_touches s cer.slot cer.cell fun _ => x
    rw [hk] at hsup ⊢; exact positionsHeld_congr (s := s) rfl (positionAt_congr rfl) hsup h
  | derive l tag b pos prior keys mk tk slot _ hopen hp _ _ hs =>
    obtain ⟨k, hk⟩ := captures_touch (s.setBatch b ((s.batch b).reserve pos prior)) mk tk
    obtain ⟨hlt, hfree, _⟩ := lineSlotFor_ok hs
    have hb32 := lt_of_position (reserveTest_ok hp).1
    rw [hk] at hsup ⊢
    rw [positionsHeld_iff] at h ⊢
    obtain ⟨ha, hf, hm⟩ := h
    have hbatch : ∀ m, (s.setBatch b ((s.batch b).reserve pos prior)).batch m =
        if m = b then (s.batch b).reserve pos prior else s.batch m := fun m => by
      rw [State.batch_setBatch]; simp [hb32]
    have hstate : ((s.batch b).reserve pos prior).state = .opened := by
      unfold Batch.reserve; split <;> exact hopen
    refine ⟨batchesAgree_congr (s := s.setBatch b ((s.batch b).reserve pos prior)) rfl
        (batchesAgree_setBatch ((ha b).reserve hp) ha), fun m => ?_, fun h4 h5 => ?_⟩
    · show ((s.setBatch b ((s.batch b).reserve pos prior)).batch m).stateFits
      rw [hbatch]
      split
      · exact ⟨by simp [hstate], by simp [hstate]⟩
      · exact hf m
    · refine (hm (hsup.alive ▸ h4) (hsup.2.2 ▸ h5)).reserve hp (positionAt_free hfree)
        (fun n => positionAt_placeJob _ (by omega) n) fun m => ?_
      show ((s.setBatch b ((s.batch b).reserve pos prior)).batch m).map = _
      rw [hbatch]
      split <;> rfl
  | stream l tag seq sk dk ivIn ivOut n limit slot _ _ _ hs =>
    obtain ⟨k, hk⟩ := captures_touch s sk dk
    obtain ⟨hlt, hfree, _⟩ := lineSlotFor_ok hs
    rw [hk] at hsup ⊢
    exact positionsHeld_congr (s := s) rfl
      (fun n => positionAt_placeOther (s := { s with keys := k }) hfree (by omega) rfl n) hsup h
  | ends slot j commits loud answers hj => exact positionsHeld_ends commits loud answers hj h
  | arbitrate =>
    rcases arbitrate_grants s with ⟨p, d, ht⟩ | ⟨slot, j, p, d, _, hj, _, ht⟩
    · rw [ht] at hsup ⊢; exact positionsHeld_congr (s := s) rfl (positionAt_congr rfl) hsup h
    · rw [ht] at hsup ⊢
      exact positionsHeld_congr (s := s) rfl (positionAt_setJob (j' := { j with state := .inGrant }) hj rfl) hsup h
  | zeroise =>
    cases ha : s.alive with
    | false =>
      rw [enterZeroising_off ha, positionsHeld_iff]
      rw [positionsHeld_iff] at h
      obtain ⟨hag, hf, _⟩ := h
      refine ⟨fun n => ?_, fun n => ?_, fun h4 => ?_⟩
      · rw [batch_clearCells, batch_suspendBatches]; exact (hag n).suspend
      · rw [batch_clearCells, batch_suspendBatches]; exact (hf n).suspend
      · have : s.alive = true := h4
        rw [ha] at this; simp at this
    | true =>
      have hT : s.startZeroisation.tamperJobs.positionsHeld :=
        positionsHeld_tamperJobs (positionsHeld_congr (s := s) rfl (positionAt_congr rfl) ⟨rfl, rfl, rfl⟩ h)
      have hsupT : s.sameSupplies s.startZeroisation.tamperJobs := by
        obtain ⟨_, _, _, _, _, _, hT⟩ := tamperJobs_touches s.startZeroisation
        rw [hT]; exact ⟨rfl, rfl, rfl⟩
      have hfree : ∀ n, s.startZeroisation.tamperJobs.positionAt n = none := fun n => positionAt_free (tamperJobs_job _ n)
      rw [positionsHeld_iff] at hT ⊢
      obtain ⟨hag, hf, hmatch⟩ := hT
      obtain ⟨_, _, he⟩ := enterZeroising_on_touches ha
      have hslots : s.enterZeroising.slots = s.startZeroisation.tamperJobs.slots := by rw [he]
      refine ⟨fun n => ?_, fun n => ?_, fun h4 h5 => ?_⟩
      · rw [batch_enterZeroising_on ha]; exact (hag n).suspend
      · rw [batch_enterZeroising_on ha]; exact (hf n).suspend
      · refine (hmatch ?_ ?_).congr (positionAt_congr hslots) fun b pos x _ => ?_
        · rw [hsupT.alive, ← hsup.alive]; exact h4
        · rw [hsupT.2.2, ← hsup.2.2]; exact h5
        · rw [batch_enterZeroising_on ha]
          unfold Batch.suspend
          split <;> exact Iff.rfl

end Sys2Proof.Machine
end

/-! SUPPORT. The entries and cells of the Key Table through each move (R4, R6, R7), and the in-flight counts (R8, R10). -/

section
namespace Sys2Proof.Machine

variable {linked : Prop} {now : Bool} {s t : State}

/-! ### A KEY entry with one cell changed -/

theorem KeyEntry.ok_iff {k : KeyEntry} :
    k.ok ↔ (∀ c, (k.cell c).ok) ∧ ∀ c, (k.cell c).state = .serving ↔ k.serving = some c := by
  constructor
  · rintro ⟨ha, hb, hs⟩
    exact ⟨fun c => by cases c <;> assumption, hs⟩
  · rintro ⟨hok, hs⟩
    exact ⟨hok .a, hok .b, hs⟩

@[simp] theorem Entry.modCell_key (k : KeyEntry) (c : CellId) (f : Cell → Cell) :
    (Entry.key k).modCell c f = .key (k.setCell c (f (k.cell c))) := rfl

@[simp] theorem Entry.modCell_empty (c : CellId) (f : Cell → Cell) : Entry.empty.modCell c f = .empty := rfl

@[simp] theorem Entry.modCell_gate (g : GateEntry) (c : CellId) (f : Cell → Cell) :
    (Entry.gate g).modCell c f = .gate g := rfl

/-- A change of one cell that leaves it as R4 says, and its service alone, leaves the entry as R4 and R6 say. -/
theorem Entry.ok.modCell {e : Entry} {c : CellId} {f : Cell → Cell} (h : e.ok)
    (hf : ∀ k, e = .key k → (f (k.cell c)).ok ∧ ((f (k.cell c)).state = .serving ↔ (k.cell c).state = .serving)) :
    (e.modCell c f).ok := by
  intro k' hk'
  cases e with
  | key k =>
    obtain ⟨hfok, hfs⟩ := hf k rfl
    obtain ⟨hok, hs⟩ := KeyEntry.ok_iff.1 (h k rfl)
    simp only [Entry.modCell_key, Entry.key.injEq] at hk'
    subst hk'
    refine KeyEntry.ok_iff.2 ⟨fun d => ?_, fun d => ?_⟩
    · rw [KeyEntry.cell_setCell]
      split
      · exact hfok
      · exact hok d
    · rw [KeyEntry.cell_setCell, KeyEntry.setCell_serving]
      split
      · next hd => rw [hd, hfs]; exact hs c
      · exact hs d
  | empty | gate => simp at hk'

theorem Entry.usesFit.modCell {e : Entry} (c : CellId) (f : Cell → Cell) (h : e.usesFit) : (e.modCell c f).usesFit := by
  intro k' hk'
  cases e with
  | key k =>
    simp only [Entry.modCell_key, Entry.key.injEq] at hk'
    subst hk'
    simpa using h k rfl
  | empty | gate => simp at hk'

theorem Entry.forms.modCell {e : Entry} {c d : CellId} {f : Cell → Cell} (h : e.forms d)
    (hf : ∀ k, e = .key k → d = c → (k.cell c).state = .forming → (f (k.cell c)).state = .forming) :
    (e.modCell c f).forms d := by
  obtain ⟨k, rfl, hk⟩ := h
  refine ⟨_, rfl, ?_⟩
  rw [KeyEntry.cell_setCell]
  split
  · next hd => subst hd; exact hf k rfl rfl hk
  · exact hk

theorem Entry.held_modCell_ne {e : Entry} {c d : CellId} (f : Cell → Cell) (h : d ≠ c) :
    (e.modCell c f).held d = e.held d := by
  cases e <;> simp [Entry.held, KeyEntry.cell_setCell, h]

theorem Entry.value_modCell {e : Entry} {c d : CellId} {f : Cell → Cell}
    (hf : ∀ k, e = .key k → (f (k.cell c)).value.getD 0 = (k.cell c).value.getD 0) :
    (e.modCell c f).value d = e.value d := by
  cases e with
  | key k =>
    simp only [Entry.value, Entry.modCell_key, KeyEntry.cell_setCell]
    split
    · next hd => rw [hd]; exact hf k rfl
    · rfl
  | empty | gate => rfl

theorem Entry.ok.cell {k : KeyEntry} (h : (Entry.key k).ok) (c : CellId) : (k.cell c).ok := (KeyEntry.ok_iff.1 (h k rfl)).1 c

theorem blankCell_ok : blankCell.ok := ⟨rfl, rfl, rfl⟩

/-- A cell that is held serves or drains (R4). -/
theorem Cell.ok.state_of_held {x : Cell} (h : x.ok) (hx : 0 < x.inFlight) : x.state = .serving ∨ x.state = .draining := by
  unfold Cell.ok at h
  cases hs : x.state <;> rw [hs] at h <;> simp at h ⊢ <;> omega

theorem Cell.ok.unheld_of_forming {x : Cell} (h : x.ok) (hx : x.state = .forming) :
    x.value = none ∧ x.check = none ∧ x.inFlight = 0 := by
  unfold Cell.ok at h; rw [hx] at h; exact h

/-! ### Releases (R10, R11) -/

theorem releasedCell_ok {x : Cell} (h : x.ok) : (releasedCell x).ok := by
  unfold releasedCell
  split
  · next hs => unfold Cell.ok at h ⊢; simp only [hs] at h ⊢; exact h
  · next hs =>
    unfold Cell.ok at h
    rw [hs] at h
    obtain ⟨hv, hc, hp⟩ := h
    split
    · exact ⟨hv, hc, rfl⟩
    · unfold Cell.ok
      simp only [hs]
      exact ⟨hv, hc, by omega⟩
  · exact h

theorem releasedCell_serving (x : Cell) : (releasedCell x).state = .serving ↔ x.state = .serving := by
  unfold releasedCell
  split
  · exact Iff.rfl
  · next hs => split <;> simp [hs]
  · exact Iff.rfl

theorem releasedCell_forming {x : Cell} (h : x.state = .forming) : releasedCell x = x := by
  unfold releasedCell; rw [h]

theorem releasedCell_value (x : Cell) : (releasedCell x).value = x.value := by
  unfold releasedCell; split
  · rfl
  · split <;> rfl
  · rfl

theorem releasedCell_inFlight {x : Cell} (h : x.ok) : (releasedCell x).inFlight = x.inFlight - 1 := by
  unfold releasedCell
  split
  · rfl
  · split
    · show 0 = _; omega
    · rfl
  · next h1 h2 =>
    have : x.inFlight = 0 := by
      by_contra h0
      exact (h.state_of_held (by omega)).elim h1 h2
    omega

/-- An entry after the release of one hold on each of the cells listed. -/
def Entry.released (e : Entry) (cs : List CellId) : Entry := cs.foldl (fun e c => e.modCell c releasedCell) e

theorem Entry.released_cons (e : Entry) (c : CellId) (cs : List CellId) :
    e.released (c :: cs) = (e.modCell c releasedCell).released cs := rfl

/-- What a release keeps, the releases of several cells keep. -/
theorem Entry.released_keeps {I : Entry → Prop} (hI : ∀ e c, I e → I (e.modCell c releasedCell)) {e : Entry}
    (cs : List CellId) (h : I e) : I (e.released cs) := by
  induction cs generalizing e with
  | nil => exact h
  | cons c cs ih => exact ih (hI e c h)

theorem Entry.ok.release {e : Entry} (c : CellId) (h : e.ok) : (e.modCell c releasedCell).ok :=
  h.modCell fun k hk => by subst hk; exact ⟨releasedCell_ok (h.cell c), releasedCell_serving _⟩

theorem Entry.ok.released {e : Entry} (cs : List CellId) (h : e.ok) : (e.released cs).ok :=
  Entry.released_keeps (fun _ c he => he.release c) cs h

theorem Entry.usesFit.released {e : Entry} (cs : List CellId) (h : e.usesFit) : (e.released cs).usesFit :=
  Entry.released_keeps (fun _ c he => he.modCell c _) cs h

theorem Entry.forms.released {e : Entry} {d : CellId} (cs : List CellId) (h : e.forms d) : (e.released cs).forms d :=
  Entry.released_keeps (I := fun e => e.forms d)
    (fun _ _ he => he.modCell fun k _ _ hs => by rw [releasedCell_forming hs]; exact hs) cs h

theorem Entry.value_released (e : Entry) (cs : List CellId) (d : CellId) : (e.released cs).value d = e.value d :=
  Entry.released_keeps (I := fun e' => e'.value d = e.value d)
    (fun _ _ he => (Entry.value_modCell fun k _ => by rw [releasedCell_value]).trans he) cs rfl

theorem Entry.held_release {e : Entry} (h : e.ok) (c d : CellId) :
    (e.modCell c releasedCell).held d = e.held d - if d = c then 1 else 0 := by
  by_cases hd : d = c
  · subst hd
    cases e with
    | key k =>
      simp only [Entry.held, Entry.modCell_key, KeyEntry.cell_setCell_same, if_true]
      exact releasedCell_inFlight (h.cell d)
    | empty | gate => simp [Entry.held]
  · rw [Entry.held_modCell_ne _ hd, if_neg hd, Nat.sub_zero]

theorem Entry.held_released {e : Entry} {cs : List CellId} (h : e.ok) (hn : cs.Nodup) (d : CellId) :
    (e.released cs).held d = e.held d - if d ∈ cs then 1 else 0 := by
  induction cs generalizing e with
  | nil => simp [Entry.released]
  | cons c cs ih =>
    obtain ⟨hc, hn⟩ := List.nodup_cons.1 hn
    rw [Entry.released_cons, ih (h.release c) hn, Entry.held_release h]
    by_cases hd : d = c
    · subst hd; simp [hc]
    · simp [hd]

/-- The cells of one entry among the cells of the Key Table listed. -/
def cellsIn (n : Nat) (xs : List (Nat × CellId)) : List CellId := (xs.filter (·.1 == n)).map Prod.snd

theorem mem_cellsIn {n : Nat} {xs : List (Nat × CellId)} {c : CellId} : c ∈ cellsIn n xs ↔ (n, c) ∈ xs := by
  simp only [cellsIn, List.mem_map, List.mem_filter, beq_iff_eq]
  constructor
  · rintro ⟨⟨m, d⟩, ⟨hm, rfl⟩, rfl⟩; exact hm
  · exact fun h => ⟨(n, c), ⟨h, rfl⟩, rfl⟩

theorem nodup_cellsIn (n : Nat) {xs : List (Nat × CellId)} (h : xs.Nodup) : (cellsIn n xs).Nodup := by
  refine (List.nodup_map_iff_inj_on (h.filter _)).2 ?_
  rintro ⟨m, c⟩ hm ⟨m', c'⟩ hm' hc
  simp only [List.mem_filter, beq_iff_eq] at hm hm'
  rw [Prod.mk.injEq]
  exact ⟨hm.2.trans hm'.2.symm, hc⟩

theorem entry_releaseCells (loud : Bool) (xs : List (Nat × CellId)) (s : State) (n : Nat) :
    (xs.foldl (State.releaseCell loud) s).entry n = (s.entry n).released (cellsIn n xs) := by
  induction xs generalizing s with
  | nil => rfl
  | cons x xs ih =>
    rw [List.foldl_cons, ih, entry_releaseCell]
    by_cases hn : n = x.1
    · subst hn
      simp [cellsIn, Entry.released]
    · have : cellsIn n (x :: xs) = cellsIn n xs := by simp [cellsIn, Ne.symm hn]
      rw [if_neg hn, this]

/-! ### The cells that a job holds -/

/-- The cells that a job holds: a CUSTODY job's pair is no capture (R8). -/
def Job.holds (j : Job) : List (Nat × CellId) :=
  match j.ctx with
  | .custody _ => []
  | _ => j.captured

theorem holdsCell_iff {j : Job} {x : Nat × CellId} : j.holdsCell x = true ↔ x ∈ j.holds := by
  unfold Job.holdsCell Job.holds
  cases j.ctx <;> simp

theorem releaseCaptured_eq (loud : Bool) (s : State) (j : Job) :
    s.releaseCaptured loud j = j.holds.foldl (State.releaseCell loud) s := by
  unfold State.releaseCaptured Job.holds
  cases j.ctx <;> rfl

theorem Job.Follows.holds {j j' : Job} (h : j.Follows j') : j'.holds = j.holds := by
  have hc := h.ctx
  unfold Job.holds
  rw [h.captured]
  cases h1 : j.ctx with
  | custody =>
    cases h2 : j'.ctx with
    | custody => rfl
    | derive | stream => rw [h1, h2] at hc; exact hc.elim
  | derive | stream =>
    cases h2 : j'.ctx with
    | custody => rw [h1, h2] at hc; exact hc.elim
    | derive | stream => rfl

theorem entry_settleJob (s : State) (commits loud : Bool) (answers : List Response) (j : Job) (n : Nat) :
    (s.settleJob commits loud answers j).entry n = (s.entry n).released (cellsIn n j.holds) := by
  obtain ⟨b, ns, h1⟩ := settlePosition_touches commits s j
  obtain ⟨p, h2⟩ := respondAll_touches ((s.settlePosition commits j).releaseCaptured loud j) j.owner answers
  have : (s.settleJob commits loud answers j).entry n = ((s.settlePosition commits j).releaseCaptured loud j).entry n := by
    rw [State.settleJob, h2]; rfl
  rw [this, releaseCaptured_eq, entry_releaseCells]
  congr 1
  rw [h1]; rfl

/-! ### Captures (R8) -/

/-- A cell with one hold more. -/
def capturedCell (x : Cell) : Cell := { x with inFlight := x.inFlight + 1 }

theorem entry_capture (s : State) (x : Nat × CellId) (m : Nat) :
    (s.capture x.1 x.2).entry m = if m = x.1 then (s.entry x.1).modCell x.2 capturedCell else s.entry m :=
  entry_modCell s x.1 m x.2 capturedCell

theorem capturedCell_ok {x : Cell} (h : x.ok) (hs : x.state = .serving) : (capturedCell x).ok := by
  unfold Cell.ok at h ⊢
  simp only [capturedCell, hs] at h ⊢
  exact h

theorem State.serves.state {x : Nat × CellId} {u : KeyUse} (h : s.serves x u) (hok : ∀ n, (s.entry n).ok) :
    ∃ k, s.entry x.1 = .key k ∧ (k.cell x.2).state = .serving := by
  obtain ⟨k, hk, _, hs⟩ := h
  exact ⟨k, hk, ((KeyEntry.ok_iff.1 (hok x.1 k hk)).2 x.2).2 hs⟩

/-- The cell serves, as `State.serves.state` reads it. -/
def Entry.servesAt (e : Entry) (c : CellId) : Prop := ∃ k, e = .key k ∧ (k.cell c).state = .serving

theorem Entry.ok.capture {e : Entry} {c : CellId} (h : e.ok) (hs : e.servesAt c) : (e.modCell c capturedCell).ok := by
  obtain ⟨k, rfl, hk⟩ := hs
  refine h.modCell fun k' hk' => ?_
  cases hk'
  exact ⟨capturedCell_ok (h.cell c) hk, Iff.rfl⟩

theorem Entry.servesAt.capture {e : Entry} {c : CellId} (d : CellId) (hs : e.servesAt c) :
    (e.modCell d capturedCell).servesAt c := by
  obtain ⟨k, rfl, hk⟩ := hs
  refine ⟨_, rfl, ?_⟩
  rw [KeyEntry.cell_setCell]
  split
  · next h => rw [← h]; exact hk
  · exact hk

theorem Entry.held_capture {e : Entry} {c : CellId} (hs : e.servesAt c) (d : CellId) :
    (e.modCell c capturedCell).held d = e.held d + if d = c then 1 else 0 := by
  obtain ⟨k, rfl, _⟩ := hs
  by_cases hd : d = c
  · subst hd
    simp only [Entry.held, Entry.modCell_key, KeyEntry.cell_setCell_same, if_true]
    rfl
  · rw [Entry.held_modCell_ne _ hd, if_neg hd, Nat.add_zero]

/-- A change of the Key Table under which every entry stays as R4, R6 and R3 say and no FORMING cell is lost. -/
structure State.KeysKept (s t : State) : Prop where
  ok : (∀ n, (s.entry n).ok) → ∀ n, (t.entry n).ok
  uses : (∀ n, (s.entry n).usesFit) → ∀ n, (t.entry n).usesFit
  forms : ∀ n c, (s.entry n).forms c → (t.entry n).forms c

theorem State.KeysKept.of_eq (h : t.keys = s.keys) : s.KeysKept t :=
  ⟨fun hs n => by rw [entry_congr h]; exact hs n, fun hs n => by rw [entry_congr h]; exact hs n,
    fun n c hc => by rw [entry_congr h]; exact hc⟩

theorem State.KeysKept.trans {u : State} (h1 : s.KeysKept t) (h2 : t.KeysKept u) : s.KeysKept u :=
  ⟨fun h => h2.ok (h1.ok h), fun h => h2.uses (h1.uses h), fun n c h => h2.forms n c (h1.forms n c h)⟩

theorem keysKept_settleJob (commits loud : Bool) (answers : List Response) (j : Job) :
    s.KeysKept (s.settleJob commits loud answers j) :=
  ⟨fun h n => by rw [entry_settleJob]; exact (h n).released _, fun h n => by rw [entry_settleJob]; exact (h n).released _,
    fun n c h => by rw [entry_settleJob]; exact h.released _⟩

theorem servesAt_capture {x y : Nat × CellId} (hy : (s.entry y.1).servesAt y.2) :
    ((s.capture x.1 x.2).entry y.1).servesAt y.2 := by
  rw [entry_capture]
  split
  · next h => rw [← h]; exact hy.capture x.2
  · exact hy

theorem keysKept_capture {x : Nat × CellId} (hx : (∀ n, (s.entry n).ok) → (s.entry x.1).servesAt x.2) :
    s.KeysKept (s.capture x.1 x.2) := by
  refine ⟨fun h n => ?_, fun h n => ?_, fun n c h => ?_⟩
  · rw [entry_capture]
    split
    · exact (h x.1).capture (hx h)
    · exact h n
  · rw [entry_capture]
    split
    · exact (h x.1).modCell _ _
    · exact h n
  · rw [entry_capture]
    split
    · next hn => subst hn; exact h.modCell fun _ _ _ hf => hf
    · exact h

theorem keysKept_captures {x y : Nat × CellId} {u v : KeyUse} (hx : s.serves x u) (hy : s.serves y v) :
    s.KeysKept ((s.capture x.1 x.2).capture y.1 y.2) := by
  have h1 := keysKept_capture (s := s) (x := x) fun hok => hx.state hok
  refine ⟨fun hok n => ?_, fun huses n => ?_, fun n c hf => ?_⟩
  · exact (keysKept_capture fun _ => servesAt_capture (hy.state hok)).ok (h1.ok hok) n
  · rw [entry_capture]
    split
    · exact (h1.uses huses y.1).modCell _ _
    · exact h1.uses huses n
  · rw [entry_capture]
    split
    · next hn => subst hn; exact (h1.forms _ c hf).modCell fun _ _ _ hf => hf
    · exact h1.forms n c hf

/-! ### The close of the ceremony and the entry to ZEROISING -/

/-- The target cell when its ceremony closes (R52). -/
def closedCell (x : Cell) : Cell := if x.state = .forming then blankCell else x

theorem Entry.ok.close {e : Entry} (c : CellId) (h : e.ok) : (e.modCell c closedCell).ok := by
  refine h.modCell fun k hk => ?_
  subst hk
  unfold closedCell
  split
  · next hf => exact ⟨blankCell_ok, by simp [blankCell, hf]⟩
  · exact ⟨h.cell c, Iff.rfl⟩

theorem Entry.held_close {e : Entry} (h : e.ok) (c d : CellId) : (e.modCell c closedCell).held d = e.held d := by
  by_cases hd : d = c
  · subst hd
    cases e with
    | key k =>
      simp only [Entry.held, Entry.modCell_key, KeyEntry.cell_setCell_same, closedCell]
      split
      · next hf => rw [((h.cell d).unheld_of_forming hf).2.2]; rfl
      · rfl
    | empty | gate => rfl
  · exact Entry.held_modCell_ne _ hd

theorem Entry.value_close {e : Entry} (h : e.ok) (c d : CellId) : (e.modCell c closedCell).value d = e.value d := by
  refine Entry.value_modCell fun k hk => ?_
  subst hk
  unfold closedCell
  split
  · next hf => rw [((h.cell c).unheld_of_forming hf).1]; rfl
  · rfl

theorem entry_closeCeremony {cer : Ceremony} (hc : s.ceremony = some cer) (n : Nat) :
    s.closeCeremony.entry n = if n = cer.slot then (s.entry cer.slot).modCell cer.cell closedCell else s.entry n := by
  rw [closeCeremony_some hc]
  exact entry_modCell s cer.slot n cer.cell closedCell

theorem ceremony_closeCeremony (s : State) : s.closeCeremony.ceremony = none := by
  obtain ⟨k, hk⟩ := closeCeremony_touches s
  rw [hk]

theorem usesFit_closeCeremony (h : ∀ n, (s.entry n).usesFit) (n : Nat) : (s.closeCeremony.entry n).usesFit := by
  cases hc : s.ceremony with
  | none => rw [closeCeremony_none hc]; exact h n
  | some cer =>
    rw [entry_closeCeremony hc]
    split
    · exact (h _).modCell _ _
    · exact h n

theorem ok_closeCeremony (h : ∀ n, (s.entry n).ok) (n : Nat) : (s.closeCeremony.entry n).ok := by
  cases hc : s.ceremony with
  | none => rw [closeCeremony_none hc]; exact h n
  | some cer =>
    rw [entry_closeCeremony hc]
    split
    · exact (h _).close _
    · exact h n

theorem held_closeCeremony (h : ∀ n, (s.entry n).ok) (n : Nat) (c : CellId) :
    (s.closeCeremony.entry n).held c = (s.entry n).held c := by
  cases hc : s.ceremony with
  | none => rw [closeCeremony_none hc]
  | some cer =>
    rw [entry_closeCeremony hc]
    split
    · next hn => subst hn; exact Entry.held_close (h _) _ _
    · rfl

theorem value_closeCeremony (h : ∀ n, (s.entry n).ok) (n : Nat) (c : CellId) :
    (s.closeCeremony.entry n).value c = (s.entry n).value c := by
  cases hc : s.ceremony with
  | none => rw [closeCeremony_none hc]
  | some cer =>
    rw [entry_closeCeremony hc]
    split
    · next hn => subst hn; exact Entry.value_close (h _) _ _
    · rfl

theorem Entry.zeroised_ok (e : Entry) : e.zeroised.ok := by
  cases e with
  | key k =>
    intro k' hk'
    simp only [Entry.zeroised, Entry.key.injEq] at hk'
    subst hk'
    exact ⟨blankCell_ok, blankCell_ok, fun c => by cases c <;> simp [KeyEntry.cell, blankCell]⟩
  | empty | gate => intro k' hk'; simp [Entry.zeroised] at hk'

theorem Entry.usesFit.zeroised {e : Entry} (h : e.usesFit) : e.zeroised.usesFit := by
  cases e with
  | key k =>
    intro k' hk'
    simp only [Entry.zeroised, Entry.key.injEq] at hk'
    subst hk'
    exact h k rfl
  | empty | gate => intro k' hk'; simp [Entry.zeroised] at hk'

theorem Entry.held_zeroised (e : Entry) (c : CellId) : e.zeroised.held c = 0 := by
  cases e <;> cases c <;> rfl

@[simp] theorem entry_suspendBatches (s : State) (n : Nat) : s.suspendBatches.entry n = s.entry n := rfl

@[simp] theorem entry_startZeroisation (s : State) (n : Nat) : s.startZeroisation.entry n = s.entry n := rfl

@[simp] theorem entry_clearEngine (s : State) (n : Nat) : s.clearEngine.entry n = s.entry n := rfl

/-- Every cell is cleared by the entry to ZEROISING (R22). -/
theorem entry_enterZeroising (s : State) (n : Nat) : ∃ e : Entry, s.enterZeroising.entry n = e.zeroised ∧
    ((∀ m, (s.entry m).usesFit) → e.usesFit) := by
  cases ha : s.alive with
  | false => exact ⟨s.entry n, by rw [enterZeroising_off ha, entry_clearCells]; rfl, fun h => h n⟩
  | true =>
    refine ⟨s.startZeroisation.tamperJobs.clearEngine.closeCeremony.entry n, ?_, fun h => usesFit_closeCeremony (fun m => ?_) n⟩
    · rw [enterZeroising_on ha, entry_clearCells, entry_suspendBatches]
    · rw [entry_clearEngine]
      exact tamperJobs_keeps (I := fun u => ∀ m, (u.entry m).usesFit)
        (fun u slot j _ hu m => (keysKept_settleJob (s := u) _ _ _ j).uses hu m) (s := s.startZeroisation) h m

/-! ### Cells as R4 and R6 say, and the ceremony's target -/

theorem keysOk_iff : s.keysOk ↔ s.zeroisingIdle ∧ (∀ n, (s.entry n).ok) ∧
    ∀ cer, s.ceremony = some cer → (s.entry cer.slot).forms cer.cell := Iff.rfl

theorem ok_combine {cer : Ceremony} {x : Cell} (hc : s.ceremony = some cer) (hx : x.ok)
    (hr : x.state = .ready ∨ x.state = .blank) (h : s.keysOk) (n : Nat) :
    ((s.modCell cer.slot cer.cell fun _ => x).entry n).ok := by
  obtain ⟨_, hok, hf⟩ := keysOk_iff.1 h
  rw [entry_modCell]
  split
  · refine (hok cer.slot).modCell fun k hk => ⟨hx, ?_⟩
    obtain ⟨k', hk', hform⟩ := hf cer hc
    rw [hk] at hk'
    cases hk'
    rcases hr with hr | hr <;> simp [hr, hform]
  · exact hok n

/-- Of the KEY entries, the moves that change neither the ceremony nor enter ZEROISING keep what R3, R4, R6 and R7 say. -/
inductive KeyMove (s t : State) : Prop
  | kept (h : s.KeysKept t)
      (hc : ∀ cer, t.ceremony = some cer → ∃ cer', s.ceremony = some cer' ∧ cer.slot = cer'.slot ∧ cer.cell = cer'.cell)
  | entry (n : Nat) (e : Entry) (h : (s.entry n).Becomes e) (ht : t = s.setEntry n e)
  | begun (cer : Ceremony) (hf : (s.entry cer.slot).forms cer.cell) (ht : t = s.setCeremony cer)
  | closed (ht : t = s.closeCeremony)
  | combined (cer : Ceremony) (x : Cell) (hc : s.ceremony = some cer) (hx : x.ok) (hr : x.state = .ready ∨ x.state = .blank)
      (ht : t = { s.modCell cer.slot cer.cell (fun _ => x) with ceremony := none })
  | zeroised (ht : t = s.enterZeroising)

theorem KeyMove.of_kept (h : s.KeysKept t) (hc : t.ceremony = s.ceremony) : KeyMove s t :=
  .kept h fun cer hcer => ⟨cer, hc ▸ hcer, rfl, rfl⟩

theorem Move.keyMove (hm : Move linked now s t) : KeyMove s t := by
  cases hm with
  | aside | port | waits | notices | bind | unlock | batch | custody | job | freeEngine => exact .of_kept (.of_eq rfl) rfl
  | join _ cer cer' hc hs hx =>
    refine .kept (.of_eq rfl) fun c h => ⟨cer, hc, ?_⟩
    cases h
    exact ⟨hs, hx⟩
  | entry n e h => exact .entry n e h rfl
  | beginCeremony cer _ _ _ hf => exact .begun cer hf rfl
  | closeCeremony => exact .closed rfl
  | combine _ cer x hc hx hr => exact .combined cer x hc hx hr rfl
  | derive l tag b pos prior keys mk tk slot _ _ _ hmk htk =>
    obtain ⟨k, hk⟩ := captures_touch (s.setBatch b ((s.batch b).reserve pos prior)) mk tk
    have hkept := keysKept_captures (s := s.setBatch b ((s.batch b).reserve pos prior)) hmk htk
    rw [hk] at hkept ⊢
    exact .of_kept ⟨hkept.ok, hkept.uses, hkept.forms⟩ rfl
  | stream l tag seq sk dk ivIn ivOut n limit slot _ hsk hdk =>
    obtain ⟨k, hk⟩ := captures_touch s sk dk
    have hkept := keysKept_captures hsk hdk
    rw [hk] at hkept ⊢
    exact .of_kept ⟨hkept.ok, hkept.uses, hkept.forms⟩ rfl
  | ends slot j commits loud answers =>
    have hkept := keysKept_settleJob (s := s) commits loud answers j
    obtain ⟨b, n, k, p, ht⟩ := settleJob_touches s commits loud answers j
    rw [ht] at hkept ⊢
    exact .of_kept ⟨hkept.ok, hkept.uses, hkept.forms⟩ rfl
  | arbitrate =>
    obtain ⟨sl, d, e, p, ht⟩ := arbitrate_touches s
    rw [ht]; exact .of_kept (.of_eq rfl) rfl
  | zeroise => exact .zeroised rfl

theorem Move.keeps_keysOk (hm : Move linked now s t) (h : s.keysOk) : t.keysOk := by
  obtain ⟨hz, hok, hf⟩ := keysOk_iff.1 h
  have hz' := hm.keeps_zeroisingIdle hz
  cases hm.keyMove with
  | kept hk hc =>
    refine keysOk_iff.2 ⟨hz', hk.ok hok, fun cer hcer => ?_⟩
    obtain ⟨cer', h1, h2, h3⟩ := hc cer hcer
    rw [h2, h3]
    exact hk.forms _ _ (hf cer' h1)
  | entry n e hb ht =>
    subst ht
    refine keysOk_iff.2 ⟨hz', fun m => ?_, fun cer hcer => ?_⟩
    · rw [State.entry_setEntry]
      split
      · exact hb.ok (hok n)
      · exact hok m
    · rw [State.entry_setEntry]
      split
      · next hn => exact hb.forms (hok n) _ (hn.1 ▸ hf cer hcer)
      · exact hf cer hcer
  | begun cer hforms ht =>
    subst ht
    refine keysOk_iff.2 ⟨hz', hok, fun c hc => ?_⟩
    cases hc
    exact hforms
  | closed ht =>
    subst ht
    refine keysOk_iff.2 ⟨hz', ok_closeCeremony hok, fun c hc => ?_⟩
    rw [ceremony_closeCeremony] at hc; simp at hc
  | combined cer x hc hx hr ht =>
    subst ht
    exact keysOk_iff.2 ⟨hz', ok_combine hc hx hr h, fun c hc => by simp at hc⟩
  | zeroised ht =>
    subst ht
    refine keysOk_iff.2 ⟨hz', fun n => ?_, fun c hc => ?_⟩
    · obtain ⟨e, he, _⟩ := entry_enterZeroising s n
      rw [he]; exact e.zeroised_ok
    · have := (idleWork_enterZeroising fun ha => hz.2 (.inr (.inr (.inl ha)))).2.2
      rw [hc] at this; simp at this

/-- The uses of every KEY entry are permitted by its class (R3). -/
def State.usesFit (s : State) : Prop := ∀ n, (s.entry n).usesFit

theorem Move.keeps_usesFit (hm : Move linked now s t) (h : s.usesFit) : t.usesFit := by
  cases hm.keyMove with
  | kept hk => exact hk.uses h
  | entry n e hb ht =>
    subst ht
    intro m
    rw [State.entry_setEntry]
    split
    · exact hb.uses (h n)
    · exact h m
  | begun cer _ ht => subst ht; exact h
  | closed ht => subst ht; exact usesFit_closeCeremony h
  | combined cer x hc hx hr ht =>
    subst ht
    intro n
    show ((s.modCell cer.slot cer.cell fun _ => x).entry n).usesFit
    rw [entry_modCell]
    split
    · exact (h _).modCell _ _
    · exact h n
  | zeroised ht =>
    subst ht
    intro n
    obtain ⟨e, he, hu⟩ := entry_enterZeroising s n
    rw [he]
    exact (hu h).zeroised

/-! ### The in-flight counts -/

/-- The cells that the job in a slot holds; none for a free slot. -/
def State.holdsAt (s : State) (n : Nat) : List (Nat × CellId) := ((s.job n).map Job.holds).getD []

/-- The number of slots whose jobs hold a cell; `holders_length` ties it to `State.holders`. -/
def State.holdCount (s : State) (x : Nat × CellId) : Nat := (List.range 16).countP fun n => decide (x ∈ s.holdsAt n)

theorem holdsAt_of_job {n : Nat} {j : Job} (h : s.job n = some j) : s.holdsAt n = j.holds := by
  simp [State.holdsAt, h]

theorem holdsAt_free {n : Nat} (h : s.job n = none) : s.holdsAt n = [] := by simp [State.holdsAt, h]

theorem holders_length (s : State) (x : Nat × CellId) : (s.holders x).length = s.holdCount x := by
  unfold State.holders State.holdCount
  rw [← List.countP_eq_length_filter]
  refine List.countP_congr fun n _ => ?_
  cases hj : s.job n with
  | none => simp [holdsAt_free hj]
  | some j => simp [holdsAt_of_job hj, holdsCell_iff]

/-- Two tests that differ at one element of a list without repeats. -/
theorem countP_change {α : Type} {p q : α → Bool} {a : α} {l : List α} (hl : l.Nodup) (ha : a ∈ l)
    (hpq : ∀ b, b ≠ a → q b = p b) :
    l.countP q + (if p a then 1 else 0) = l.countP p + if q a then 1 else 0 := by
  induction l with
  | nil => simp at ha
  | cons b l ih =>
    obtain ⟨hb, hl⟩ := List.nodup_cons.1 hl
    rw [List.countP_cons, List.countP_cons]
    rcases List.mem_cons.1 ha with rfl | ha
    · have : l.countP q = l.countP p := List.countP_congr fun c hc => by
        rw [hpq c fun h => hb (h ▸ hc)]
      omega
    · have hne : b ≠ a := fun h => hb (h ▸ ha)
      have := ih hl ha
      rw [hpq b hne]
      omega

/-- The holders of a cell when the cells of one slot change. -/
theorem holdCount_change {slot : Nat} {xs : List (Nat × CellId)} (hlt : slot < 16)
    (h : ∀ n, t.holdsAt n = if n = slot then xs else s.holdsAt n) (x : Nat × CellId) :
    t.holdCount x + (if x ∈ s.holdsAt slot then 1 else 0) = s.holdCount x + if x ∈ xs then 1 else 0 := by
  have := countP_change (p := fun n => decide (x ∈ s.holdsAt n)) (q := fun n => decide (x ∈ t.holdsAt n)) (a := slot)
    List.nodup_range (List.mem_range.2 hlt) (fun b hb => by rw [h, if_neg hb])
  simpa [State.holdCount, h] using this

/-- The third relation of `State.countsAgree`, in terms of the cells that each slot holds. -/
structure State.countsMatch (s : State) : Prop where
  counts : ∀ n c, (s.entry n).held c = s.holdCount (n, c)
  once : ∀ n, (s.holdsAt n).Nodup

theorem State.countsMatch.held_pos (h : s.countsMatch) {n : Nat} {x : Nat × CellId} (hx : x ∈ s.holdsAt n) :
    0 < (s.entry x.1).held x.2 := by
  rw [h.counts]
  refine List.countP_pos_iff.2 ⟨n, ?_, by simpa using hx⟩
  cases hj : s.job n with
  | none => rw [holdsAt_free hj] at hx; simp at hx
  | some j => exact List.mem_range.2 (State.lt_of_job hj)

theorem Entry.key_of_held {e : Entry} {c : CellId} (h : 0 < e.held c) : ∃ k, e = .key k ∧ e.held c = (k.cell c).inFlight := by
  cases e with
  | key k => exact ⟨k, rfl, rfl⟩
  | empty | gate => simp [Entry.held] at h

theorem countsAgree_iff : s.countsAgree ↔
    s.keysOk ∧ s.usesFit ∧ (s.alive = true → s.sweep = .idle → s.countsMatch) := by
  refine and_congr_right fun _ => and_congr_right fun _ => forall_congr' fun _ => forall_congr' fun _ => ?_
  constructor
  · rintro ⟨hc, hj⟩
    refine ⟨fun n c => ?_, fun n => ?_⟩
    · rw [← holders_length]
      cases he : s.entry n with
      | key k => exact hc n k c he
      | empty | gate =>
        symm
        rw [show (_ : Entry).held c = 0 from rfl, List.length_eq_zero_iff]
        refine List.filter_eq_nil_iff.2 fun m _ hm => ?_
        obtain ⟨j, hjob, hholds⟩ := (Option.any_eq_true _ _).1 hm
        obtain ⟨k, hk⟩ := (hj m j hjob).1 _ hholds
        rw [he] at hk; simp at hk
    · cases hjob : s.job n with
      | none => rw [holdsAt_free hjob]; exact List.nodup_nil
      | some j =>
        rw [holdsAt_of_job hjob]
        rcases (hj n j hjob).2 with ⟨c, hcus⟩ | hn
        · unfold Job.holds; rw [hcus]; exact List.nodup_nil
        · unfold Job.holds
          split
          · exact List.nodup_nil
          · exact hn
  · intro h
    refine ⟨fun n k c he => ?_, fun n j hjob => ⟨fun x hx => ?_, ?_⟩⟩
    · rw [holders_length, ← h.counts, he]; rfl
    · rw [holdsCell_iff] at hx
      obtain ⟨k, hk, _⟩ := Entry.key_of_held (h.held_pos (n := n) (by rw [holdsAt_of_job hjob]; exact hx))
      exact ⟨k, hk⟩
    · have := h.once n
      rw [holdsAt_of_job hjob] at this
      unfold Job.holds at this
      cases hc : j.ctx with
      | custody c => exact .inl ⟨c, rfl⟩
      | derive | stream => rw [hc] at this; exact .inr this

/-- Only the holds on each cell, and the cells of each slot, count. -/
theorem State.countsMatch.congr (h : s.countsMatch) (he : ∀ n c, (t.entry n).held c = (s.entry n).held c)
    (hh : ∀ n, t.holdsAt n = s.holdsAt n) : t.countsMatch := by
  refine ⟨fun n c => ?_, fun n => by rw [hh]; exact h.once n⟩
  rw [he, h.counts]
  exact List.countP_congr fun m _ => by rw [hh]

theorem holdsAt_congr (h : t.slots = s.slots) (n : Nat) : t.holdsAt n = s.holdsAt n := by
  unfold State.holdsAt; rw [job_congr h]

theorem holdsAt_setJob {slot : Nat} {j j' : Job} (hj : s.job slot = some j) (hp : j'.holds = j.holds) (n : Nat) :
    (s.setJob slot (some j')).holdsAt n = s.holdsAt n := by
  by_cases hn : n = slot
  · subst hn
    rw [holdsAt_of_job hj, holdsAt_of_job (setJob_live hj _), hp]
  · unfold State.holdsAt
    rw [State.job_setJob_ne s _ hn]

theorem holdsAt_placeJob {slot : Nat} (j : Job) (h : slot < 16) (n : Nat) :
    (s.placeJob slot j).holdsAt n = if n = slot then j.holds else s.holdsAt n := by
  have hjob : (s.placeJob slot j).job n = if n = slot then some j else s.job n := by
    show (s.setJob slot (some j)).job n = _
    rw [State.job_setJob]; simp [h]
  unfold State.holdsAt
  rw [hjob]
  split <;> rfl

/-- Two serving cells captured for a new job. -/
theorem State.countsMatch.capture {slot : Nat} {x y : Nat × CellId} (h : s.countsMatch) (hlt : slot < 16)
    (hfree : s.job slot = none)
    (hx : (s.entry x.1).servesAt x.2) (hy : (s.entry y.1).servesAt y.2) (hxy : x ≠ y)
    (he : ∀ n, t.entry n = ((s.capture x.1 x.2).capture y.1 y.2).entry n)
    (hh : ∀ n, t.holdsAt n = if n = slot then [x, y] else s.holdsAt n) : t.countsMatch := by
  have held : ∀ {u : State} {z : Nat × CellId}, (u.entry z.1).servesAt z.2 → ∀ n c,
      ((u.capture z.1 z.2).entry n).held c = (u.entry n).held c + if (n, c) = z then 1 else 0 := by
    intro u z hz n c
    rw [entry_capture]
    by_cases hn : n = z.1
    · subst hn
      rw [if_pos rfl, Entry.held_capture hz]
      by_cases hc : c = z.2
      · subst hc; simp
      · have : (z.1, c) ≠ z := fun h => hc (congrArg Prod.snd h)
        simp [hc, this]
    · have : (n, c) ≠ z := fun h => hn (congrArg Prod.fst h)
      simp [hn, this]
  refine ⟨fun n c => ?_, fun n => ?_⟩
  · have hcount := holdCount_change hlt hh (n, c)
    rw [holdsAt_free hfree] at hcount
    rw [he, held (servesAt_capture hy), held hx, h.counts]
    simp only [List.not_mem_nil, if_false, List.mem_cons, or_false] at hcount
    generalize (n, c) = z at hcount ⊢
    by_cases h1 : z = x
    · subst h1
      simp only [hxy, true_or, if_true, if_false] at hcount ⊢
      omega
    · simp only [h1, false_or, if_false] at hcount ⊢
      omega
  · rw [hh]
    split
    · simpa using hxy
    · exact h.once n

/-- The cells of an ended job released. -/
theorem State.countsMatch.release {slot : Nat} (h : s.countsMatch) (hok : ∀ n, (s.entry n).ok) (hlt : slot < 16)
    (he : ∀ n, t.entry n = (s.entry n).released (cellsIn n (s.holdsAt slot)))
    (hh : ∀ n, t.holdsAt n = if n = slot then [] else s.holdsAt n) : t.countsMatch := by
  refine ⟨fun n c => ?_, fun n => ?_⟩
  · have hcount := holdCount_change hlt hh (n, c)
    have hone := h.counts n c
    rw [he, Entry.held_released (hok n) (nodup_cellsIn n (h.once slot))]
    simp only [mem_cellsIn]
    simp only [List.not_mem_nil, if_false] at hcount
    omega
  · rw [hh]
    split
    · exact List.nodup_nil
    · exact h.once n

/-- The two cells that a job captures differ: no class permits the uses of both (R3). -/
theorem serves_ne {x y : Nat × CellId} {u v : KeyUse} (hu : s.usesFit) (hx : s.serves x u) (hy : s.serves y v)
    (huv : ∀ cls : KeyClass, ¬ (u ∈ cls.permitted ∧ v ∈ cls.permitted)) : x ≠ y := by
  rintro rfl
  obtain ⟨k, hk, huse, _⟩ := hx
  obtain ⟨k', hk', hvse, _⟩ := hy
  rw [hk] at hk'
  cases hk'
  exact huv k.cls ⟨hu x.1 k hk u huse, hu x.1 k hk v hvse⟩

theorem Move.keeps_countsAgree (hm : Move linked now s t) (h : s.countsAgree) : t.countsAgree := by
  have hsup := hm.sameSupplies
  rw [countsAgree_iff] at h ⊢
  obtain ⟨hkeys, huses, hmatch⟩ := h
  refine ⟨hm.keeps_keysOk hkeys, hm.keeps_usesFit huses, fun h1 h2 => ?_⟩
  have hmatch := hmatch (hsup.alive ▸ h1) (hsup.2.2 ▸ h2)
  obtain ⟨_, hok, hforms⟩ := keysOk_iff.1 hkeys
  cases hm with
  | aside | port | waits | notices | bind | unlock | beginCeremony | batch | join | freeEngine =>
    exact hmatch.congr (fun _ _ => rfl) (holdsAt_congr rfl)
  | entry n e hb =>
    refine hmatch.congr (fun m c => ?_) (holdsAt_congr rfl)
    rw [State.entry_setEntry]
    split
    · next hn => rw [hn.1]; exact hb.held (hok n) c
    · rfl
  | closeCeremony =>
    obtain ⟨k, hk⟩ := closeCeremony_touches s
    exact hmatch.congr (held_closeCeremony hok) (holdsAt_congr (by rw [hk]))
  | combine _ cer x hc _ _ h0 =>
    obtain ⟨k, hk⟩ := modCell_touches s cer.slot cer.cell fun _ => x
    refine hmatch.congr (fun n c => ?_) (holdsAt_congr (by rw [hk]))
    show ((s.modCell cer.slot cer.cell fun _ => x).entry n).held c = _
    rw [entry_modCell]
    split
    · next hn =>
      subst hn
      obtain ⟨k, hk, hform⟩ := hforms cer hc
      have hunheld := ((KeyEntry.ok_iff.1 (hok cer.slot k hk)).1 cer.cell).unheld_of_forming hform
      by_cases hcc : c = cer.cell
      · rw [hk, hcc]
        simp only [Entry.held, Entry.modCell_key, KeyEntry.cell_setCell_same]
        rw [h0, hunheld.2.2]
      · exact Entry.held_modCell_ne _ hcc
    · rfl
  | custody tag cer custodian value ha hs =>
    refine hmatch.congr (fun _ _ => rfl) fun n => ?_
    rw [holdsAt_placeJob _ (by decide)]
    split
    · next hn => rw [hn, holdsAt_free hs]; rfl
    · rfl
  | derive l tag b pos prior keys mk tk slot _ _ _ hmk htk hs =>
    obtain ⟨k, hk⟩ := captures_touch (s.setBatch b ((s.batch b).reserve pos prior)) mk tk
    obtain ⟨hlt, hfree, _⟩ := lineSlotFor_ok hs
    have hne := serves_ne huses hmk htk fun cls => by cases cls <;> decide
    refine State.countsMatch.capture (s := s.setBatch b ((s.batch b).reserve pos prior)) (slot := slot)
      (hmatch.congr (fun _ _ => rfl) (holdsAt_congr rfl)) (by omega) hfree (hmk.state hok) (htk.state hok) hne
      (fun n => rfl) fun n => ?_
    rw [hk, holdsAt_placeJob _ (by omega)]
    rfl
  | stream l tag seq sk dk ivIn ivOut n limit slot _ hsk hdk hs =>
    obtain ⟨k, hk⟩ := captures_touch s sk dk
    obtain ⟨hlt, hfree, _⟩ := lineSlotFor_ok hs
    have hne := serves_ne huses hsk hdk fun cls => by cases cls <;> decide
    refine State.countsMatch.capture (slot := slot) hmatch (by omega) hfree (hsk.state hok) (hdk.state hok) hne
      (fun n => rfl) fun n => ?_
    rw [hk, holdsAt_placeJob _ (by omega)]
    rfl
  | job slot j j' hj hf => exact hmatch.congr (fun _ _ => rfl) (holdsAt_setJob hj hf.holds)
  | ends slot j commits loud answers hj =>
    refine hmatch.release (slot := slot) hok (State.lt_of_job hj) (fun n => ?_) fun n => ?_
    · rw [holdsAt_of_job hj]; exact entry_settleJob s commits loud answers j n
    · unfold State.holdsAt
      rw [freeSlot_job, settleJob_job]
      split <;> rfl
  | arbitrate =>
    rcases arbitrate_grants s with ⟨p, d, ht⟩ | ⟨slot, j, p, d, _, hj, _, ht⟩
    · rw [ht]; exact hmatch.congr (fun _ _ => rfl) (holdsAt_congr rfl)
    · rw [ht]
      exact hmatch.congr (fun _ _ => rfl) (holdsAt_setJob (j' := { j with state := .inGrant }) hj rfl)
  | zeroise =>
    have ha : s.alive = true := hsup.alive ▸ h1
    obtain ⟨_, _, he⟩ := enterZeroising_on_touches ha
    have hslots : s.enterZeroising.slots = s.startZeroisation.tamperJobs.slots := by rw [he]
    have hfree : ∀ n, s.enterZeroising.holdsAt n = [] := fun n =>
      holdsAt_free ((job_congr hslots n).trans (tamperJobs_job _ n))
    refine ⟨fun n c => ?_, fun n => by rw [hfree]; exact List.nodup_nil⟩
    obtain ⟨e, hz, _⟩ := entry_enterZeroising s n
    rw [hz, Entry.held_zeroised, eq_comm]
    exact List.countP_eq_zero.2 fun m _ => by simp [hfree]

end Sys2Proof.Machine
end

/-! SUPPORT. The grant in progress, its job and its working copy (R87, R103, R9, R111), through each move. -/

section
namespace Sys2Proof.Machine

variable {linked : Prop} {now : Bool} {s t : State}

/-! ### What a pass of a job depends on -/

/-- Two states give the passes of a job the same inputs: the values of its cells, the run of its position and the running value of
the ceremony. -/
structure SameInputs (s t : State) (j : Job) : Prop where
  values : ∀ x ∈ j.holds, t.cellValue x.1 x.2 = s.cellValue x.1 x.2
  runs : ∀ c, j.ctx = .derive c →
    (t.batch c.batch).first = (s.batch c.batch).first ∧ (t.batch c.batch).domain = (s.batch c.batch).domain
  running : ∀ c, j.ctx = .custody c →
    (t.ceremony.map Ceremony.running).getD 0 = (s.ceremony.map Ceremony.running).getD 0

theorem record_derive {j : Job} {c : DeriveCtx} (h : j.ctx = .derive c) (res : Block) :
    s.record j res = { j with ctx := .derive (s.recordDerive c res) } := by
  unfold State.record; rw [h]

theorem record_stream {j : Job} {c : StreamCtx} (h : j.ctx = .stream c) (res : Block) :
    ∃ c', s.record j res = { j with ctx := .stream c' } := by
  unfold State.record
  rw [h]
  dsimp only
  split
  · exact ⟨_, rfl⟩
  · exact ⟨c, by rw [← h]⟩

theorem SameInputs.diversifierOf {j : Job} {c : DeriveCtx} (h : SameInputs s t j) (hc : j.ctx = .derive c) :
    t.diversifierOf c = s.diversifierOf c := by
  obtain ⟨h1, h2⟩ := h.runs c hc
  unfold State.diversifierOf
  dsimp only
  rw [h1, h2]

theorem SameInputs.record_eq {j : Job} (h : SameInputs s t j) (res : Block) : t.record j res = s.record j res := by
  unfold State.record
  split
  · next c hc =>
    unfold State.recordDerive
    rw [h.diversifierOf hc]
  · rfl
  · rfl

/-- The next result leaves the inputs of the later passes. -/
theorem SameInputs.record {j : Job} (h : SameInputs s t j) (res : Block) : SameInputs s t (s.record j res) := by
  cases hc : j.ctx with
  | derive c =>
    rw [record_derive hc]
    refine ⟨fun x hx => h.values x ?_, fun c' hc' => ?_, fun c' hc' => by simp at hc'⟩
    · unfold Job.holds; rw [hc]; exact hx
    · simp only [JobCtx.derive.injEq] at hc'
      subst hc'
      exact h.runs c hc
  | stream c =>
    obtain ⟨c', hr⟩ := record_stream (s := s) hc res
    rw [hr]
    refine ⟨fun x hx => h.values x ?_, fun d hd => by simp at hd, fun d hd => by simp at hd⟩
    unfold Job.holds; rw [hc]; exact hx
  | custody c =>
    have : s.record j res = j := by unfold State.record; rw [hc]
    rw [this]; exact h

@[simp] theorem recordAll_nil (s : State) (j : Job) : s.recordAll j [] = j := rfl

theorem recordAll_cons (s : State) (j : Job) (res : Block) (held : List Block) :
    s.recordAll j (res :: held) = s.recordAll (s.record j res) held := by
  unfold State.recordAll; rw [List.foldl_cons]

theorem SameInputs.recordAll {j : Job} (h : SameInputs s t j) (held : List Block) :
    t.recordAll j held = s.recordAll j held ∧ SameInputs s t (s.recordAll j held) := by
  induction held generalizing j with
  | nil => exact ⟨by rw [recordAll_nil, recordAll_nil], h⟩
  | cons res held ih =>
    rw [recordAll_cons, recordAll_cons, h.record_eq]
    exact ih (h.record res)

theorem SameInputs.capturedValue {j : Job} (h : SameInputs s t j) (hc : ∀ c, j.ctx ≠ .custody c) (i : Nat) :
    t.capturedValue j i = s.capturedValue j i := by
  have hh : j.holds = j.captured := by
    unfold Job.holds
    split
    · next c hcus => exact absurd hcus (hc c)
    · rfl
  unfold State.capturedValue
  split
  · next slot c hget => exact h.values (slot, c) (hh ▸ List.mem_of_getElem? hget)
  · rfl

theorem SameInputs.passInput {j : Job} (h : SameInputs s t j) : t.passInput j = s.passInput j := by
  unfold State.passInput
  split
  · next c hc =>
    have hcap := h.capturedValue fun d hd => by rw [hc] at hd; cases hd
    unfold State.derivePass
    rw [hcap, hcap, h.diversifierOf hc]
  · next c hc =>
    have hcap := h.capturedValue fun d hd => by rw [hc] at hd; cases hd
    split
    · unfold State.streamPass; rw [hcap, hcap]
    · rfl
  · next c hc =>
    unfold State.custodyPass
    rw [h.running c hc]

/-- The same inputs give the same working copy. -/
theorem SameInputs.work {j : Job} (h : SameInputs s t j) (held : List Block) :
    t.passInput (t.recordAll j held) = s.passInput (s.recordAll j held) := by
  obtain ⟨h1, h2⟩ := h.recordAll held
  rw [h1, h2.passInput]

theorem cellValue_eq (s : State) (n : Nat) (c : CellId) : s.cellValue n c = (s.entry n).value c := by
  unfold State.cellValue Entry.value
  cases s.entry n <;> rfl

/-! ### The grant and its job -/

/-- The jobs, their cells and their positions in agreement: all of `State.grantAgrees` but what it says of the engine. -/
structure State.jobsAgree (s : State) : Prop where
  counts : s.countsAgree
  positions : s.positionsHeld
  listed : s.jobsListed
  idle : s.allJobs Job.idleFits

/-- What `State.grantAgrees` says of the engine. -/
structure State.linkAgrees (s : State) : Prop where
  granted : ∀ n j, s.job n = some j → (j.state = .inGrant ↔ ∃ g, s.engine = some g ∧ g.slot = n)
  works : ∀ g, s.engine = some g → ∃ j, s.job g.slot = some j ∧ g.held.length < g.size ∧
    g.work = s.passInput (s.recordAll j g.held)

theorem grantAgrees_iff : s.grantAgrees ↔ s.jobsAgree ∧ s.linkAgrees :=
  ⟨fun ⟨h1, h2, h3, h4, h5, h6⟩ => ⟨⟨h1, h2, h3, fun n j hj c hc => h4 n j c hj hc⟩, ⟨h5, h6⟩⟩,
    fun ⟨⟨h1, h2, h3, h4⟩, h5, h6⟩ => ⟨h1, h2, h3, fun n j c hj hc => h4 n j hj c hc, h5, h6⟩⟩

theorem Move.keeps_jobsAgree (hm : Move linked now s t) (h : s.jobsAgree) : t.jobsAgree :=
  ⟨hm.keeps_countsAgree h.counts, hm.keeps_positionsHeld h.positions, hm.keeps_jobsListed h.listed, hm.keeps_idleFits h.idle⟩

theorem State.jobsAgree.zeroisingIdle (h : s.jobsAgree) : s.zeroisingIdle := h.counts.1.1

/-- A BUSY engine, and a live job, find the part at work. -/
theorem working_of_job (hz : s.zeroisingIdle) {n : Nat} {j : Job} (hj : s.job n = some j) : s.alive = true ∧ s.sweep = .idle := by
  by_contra hoff
  have : (s.idleWork) := hz.2 (by
    by_cases ha : s.alive = true
    · exact .inr (.inr (.inr fun hs => hoff ⟨ha, hs⟩))
    · exact .inr (.inr (.inl (by simpa using ha))))
  rw [this.1] at hj; simp at hj

theorem value_capture {x : Nat × CellId} (n : Nat) (c : CellId) :
    ((s.capture x.1 x.2).entry n).value c = (s.entry n).value c := by
  rw [entry_capture]
  split
  · next hn => subst hn; exact Entry.value_modCell fun _ _ => rfl
  · rfl

@[simp] theorem entry_placeJob (s : State) (slot : Nat) (j : Job) (n : Nat) : (s.placeJob slot j).entry n = s.entry n := rfl

@[simp] theorem entry_freeSlot (s : State) (slot : Nat) (p : Port) (n : Nat) : (s.freeSlot slot p).entry n = s.entry n := rfl

@[simp] theorem batch_freeSlot (s : State) (slot : Nat) (p : Port) (n : Nat) : (s.freeSlot slot p).batch n = s.batch n := rfl

/-- While its grant goes on, no move changes what the passes of a live job depend on (R9, R111). -/
theorem Move.sameInputs (hm : Move True now s t) (h : s.jobsAgree) (he : t.engine ≠ none) {n : Nat} {j : Job}
    (hj : s.job n = some j) : SameInputs s t j := by
  obtain ⟨ha, hsw⟩ := working_of_job h.zeroisingIdle hj
  obtain ⟨hkeys, _, hmatch⟩ := countsAgree_iff.1 h.counts
  obtain ⟨hz, hok, hforms⟩ := keysOk_iff.1 hkeys
  obtain ⟨hagree, hfits, hpos⟩ := positionsHeld_iff.1 h.positions
  have hpos := hpos ha hsw
  have hheld : ∀ x ∈ j.holds, 0 < (s.entry x.1).held x.2 := fun x hx =>
    (hmatch ha hsw).held_pos (n := n) (by rw [holdsAt_of_job hj]; exact hx)
  have same : ∀ {u : State}, u.keys = s.keys → u.batches = s.batches → u.ceremony = s.ceremony → SameInputs s u j :=
    fun h1 h2 h3 => ⟨fun x _ => by rw [cellValue_eq, cellValue_eq, entry_congr h1],
      fun c _ => by rw [batch_congr h2]; exact ⟨rfl, rfl⟩, fun c _ => by rw [h3]⟩
  cases hm with
  | aside | port | waits | notices | bind | unlock | custody | job => exact same rfl rfl rfl
  | entry m e hb =>
    refine ⟨fun x hx => ?_, fun c _ => ⟨rfl, rfl⟩, fun c _ => rfl⟩
    rw [cellValue_eq, cellValue_eq, State.entry_setEntry]
    split
    · next hn => rw [hn.1]; exact hb.value (hok m) x.2 (hn.1 ▸ hheld x hx)
    · rfl
  | beginCeremony cer _ hc hr =>
    refine ⟨fun x _ => rfl, fun c _ => ⟨rfl, rfl⟩, fun c _ => ?_⟩
    rw [hc]
    exact hr
  | closeCeremony hl =>
    obtain ⟨k, hk⟩ := closeCeremony_touches s
    refine ⟨fun x _ => ?_, fun c _ => ?_, fun c hc => ?_⟩
    · rw [cellValue_eq, cellValue_eq, value_closeCeremony hok]
    · rw [batch_closeCeremony]; exact ⟨rfl, rfl⟩
    · have hslot : n = Config.custodySlot := ((h.listed.2.2.1 n j hj).2).1 ⟨c, hc⟩
      have := hl trivial
      rw [State.custodyJobLive, ← hslot, hj] at this
      dsimp only at this
      rw [hc] at this
      cases this
  | batch m b hb =>
    refine ⟨fun x _ => rfl, fun c hc => ?_, fun c _ => rfl⟩
    rw [State.batch_setBatch]
    split
    · next hm =>
      rw [hm.1]
      refine hb.run (hagree m) (hfits m) ?_
      obtain ⟨x, hx, hget⟩ := (hpos.stands n c.batch c.pos c.prior (positionAt_some.2 ⟨j, c, hj, hc, rfl, rfl, rfl⟩)).get
      exact ⟨c.pos, x, hx, hm.1 ▸ hget⟩
    · exact ⟨rfl, rfl⟩
  | derive l tag b pos prior keys mk tk slot =>
    obtain ⟨k, hk⟩ := captures_touch (s.setBatch b ((s.batch b).reserve pos prior)) mk tk
    refine ⟨fun x _ => ?_, fun c _ => ?_, fun c _ => by rw [hk]; rfl⟩
    · rw [cellValue_eq, cellValue_eq, entry_placeJob, value_capture, value_capture, State.entry_setBatch]
    · rw [hk]
      show ((s.setBatch b ((s.batch b).reserve pos prior)).batch c.batch).first = _ ∧
        ((s.setBatch b ((s.batch b).reserve pos prior)).batch c.batch).domain = _
      rw [State.batch_setBatch]
      split
      · next hb => rw [hb.1]; unfold Batch.reserve; split <;> exact ⟨rfl, rfl⟩
      · exact ⟨rfl, rfl⟩
  | stream l tag seq sk dk ivIn ivOut n' limit slot =>
    obtain ⟨k, hk⟩ := captures_touch s sk dk
    refine ⟨fun x _ => ?_, fun c _ => by rw [hk]; exact ⟨rfl, rfl⟩, fun c _ => by rw [hk]; rfl⟩
    rw [cellValue_eq, cellValue_eq, entry_placeJob, value_capture, value_capture]
  | ends slot j' commits loud answers =>
    obtain ⟨b, ns, k, p, ht⟩ := settleJob_touches s commits loud answers j'
    refine ⟨fun x _ => ?_, fun c _ => ?_, fun c _ => by rw [ht]; rfl⟩
    · rw [cellValue_eq, cellValue_eq]
      rw [entry_freeSlot, entry_settleJob, Entry.value_released]
    · rw [batch_freeSlot, batch_settleJob]
      split
      · split
        · exact settled_run _ _ _
        · exact ⟨rfl, rfl⟩
      · exact ⟨rfl, rfl⟩
  | arbitrate =>
    obtain ⟨sl, d, e, p, ht⟩ := arbitrate_touches s
    rw [ht]; exact same rfl rfl rfl
  | zeroise =>
    obtain ⟨_, _, hz⟩ := enterZeroising_on_touches ha
    rw [hz] at he
    exact absurd rfl he
  | join hl | combine hl | freeEngine hl => exact absurd trivial hl

/-- Where the engine keeps its grant, the job of that grant its work, and every job its share in it, the link stays. -/
theorem State.linkAgrees.keep (h : s.linkAgrees) (he : t.engine = s.engine)
    (hs : ∀ n j', t.job n = some j' → (j'.state = .inGrant ↔ ∃ g, s.engine = some g ∧ g.slot = n))
    (hw : ∀ g j, s.engine = some g → s.job g.slot = some j →
      ∃ j', t.job g.slot = some j' ∧ t.passInput (t.recordAll j' g.held) = s.passInput (s.recordAll j g.held)) :
    t.linkAgrees := by
  refine ⟨fun n j' hj' => by rw [he]; exact hs n j' hj', fun g hg => ?_⟩
  rw [he] at hg
  obtain ⟨j, hj, hlt, hwork⟩ := h.works g hg
  obtain ⟨j', hj', hsame⟩ := hw g j hg hj
  exact ⟨j', hj', hlt, by rw [hsame, hwork]⟩

theorem linkAgrees_idle (he : s.engine = none) (h : s.allJobs fun j => j.state ≠ .inGrant) : s.linkAgrees :=
  ⟨fun n j hj => by simp [he, h n j hj], fun g hg => by rw [he] at hg; cases hg⟩

theorem passInput_state (s : State) (j : Job) (st : JobState) : s.passInput { j with state := st } = s.passInput j := by
  unfold State.passInput State.derivePass State.streamPass State.capturedValue
  rfl

theorem grantSize_pos (j : Job) : 0 < j.grantSize := by
  rcases j.grantSize_four_or_one with h | h <;> omega

/-- A grant start links its job and the engine (R104). -/
theorem State.linkAgrees.start {slot : Nat} {j : Job} {pointer : LinePort} {deficits : PerLine Nat} (h : s.linkAgrees)
    (he : s.engine = none) (hj : s.job slot = some j)
    (ht : t = { s.setJob slot (some { j with state := .inGrant }) with
      pointer := pointer, deficits := deficits
      engine := some { slot := slot, size := j.grantSize, held := [], work := s.passInput j } }) :
    t.linkAgrees := by
  have hjob : ∀ n, t.job n = (s.setJob slot (some { j with state := .inGrant })).job n := fun n => by rw [ht]; rfl
  have hengine : t.engine = some { slot := slot, size := j.grantSize, held := [], work := s.passInput j } := by rw [ht]
  refine ⟨fun n x hx => ?_, fun g hg => ?_⟩
  · rw [hjob] at hx
    simp only [hengine, Option.some.injEq, exists_eq_left']
    rcases setJob_some hx with ⟨rfl, hxj⟩ | ⟨hn, hx⟩
    · cases hxj; simp
    · have := h.granted n x hx
      simp only [he, reduceCtorEq, false_and, exists_false, iff_false] at this
      simp [this, Ne.symm hn]
  · rw [hengine] at hg
    cases hg
    refine ⟨_, (hjob slot).trans (Machine.setJob_live hj _), grantSize_pos j, ?_⟩
    show s.passInput j = t.passInput { j with state := .inGrant }
    rw [passInput_state]
    refine (SameInputs.passInput ⟨fun x _ => ?_, fun c _ => ?_, fun c _ => ?_⟩).symm
    · rw [ht]; rfl
    · rw [ht]; exact ⟨rfl, rfl⟩
    · rw [ht]; rfl

theorem Move.keeps_linkAgrees (hm : Move True now s t) (h : s.jobsAgree) (hl : s.linkAgrees) : t.linkAgrees := by
  have inputs : t.engine = s.engine → ∀ g j, s.engine = some g → s.job g.slot = some j → SameInputs s t j :=
    fun he g j hg hj => hm.sameInputs h (by rw [he, hg]; simp) hj
  have keep : t.engine = s.engine → (∀ n, t.job n = s.job n) → t.linkAgrees := fun he hjob =>
    hl.keep he (fun n j' hj' => hl.granted n j' (hjob n ▸ hj'))
      fun g j hg hj => ⟨j, (hjob g.slot).trans hj, (inputs he g j hg hj).work g.held⟩
  have placed : ∀ slot j', s.job slot = none → j'.state ≠ .inGrant → t.engine = s.engine →
      (∀ n, t.job n = if n = slot then some j' else s.job n) → t.linkAgrees := fun slot j' hfree hj' he hjob =>
    hl.keep he
      (fun n x hx => by
        rw [hjob] at hx
        split at hx
        · next hn =>
          cases hx
          refine iff_of_false hj' ?_
          rintro ⟨g, hg, rfl⟩
          obtain ⟨j, hj, _⟩ := hl.works g hg
          rw [hn, hfree] at hj; cases hj
        · exact hl.granted n x hx)
      fun g j hg hj => ⟨j, by rw [hjob, if_neg (fun hn => by rw [hn, hfree] at hj; cases hj), hj],
        (inputs he g j hg hj).work g.held⟩
  have placeJob : ∀ (u : State) slot (j' : Job) n, slot < 16 → u.slots = s.slots →
      (u.placeJob slot j').job n = if n = slot then some j' else s.job n := fun u slot j' n hlt hu => by
    show (u.setJob slot (some j')).job n = _
    rw [State.job_setJob, job_congr hu]; simp [hlt]
  cases hm with
  | aside | port | waits | notices | bind | unlock | entry | beginCeremony | batch => exact keep rfl fun _ => rfl
  | closeCeremony =>
    obtain ⟨k, hk⟩ := closeCeremony_touches s
    exact keep (by rw [hk]) fun n => by rw [hk]; rfl
  | derive l tag b pos prior keys mk tk slot _ _ _ _ _ hs =>
    obtain ⟨k, hk⟩ := captures_touch (s.setBatch b ((s.batch b).reserve pos prior)) mk tk
    obtain ⟨hlt, hfree, _⟩ := lineSlotFor_ok hs
    exact placed slot _ hfree (by simp) (by rw [hk]; rfl) fun n => placeJob _ _ _ _ (by omega) (by rw [hk]; rfl)
  | stream l tag seq sk dk ivIn ivOut n' limit slot _ _ _ hs =>
    obtain ⟨k, hk⟩ := captures_touch s sk dk
    obtain ⟨hlt, hfree, _⟩ := lineSlotFor_ok hs
    exact placed slot _ hfree (by simp) (by rw [hk]; rfl) fun n => placeJob _ _ _ _ (by omega) (by rw [hk])
  | custody tag cer custodian value _ hs =>
    exact placed _ _ hs (by simp [custodyJob]) rfl fun n => placeJob _ _ _ _ (by decide) rfl
  | job slot j j' hj hf hsame =>
    have hsame := hsame trivial
    refine hl.keep rfl (fun n x hx => ?_) fun g x hg hx => ?_
    · rcases setJob_some hx with ⟨rfl, hxj⟩ | ⟨_, hx⟩
      · cases hxj
        rw [← hl.granted n j hj]
        exact ⟨hf.grant, hsame.state⟩
      · exact hl.granted n x hx
    · by_cases hn : g.slot = slot
      · rw [hn, hj] at hx
        cases hx
        have hin := (hl.granted slot j hj).2 ⟨g, hg, hn⟩
        refine ⟨j', by rw [hn]; exact setJob_live hj _, ?_⟩
        exact hsame.input hin s g.held
      · refine ⟨x, by rw [State.job_setJob_ne s _ hn]; exact hx, ?_⟩
        exact (inputs rfl g x hg hx).work g.held
  | ends slot j commits loud answers hj hng =>
    have hng := hng trivial
    obtain ⟨b, ns, k, p, ht⟩ := settleJob_touches s commits loud answers j
    have hjob : ∀ n, ((s.settleJob commits loud answers j).freeSlot slot j.owner).job n =
        if n = slot then none else s.job n := fun n => by rw [freeSlot_job, settleJob_job]
    have he : ((s.settleJob commits loud answers j).freeSlot slot j.owner).engine = s.engine := by rw [ht]; rfl
    refine hl.keep he (fun n x hx => ?_) fun g x hg hx => ?_
    · rw [hjob] at hx
      split at hx
      · cases hx
      · exact hl.granted n x hx
    · refine ⟨x, ?_, (inputs he g x hg hx).work g.held⟩
      rw [hjob, if_neg (fun hn => ?_), hx]
      rw [hn, hj] at hx
      cases hx
      exact hng ((hl.granted slot j hj).2 ⟨g, hg, hn⟩)
  | arbitrate =>
    rcases arbitrate_grants s with ⟨p, d, ht⟩ | ⟨slot, j, p, d, he, hj, hw, ht⟩
    · exact keep (by rw [ht]) fun n => by rw [ht]; rfl
    · exact hl.start he hj ht
  | zeroise =>
    have hidle := idleWork_enterZeroising fun ha => h.zeroisingIdle.2 (.inr (.inr (.inl ha)))
    exact linkAgrees_idle hidle.2.1 fun n j hj => by rw [hidle.1] at hj; cases hj
  | join hl | combine hl | freeEngine hl => exact absurd trivial hl

theorem Move.keeps_grantAgrees (hm : Move True now s t) (h : s.grantAgrees) : t.grantAgrees := by
  obtain ⟨hj, hl⟩ := grantAgrees_iff.1 h
  exact grantAgrees_iff.2 ⟨hm.keeps_jobsAgree hj, hm.keeps_linkAgrees hj hl⟩

end Sys2Proof.Machine
end

/-! SUPPORT. What the custody requests make of an entry of the Key Table (R13 to R18, R34, R45), and the batch requests of a batch
record (R64 to R67, R71). -/

section
namespace Sys2Proof.Machine

variable {s : State}

/-! ### Entries -/

theorem Entry.becomes_of_key {k k' : KeyEntry} (hok : k.ok → k'.ok) (huses : k'.uses = k.uses) (hcls : k'.cls = k.cls)
    (hheld : k.ok → ∀ c, (k'.cell c).inFlight = (k.cell c).inFlight)
    (hvalue : k.ok → ∀ c, 0 < (k.cell c).inFlight → (k'.cell c).value = (k.cell c).value)
    (hforms : k.ok → ∀ c, (k.cell c).state = .forming → (k'.cell c).state = .forming) : (Entry.key k).Becomes (.key k') where
  ok h x hx := by cases hx; exact hok (h k rfl)
  uses h x hx := by cases hx; rw [huses, hcls]; exact h k rfl
  held h := hheld (h k rfl)
  value h c hc := congrArg (·.getD 0) (hvalue (h k rfl) c hc)
  forms hok c h := by
    obtain ⟨x, hx, hf⟩ := h
    cases hx
    exact ⟨k', rfl, hforms (hok k rfl) c hf⟩

theorem newKeyEntry_ok (label : List Byte) (cls : KeyClass) (uses : List KeyUse) (rank : Nat) (domain : Option Nat) :
    (newKeyEntry label cls uses rank domain).ok :=
  ⟨blankCell_ok, blankCell_ok, fun c => by cases c <;> simp [newKeyEntry, KeyEntry.cell, blankCell]⟩

theorem empty_becomes_key {label : List Byte} {cls : KeyClass} {uses : List KeyUse} {rank : Nat} {domain : Option Nat}
    (h : usesFit cls uses = true) : Entry.empty.Becomes (.key (newKeyEntry label cls uses rank domain)) where
  ok _ x hx := by cases hx; exact newKeyEntry_ok ..
  uses _ x hx u hu := by
    cases hx
    simp only [Sys2Proof.Machine.usesFit, Bool.and_eq_true, List.all_eq_true, List.contains_eq_mem, decide_eq_true_eq] at h
    exact h.2 u hu
  held _ c := by cases c <;> rfl
  value _ c hc := by simp [Entry.held] at hc
  forms _ c h := by obtain ⟨x, hx, _⟩ := h; cases hx

theorem empty_becomes_gate (g : GateEntry) : Entry.empty.Becomes (.gate g) where
  ok _ x hx := by cases hx
  uses _ x hx := by cases hx
  held _ c := rfl
  value _ c hc := by simp [Entry.held] at hc
  forms _ c h := by obtain ⟨x, hx, _⟩ := h; cases hx

theorem Cell.ok.unheld_of_blank {x : Cell} (h : x.ok) (hx : x.state = .blank) : x.inFlight = 0 := by
  unfold Cell.ok at h; rw [hx] at h; exact h.2.2

theorem Cell.ok.unheld_of_ready {x : Cell} (h : x.ok) (hx : x.state = .ready) :
    x.value.isSome ∧ x.check.isSome ∧ x.inFlight = 0 := by
  unfold Cell.ok at h; rw [hx] at h; exact h

theorem removable_becomes_empty {e : Entry} (h : e.removable = true) : e.Becomes .empty := by
  have blank : ∀ k, e = .key k → ∀ c, (k.cell c).state = .blank := fun k hk c => by
    subst hk
    simp only [Entry.removable, Bool.and_eq_true, beq_iff_eq] at h
    cases c
    · exact h.1
    · exact h.2
  have held : e.ok → ∀ c, e.held c = 0 := fun hok c => by
    cases he : e with
    | key k => exact ((KeyEntry.ok_iff.1 (hok k he)).1 c).unheld_of_blank (blank k he c)
    | empty | gate => rfl
  refine ⟨fun _ x hx => (by cases hx), fun _ x hx => (by cases hx), fun hok c => (held hok c).symm,
    fun hok c hc => ?_, fun _ c hf => ?_⟩
  · rw [held hok c] at hc; simp at hc
  · obtain ⟨k, hk, hs⟩ := hf
    rw [blank k hk c] at hs; simp at hs

theorem CellId.ne_other (c : CellId) : c ≠ c.other := by cases c <;> simp [CellId.other]

theorem CellId.eq_or_other (c d : CellId) : d = c ∨ d = c.other := by cases c <;> cases d <;> simp [CellId.other]

@[simp] theorem CellId.other_other (c : CellId) : c.other.other = c := by cases c <;> rfl

/-- What a SWAP-CELL finds: a READY cell, and in service the other one or none (R16). -/
theorem swapTo_some {k : KeyEntry} {y : CellId} (h : k.swapTo = some y) :
    (k.cell y).state = .ready ∧ (k.serving = some y.other ∨ k.serving = none) := by
  unfold KeyEntry.swapTo at h
  split at h
  · next x hx =>
    split at h
    · next hr => cases h; exact ⟨hr, .inl (by simpa using hx)⟩
    · cases h
  · next hx =>
    split at h
    · next hr => cases h; exact ⟨hr, .inr hx⟩
    · split at h
      · next hr => cases h; exact ⟨hr, .inr hx⟩
      · cases h

/-- The cells after a SWAP-CELL (R16). -/
theorem swapped_cell (k : KeyEntry) (y : CellId) :
    (k.swapped y).serving = some y ∧ (k.swapped y).cell y = { k.cell y with state := .serving } ∧
      (k.swapped y).cell y.other =
        if k.serving = some y.other then leavesService (k.cell y.other) else k.cell y.other := by
  unfold KeyEntry.swapped
  dsimp only
  refine ⟨rfl, ?_, ?_⟩
  · split
    · show ((k.setCell y _).setCell y.other _).cell y = _
      rw [KeyEntry.cell_setCell_ne _ _ y.ne_other, KeyEntry.cell_setCell_same]
    · exact KeyEntry.cell_setCell_same _ _ _
  · split
    · exact KeyEntry.cell_setCell_same _ _ _
    · exact KeyEntry.cell_setCell_ne _ _ y.ne_other.symm

theorem swapped_fields (k : KeyEntry) (y : CellId) : (k.swapped y).uses = k.uses ∧ (k.swapped y).cls = k.cls := by
  unfold KeyEntry.swapped
  dsimp only
  split <;> simp

theorem leavesService_ok {x : Cell} (h : x.ok) (hs : x.state = .serving) : (leavesService x).ok := by
  unfold Cell.ok at h
  rw [hs] at h
  obtain ⟨hv, hc⟩ := h
  unfold leavesService Cell.ok
  by_cases h0 : x.inFlight = 0
  · simp only [h0, if_true]; exact ⟨hv, hc, trivial⟩
  · simp only [h0, if_false]; exact ⟨hv, hc, by omega⟩

theorem leavesService_serving (x : Cell) : (leavesService x).state ≠ .serving := by
  unfold leavesService; dsimp only; split <;> simp

theorem swapped_becomes {k : KeyEntry} {y : CellId} (h : k.swapTo = some y) : (Entry.key k).Becomes (.key (k.swapped y)) := by
  obtain ⟨hr, hs⟩ := swapTo_some h
  obtain ⟨h1, h2, h3⟩ := swapped_cell k y
  obtain ⟨hu, hc⟩ := swapped_fields k y
  refine Entry.becomes_of_key (fun hok => ?_) hu hc (fun hok c => ?_) (fun hok c hpos => ?_) fun hok c hf => ?_
  · obtain ⟨hcell, hserv⟩ := KeyEntry.ok_iff.1 hok
    have hy : ((k.swapped y).cell y).ok := by
      obtain ⟨hv, hc, _⟩ := (hcell y).unheld_of_ready hr
      rw [h2]; exact ⟨hv, hc⟩
    have hother : ((k.swapped y).cell y.other).ok ∧ ((k.swapped y).cell y.other).state ≠ .serving := by
      rw [h3]
      split
      · next ho => exact ⟨leavesService_ok (hcell _) ((hserv _).2 ho), leavesService_serving _⟩
      · next ho => exact ⟨hcell _, fun hsv => ho ((hserv _).1 hsv)⟩
    refine KeyEntry.ok_iff.2 ⟨fun c => ?_, fun c => ?_⟩
    · rcases y.eq_or_other c with rfl | rfl
      · exact hy
      · exact hother.1
    · rw [h1]
      rcases y.eq_or_other c with rfl | rfl
      · simp [h2]
      · simp [hother.2, y.ne_other]
  · rcases y.eq_or_other c with rfl | rfl
    · rw [h2]
    · rw [h3]; split <;> rfl
  · rcases y.eq_or_other c with rfl | rfl
    · rw [h2]
    · rw [h3]; split <;> rfl
  · rcases y.eq_or_other c with rfl | rfl
    · rw [hr] at hf; simp at hf
    · rw [h3]
      split
      · next ho =>
        have := ((KeyEntry.ok_iff.1 hok).2 _).2 ho
        rw [hf] at this; simp at this
      · exact hf

theorem discarded_becomes {k : KeyEntry} {c : CellId} (h : (k.cell c).state = .ready) :
    (Entry.key k).Becomes (.key (k.setCell c blankCell)) := by
  refine Entry.becomes_of_key (fun hok => ?_) (by simp) (by simp) (fun hok d => ?_) (fun hok d hpos => ?_) fun _ d hf => ?_
  · obtain ⟨hcell, hserv⟩ := KeyEntry.ok_iff.1 hok
    refine KeyEntry.ok_iff.2 ⟨fun d => ?_, fun d => ?_⟩
    · rw [KeyEntry.cell_setCell]
      split
      · exact blankCell_ok
      · exact hcell d
    · rw [KeyEntry.cell_setCell, KeyEntry.setCell_serving]
      split
      · next hd => rw [← hserv, hd, h]; simp [blankCell]
      · exact hserv d
  · rw [KeyEntry.cell_setCell]
    split
    · next hd => rw [hd, (((KeyEntry.ok_iff.1 hok).1 c).unheld_of_ready h).2.2]; rfl
    · rfl
  · rw [KeyEntry.cell_setCell]
    split
    · next hd => rw [hd, (((KeyEntry.ok_iff.1 hok).1 c).unheld_of_ready h).2.2] at hpos; simp at hpos
    · rfl
  · rw [KeyEntry.cell_setCell]
    split
    · next hd => rw [hd, h] at hf; simp at hf
    · exact hf

theorem formed_becomes {k : KeyEntry} {c : CellId} (h : (k.cell c).state = .blank) :
    (Entry.key k).Becomes (.key (k.setCell c { blankCell with state := .forming })) := by
  refine Entry.becomes_of_key (fun hok => ?_) (by simp) (by simp) (fun hok d => ?_) (fun hok d hpos => ?_) fun _ d hf => ?_
  · obtain ⟨hcell, hserv⟩ := KeyEntry.ok_iff.1 hok
    refine KeyEntry.ok_iff.2 ⟨fun d => ?_, fun d => ?_⟩
    · rw [KeyEntry.cell_setCell]
      split
      · exact ⟨rfl, rfl, rfl⟩
      · exact hcell d
    · rw [KeyEntry.cell_setCell, KeyEntry.setCell_serving]
      split
      · next hd => rw [← hserv, hd, h]; simp
      · exact hserv d
  · rw [KeyEntry.cell_setCell]
    split
    · next hd => rw [hd, ((KeyEntry.ok_iff.1 hok).1 c).unheld_of_blank h]; rfl
    · rfl
  · rw [KeyEntry.cell_setCell]
    split
    · next hd => rw [hd, ((KeyEntry.ok_iff.1 hok).1 c).unheld_of_blank h] at hpos; simp at hpos
    · rfl
  · rw [KeyEntry.cell_setCell]
    split
    · rfl
    · exact hf

/-! ### Batch records -/

/-- A change of a record's state alone, to one that fits its reservations. -/
theorem Batch.becomes_of_state {b : Batch} {st : BatchState} (h : Batch.stateFits { b with state := st }) :
    b.Becomes { b with state := st } where
  agrees h := h
  fits _ _ := h
  reserved _ _ _ _ _ := Iff.rfl
  run _ _ _ := ⟨rfl, rfl⟩

theorem stateFits_of_running {b : Batch} {st : BatchState} (h : st = .opened ∨ st = .paused ∨ st = .suspended) :
    Batch.stateFits { b with state := st } := by
  rcases h with rfl | rfl | rfl <;> exact ⟨by simp, by simp⟩

/-- No position is reserved in a record that counts no reservation (R62). -/
theorem not_reserved_of_counts {b : Batch} (ha : b.agrees) (h : b.freshRes + b.reissueRes = 0) {pos : Nat} {x : PosState}
    (hx : b.map[pos]? = some x) : ¬ x.reserved := by
  obtain ⟨_, _, hf, hr, _⟩ := ha
  rintro (rfl | rfl)
  · have := countIn_pos (sts := [.reservedFresh]) hx (by simp)
    omega
  · have := countIn_pos (sts := [.reservedSpoilt]) hx (by simp)
    omega

theorem newRun_agrees (domain : Nat) (label : List Byte) (first quantity allowance : Nat) :
    (newRun domain label first quantity allowance).agrees := by
  have none : ∀ sts : List PosState, .fresh ∉ sts → countIn sts (List.replicate quantity .fresh) = 0 := fun sts h =>
    List.countP_eq_zero.2 fun x hx => by
      rw [List.eq_of_mem_replicate hx]
      simpa using h
  exact ⟨List.length_replicate, (none _ (by simp)).symm, (none _ (by simp)).symm, (none _ (by simp)).symm, Nat.zero_le _⟩

theorem newRun_becomes {b : Batch} {domain : Nat} {label : List Byte} {first quantity allowance : Nat}
    (h : b.state = .unused ∨ b.state = .closed) : b.Becomes (newRun domain label first quantity allowance) := by
  have fresh : ∀ {pos : Nat} {x : PosState}, (newRun domain label first quantity allowance).map[pos]? = some x → x = .fresh :=
    fun hx => List.eq_of_mem_replicate (List.mem_of_getElem? hx)
  refine ⟨fun _ => newRun_agrees .., fun _ _ => ⟨by simp [newRun], by simp [newRun]⟩, fun ha hf pos x hx => ?_,
    fun ha hf ⟨pos, x, hx, hget⟩ => ?_⟩
  · refine iff_of_false (fun hget => ?_) fun hget => not_reserved_of_counts ha (hf.1 h) hget hx
    rw [fresh hget] at hx
    rcases hx with hx | hx <;> simp at hx
  · exact absurd hx (not_reserved_of_counts ha (hf.1 h) hget)

theorem spoilt_becomes {b : Batch} {pos : Nat} (h : b.map[pos]? = some .issued) :
    b.Becomes { b with map := b.map.set pos .spoilt } := by
  refine ⟨fun ha => ?_, fun _ hf => hf, fun _ _ i x hx => ?_, fun _ _ _ => ⟨rfl, rfl⟩⟩
  · obtain ⟨hlen, hd, hf, hr, hall⟩ := ha
    have h1 := countIn_set .spoilt [.issued, .spoilt, .reservedSpoilt] h
    have h2 := countIn_set .spoilt [.reservedFresh] h
    have h3 := countIn_set .spoilt [.reservedSpoilt] h
    simp at h1 h2 h3
    simp only [Batch.agrees, List.length_set]
    omega
  · show (b.map.set pos .spoilt)[i]? = some x ↔ _
    rw [set_getElem? _ h]
    split
    · next hi =>
      subst hi
      rw [h]
      rcases hx with rfl | rfl <;> simp
    · exact Iff.rfl

end Sys2Proof.Machine
end

/-! SUPPORT. The tries of heads, the admissions and the job ends are runs of moves (R89 to R98). -/

section
namespace Sys2Proof.Machine

variable {linked : Prop} {now : Bool} {s t : State}

/-! ### Runs of moves -/

theorem Moves.refl (s : State) : Moves linked now s s := Relation.ReflTransGen.refl

theorem Move.moves (h : Move linked now s t) : Moves linked now s t := Relation.ReflTransGen.single h

theorem Moves.trans {u : State} (h1 : Moves linked now s t) (h2 : Moves linked now t u) : Moves linked now s u :=
  Relation.ReflTransGen.trans h1 h2

theorem Moves.sameSupplies (h : Moves linked now s t) : s.sameSupplies t :=
  h.keeps (I := fun u => s.sameSupplies u)
    (fun hm hs => ⟨hm.sameSupplies.1.trans hs.1, hm.sameSupplies.2.1.trans hs.2.1, hm.sameSupplies.2.2.trans hs.2.2⟩)
    ⟨rfl, rfl, rfl⟩

theorem Moves.alive (h : Moves linked now s t) : t.alive = s.alive := h.sameSupplies.alive

theorem Moves.keeps_jobsListed (h : Moves linked now s t) (hs : s.jobsListed) : t.jobsListed :=
  h.keeps (fun hm => hm.keeps_jobsListed) hs

theorem firstFailure_cons_none {ok : Bool} {a : Answer} {rest : List (Bool × Answer)} :
    firstFailure ((ok, a) :: rest) = none ↔ ok = true ∧ firstFailure rest = none := by
  cases ok <;> simp

/-! ### Ports, lists and responses -/

theorem moves_setPort {p : Port} {u : PortUnit} (h : (s.port p).fits → u.fits) : Moves linked now s (s.setPort p u) :=
  (Move.port p u h).moves

theorem moves_respond (p : Port) (r : Response) : Moves linked now s (s.respond p r) := by
  unfold State.respond
  dsimp only
  split
  · exact .refl s
  · next h0 => exact moves_setPort (fits_respond r h0)

theorem moves_addTry (p : Port) : Moves linked now s (s.addTry p) :=
  (Move.aside s.seqs s.causes s.firstCause s.zeroTag _ s.choices).moves

theorem moves_addTries (ps : List Port) : Moves linked now s (s.addTries ps) := by
  obtain ⟨tries, h⟩ := addTries_touches ps s
  rw [h]
  exact (Move.aside s.seqs s.causes s.firstCause s.zeroTag _ s.choices).moves

theorem moves_addTryIf (p : Port) (w : HeadWait) : Moves linked now s (s.addTryIf p w) := by
  unfold State.addTryIf
  split
  · exact moves_addTry p
  · exact .refl s

theorem moves_setWait (p : Port) (w : HeadWait) : Moves linked now s (s.setWait p w) := moves_setPort fun h => h

theorem moves_leaveWaitList (p : Port) : Moves linked now s (s.leaveWaitList p) := by
  cases p with
  | cp => exact .refl s
  | line l => exact (Move.waits _ fun h => h.filter _).moves

theorem moves_joinWaitList (p : Port) : Moves linked now s (s.joinWaitList p) := by
  cases p with
  | cp => exact .refl s
  | line l =>
    refine (Move.waits _ fun h => ?_).moves
    split
    · exact h
    · next hn =>
      rw [List.nodup_append]
      refine ⟨h, by simp, fun a ha b hb => ?_⟩
      rw [List.mem_singleton] at hb
      rintro rfl
      exact hn (hb ▸ ha)

theorem moves_notice (k : NoticeKey) (c : Nat) : Moves linked now s (s.notice k c) :=
  (Move.notices _ (raiseIn_once k c)).moves

theorem moves_arbitrateIf (ha : s.alive = true) : Moves linked now s (s.arbitrateIf now) := by
  cases now with
  | true => exact (Move.arbitrate rfl ha).moves
  | false => exact .refl s

/-! ### The head leaves the queue -/

/-- The head may be taken into a reserved response entry. -/
theorem fits_beginAdmission {u : PortUnit} (hf : u.responsesFull = false) (w : HeadWait) (h : u.fits) :
    PortUnit.fits { u with requests := u.requests.tail, reserved := u.reserved + 1, wait := w } := by
  obtain ⟨hr, ho⟩ := h
  have hfree := of_decide_eq_false hf
  unfold Config.responseEntries at hfree
  refine ⟨?_, by show u.occupied.length + (u.reserved + 1) ≤ 16; omega⟩
  unfold PortUnit.entriesTaken at hr ⊢
  simp only [List.length_tail]
  omega

theorem moves_beginAdmission {p : Port} (hf : (s.port p).responsesFull = false) : Moves linked now s (s.beginAdmission p) :=
  (moves_setPort (fits_beginAdmission hf _)).trans (moves_leaveWaitList p)

theorem moves_refuseHead {p : Port} (r : Request) (x : RefusalRec) (hf : (s.port p).responsesFull = false) :
    Moves linked now s (s.refuseHead p r x) :=
  ((moves_beginAdmission hf).trans (moves_respond p _)).trans (moves_addTry p)

theorem moves_headWaits (p : Port) (r : Request) (w : HeadWait) : Moves linked now s (s.headWaits p r w) := by
  unfold State.headWaits
  dsimp only
  split_ifs
  · exact moves_setWait p w
  · exact (moves_setWait p w).trans (moves_joinWaitList p)
  · exact moves_setWait p w
  · exact (moves_setWait p w).trans (moves_leaveWaitList p)

/-- The admission of a head changes its port and the slot wait list alone. -/
theorem beginAdmission_touches (s : State) (p : Port) :
    ∃ ports waits, s.beginAdmission p = { s with ports := ports, waitList := waits } := by
  cases p <;> exact ⟨_, _, rfl⟩

@[simp] theorem entry_beginAdmission (s : State) (p : Port) (n : Nat) : (s.beginAdmission p).entry n = s.entry n := by
  simp [State.beginAdmission]

@[simp] theorem batch_beginAdmission (s : State) (p : Port) (n : Nat) : (s.beginAdmission p).batch n = s.batch n := by
  simp [State.beginAdmission]

@[simp] theorem job_beginAdmission (s : State) (p : Port) (n : Nat) : (s.beginAdmission p).job n = s.job n := by
  simp [State.beginAdmission]

@[simp] theorem liveOf_beginAdmission (s : State) (p q : Port) : (s.beginAdmission p).liveOf q = s.liveOf q := by
  simp [State.beginAdmission]

@[simp] theorem mode_beginAdmission (s : State) (p : Port) : (s.beginAdmission p).mode = s.mode := by cases p <;> rfl

@[simp] theorem ceremony_beginAdmission (s : State) (p : Port) : (s.beginAdmission p).ceremony = s.ceremony := by
  cases p <;> rfl

@[simp] theorem admitting_beginAdmission (s : State) (p : Port) : (s.beginAdmission p).admitting = s.admitting := by
  cases p <;> rfl

@[simp] theorem notices_beginAdmission (s : State) (p : Port) : (s.beginAdmission p).notices = s.notices := by cases p <;> rfl

theorem lineSlotFor_congr (h1 : ∀ n, t.job n = s.job n) (h2 : ∀ p, t.liveOf p = s.liveOf p) (p : Port) :
    t.lineSlotFor p = s.lineSlotFor p := by
  unfold State.lineSlotFor
  simp only [h1, h2]

theorem serves_congr {x : Nat × CellId} {u : KeyUse} (h : ∀ n, t.entry n = s.entry n) : t.serves x u ↔ s.serves x u := by
  unfold State.serves
  rw [h]

theorem serves_of_accessCheck {l : LinePort} {r : Nat} {u : KeyUse} {batch : Option Nat} {x : Nat × CellId}
    (h : s.accessCheck l r u batch = .ok x) : s.serves x u := by
  obtain ⟨_, k, hk, hu, _, _, hs, _⟩ := accessCheck_passes (n := x.1) (c := x.2) h
  exact ⟨k, hk, hu, hs⟩

/-! ### What the own rules of the requests accept -/

/-- A head of port `p` that may be admitted: the parts of a try that come before its own rule (R89, R90). -/
structure State.Admissible (s : State) (p : Port) : Prop where
  admitting : s.admitting = true
  entry : (s.port p).responsesFull = false

/-- The rule accepts by a run of moves. -/
def Verdict.moves (linked : Prop) (now : Bool) (s : State) (v : Verdict) : Prop :=
  ∀ t, v = .accept t → Moves linked now s t

theorem Verdict.moves_refuse (x : RefusalRec) : Verdict.moves linked now s (.refuse x) := fun _ h => by cases h

theorem Verdict.moves_wait (w : HeadWait) : Verdict.moves linked now s (.wait w) := fun _ h => by cases h

theorem Verdict.moves_accept (h : Moves linked now s t) : Verdict.moves linked now s (.accept t) := fun _ ht => by
  cases ht; exact h

theorem moves_admitDerive {p : Port} {r : Request} (h : s.Admissible p) : Verdict.moves linked now s (admitDerive now p r s) := by
  unfold admitDerive
  split
  · next l keys _ =>
    dsimp only
    split
    · exact Verdict.moves_refuse _
    · next hff =>
      split
      · exact Verdict.moves_refuse _
      · next mk hmk =>
        split
        · exact Verdict.moves_refuse _
        · next tk htk =>
          split
          · exact Verdict.moves_refuse _
          · next prior hprior =>
            split
            · exact Verdict.moves_wait _
            · next slot hslot =>
              refine Verdict.moves_accept ?_
              simp only [firstFailure_cons_none, beq_iff_eq] at hff
              obtain ⟨_, _, hopen, _⟩ := hff
              generalize field r.body 0 = b at *
              generalize beNat (slice r.body 1 4) - (s.batch b).first = pos at *
              have hm := Move.derive (linked := linked) (now := now) (s := s.beginAdmission (.line l)) l r.tag b pos prior keys mk
                tk slot (by simpa using h.admitting) (by simpa using hopen) (by simpa using hprior)
                ((serves_congr (by simp)).2 (serves_of_accessCheck hmk)) ((serves_congr (by simp)).2 (serves_of_accessCheck htk))
                ((lineSlotFor_congr (s := s) (by simp) (by simp) _).trans hslot)
              have hrun := (moves_beginAdmission h.entry).trans hm.moves
              rw [batch_beginAdmission] at hrun
              refine hrun.trans (moves_arbitrateIf ?_)
              rw [hrun.alive]
              exact State.alive_of_admitting s h.admitting
  · exact Verdict.moves_refuse _

theorem moves_admitStreamOpen {p : Port} {r : Request} (h : s.Admissible p) :
    Verdict.moves linked now s (admitStreamOpen p r s) := by
  unfold admitStreamOpen
  split
  · exact Verdict.moves_refuse _
  · next l =>
    dsimp only
    split
    · exact Verdict.moves_refuse _
    · split
      · exact Verdict.moves_refuse _
      · next sk hsk =>
        split
        · exact Verdict.moves_refuse _
        · next dk hdk =>
          split
          · exact Verdict.moves_wait _
          · next slot hslot =>
            refine Verdict.moves_accept ?_
            have hm := Move.stream (linked := linked) (now := now) (s := s.beginAdmission (.line l)) l r.tag
              ((((s.beginAdmission (.line l)).capture sk.1 sk.2).capture dk.1 dk.2).seq slot + 1) sk dk
              (blockOf (slice r.body 2 16)) (blockOf (slice r.body 18 16)) (beNat (slice r.body 34 2))
              (s.binding l).idleLimit slot (by simpa using h.admitting)
              ((serves_congr (by simp)).2 (serves_of_accessCheck hsk)) ((serves_congr (by simp)).2 (serves_of_accessCheck hdk))
              ((lineSlotFor_congr (s := s) (by simp) (by simp) _).trans hslot)
            refine (((moves_beginAdmission h.entry).trans hm.moves).trans ?_).trans (moves_respond _ _)
            exact (Move.aside _ _ _ _ _ _).moves

/-! ### The tries, and the offer of a freed slot -/

theorem Moves.tryWith {own : Port → Request → State → Verdict} {p : Port}
    (hown : ∀ r, s.Admissible p → s.commonRefusal p r = none → Verdict.moves linked now s (own p r s)) :
    Moves linked now s (s.tryWith own p).2 := by
  rcases tryWith_cases own p s with ⟨_, h⟩ | ⟨r, rest, _, ⟨w, h⟩ | ⟨ha, hf, ⟨x, h⟩ | ⟨t, ht, hc, h⟩⟩⟩
  · rw [h]; exact .refl s
  · rw [h]; exact moves_headWaits p r w
  · rw [h]; exact moves_refuseHead r x hf
  · rw [h]; exact (hown r ⟨ha, hf⟩ hc t ht).trans (moves_addTry p)

theorem moves_offer (ls : List LinePort) : Moves linked now s (State.offer now ls s) := by
  induction ls generalizing s with
  | nil => exact .refl s
  | cons l ls ih =>
    have htry : Moves linked now s (s.tryWith (admitSlotRequest now) (.line l)).2 := Moves.tryWith fun r ha _ => by
      unfold admitSlotRequest
      split
      · exact moves_admitDerive ha
      · exact moves_admitStreamOpen ha
    unfold State.offer
    split
    · exact (moves_leaveWaitList _).trans ih
    · split
      · split
        · next s' hs => rw [hs] at htry; exact htry
        · next s' hs => rw [hs] at htry; exact htry.trans ih
      · exact ((moves_leaveWaitList _).trans (moves_addTry _)).trans ih

theorem moves_afterFree (slot : Nat) (p : Port) : Moves linked now s (s.afterFree now slot p) := by
  unfold State.afterFree
  dsimp only
  refine Moves.trans (Moves.trans ?_ (moves_addTryIf p _)) (moves_addTryIf p _)
  split
  · exact moves_offer _
  · exact moves_addTryIf _ _

theorem moves_endJob {e : EndPlan} {slot : Nat} (hn : e.now = now)
    (hl : linked → ∀ j, s.job slot = some j → j.state ≠ .inGrant) : Moves linked now s (s.endJob e slot) := by
  cases hj : s.job slot with
  | none => rw [endJob_free e slot s hj]; exact .refl s
  | some j =>
    have hends := Move.ends (linked := linked) (now := now) slot j e.commits e.loud e.answers hj fun h => hl h j hj
    rw [endJob_live e slot s j hj]
    dsimp only
    split
    · rw [hn]; exact hends.moves.trans (moves_afterFree _ _)
    · exact hends.moves

end Sys2Proof.Machine
end

/-! SUPPORT. The admission of each known request, the tries of an event and the frames of a link are runs of moves. -/

section
namespace Sys2Proof.Machine

variable {linked : Prop} {now : Bool} {s t : State}

/-! ### Two contexts with the same passes -/

/-- The part of a context that its passes depend on: all but what waits for the job's end or for a chunk's (R103). -/
def JobCtx.passPart : JobCtx → JobCtx
  | .derive c => .derive c
  | .stream c => .stream { c with staged := none, idle := none, closing := none }
  | .custody c => .custody { c with abandon := none }

/-- Two jobs with the same cells and the same pass part have the same passes. -/
structure Job.SamePasses (j j' : Job) : Prop where
  captured : j'.captured = j.captured
  part : j'.ctx.passPart = j.ctx.passPart

theorem Job.SamePasses.capturedValue {j j' : Job} (h : j.SamePasses j') (s : State) (i : Nat) :
    s.capturedValue j' i = s.capturedValue j i := by unfold State.capturedValue; rw [h.captured]

theorem Job.SamePasses.passInput {j j' : Job} (h : j.SamePasses j') (s : State) : s.passInput j' = s.passInput j := by
  have hcap := h.capturedValue s
  have hp := h.part
  unfold State.passInput
  cases hc : j.ctx with
  | derive c =>
    cases hc' : j'.ctx <;> rw [hc, hc'] at hp <;> simp only [JobCtx.passPart, reduceCtorEq, JobCtx.derive.injEq] at hp
    rw [hp]
    simp only [State.derivePass, hcap]
  | stream c =>
    cases hc' : j'.ctx <;> rw [hc, hc'] at hp <;>
      simp only [JobCtx.passPart, reduceCtorEq, JobCtx.stream.injEq, StreamCtx.mk.injEq] at hp
    obtain ⟨_, _, hout, _, _, hsv, _⟩ := hp
    simp only [hsv, State.streamPass, hcap, hout]
  | custody c =>
    cases hc' : j'.ctx <;> rw [hc, hc'] at hp <;>
      simp only [JobCtx.passPart, reduceCtorEq, JobCtx.custody.injEq, CustodyCtx.mk.injEq] at hp
    obtain ⟨_, hv, hd, _⟩ := hp
    simp only [State.custodyPass, hv, hd]

theorem Job.SamePasses.record {j j' : Job} (h : j.SamePasses j') (s : State) (res : Block) :
    (s.record j res).SamePasses (s.record j' res) := by
  have hp := h.part
  cases hc : j.ctx with
  | derive c =>
    cases hc' : j'.ctx <;> rw [hc, hc'] at hp <;> simp only [JobCtx.passPart, reduceCtorEq, JobCtx.derive.injEq] at hp
    rw [record_derive hc, record_derive hc', hp]
    exact ⟨h.captured, rfl⟩
  | stream c =>
    cases hc' : j'.ctx <;> rw [hc, hc'] at hp <;>
      simp only [JobCtx.passPart, reduceCtorEq, JobCtx.stream.injEq, StreamCtx.mk.injEq] at hp
    next c' =>
    obtain ⟨h1, h2, h3, h4, h5, h6, _⟩ := hp
    unfold State.record
    rw [hc, hc']
    simp only [h6]
    cases c.inService with
    | none => exact ⟨h.captured, by rw [hc, hc']; simp [JobCtx.passPart, h1, h2, h3, h4, h5, h6]⟩
    | some ch =>
      refine ⟨h.captured, ?_⟩
      simp only [recordStream, h2]
      split
      · simp [JobCtx.passPart, h1, h3, h4, h5]
      · simp [JobCtx.passPart, h1, h4, h5]
  | custody c =>
    cases hc' : j'.ctx <;> rw [hc, hc'] at hp <;>
      simp only [JobCtx.passPart, reduceCtorEq, JobCtx.custody.injEq, CustodyCtx.mk.injEq] at hp
    unfold State.record
    rw [hc, hc']
    exact ⟨h.captured, by rw [hc, hc']; simp [JobCtx.passPart, hp]⟩

theorem Job.SamePasses.recordAll {j j' : Job} (h : j.SamePasses j') (s : State) (held : List Block) :
    (s.recordAll j held).SamePasses (s.recordAll j' held) := by
  induction held generalizing j j' with
  | nil => exact h
  | cons res held ih =>
    rw [recordAll_cons, recordAll_cons]
    exact ih (h.record s res)

theorem Job.SamePasses.sameWork {j j' : Job} (h : j.SamePasses j') (hs : j.state = .inGrant → j'.state = .inGrant) :
    j.SameWork j' :=
  ⟨hs, fun _ s held => (h.recordAll s held).passInput s⟩

/-- A job whose flag is set, with what waits for its end, goes on as it was. -/
theorem Move.flag {slot : Nat} {j j' : Job} (hj : s.job slot = some j) (ho : j'.owner = j.owner) (hst : j'.state = j.state)
    (hp : j.SamePasses j') (hf : j.ctx.Follows j'.ctx) (hi : j.idleFits → j'.idleFits) :
    Move linked now s (s.setJob slot (some j')) :=
  .job slot j j' hj ⟨ho, hp.captured, hf, hi, fun h => hst ▸ h⟩ fun _ => hp.sameWork fun h => hst.trans h

theorem JobCtx.Follows.refl (c : JobCtx) : c.Follows c := by cases c <;> simp [JobCtx.Follows]

/-! ### Requests on streams (R130, R131, R135) -/

theorem blocksOf_length (k : Nat) (bytes : List Byte) : (blocksOf k bytes).length = k := by
  induction k generalizing bytes with
  | zero => rfl
  | succ k ih => simp [blocksOf, ih]

theorem streamNamed_some {p : Port} {slot : Nat} {seq : Byte} {j : Job} {c : StreamCtx}
    (h : s.streamNamed p slot seq = some (j, c)) :
    slot < 15 ∧ s.job slot = some j ∧ j.ctx = .stream c ∧ j.owner = p ∧ c.seq = seq := by
  unfold State.streamNamed at h
  split at h
  · next hlt =>
    split at h
    · next x hx =>
      split at h
      · next d hd =>
        split at h
        · next hp =>
          simp only [Option.some.injEq, Prod.mk.injEq] at h
          obtain ⟨rfl, rfl⟩ := h
          exact ⟨hlt, hx, hd, hp⟩
        · cases h
      · cases h
    · cases h
  · cases h

theorem moves_admitStreamChunk {p : Port} {r : Request} (h : s.Admissible p) :
    Verdict.moves linked now s (admitStreamChunk now p r s) := by
  unfold admitStreamChunk
  dsimp only
  split
  · split
    · exact Verdict.moves_refuse _
    · next j c hnamed =>
      obtain ⟨_, hj, hc, _⟩ := streamNamed_some hnamed
      split
      · exact Verdict.moves_refuse _
      · next hff =>
        simp only [firstFailure_cons_none] at hff
        obtain ⟨_, hfit, _⟩ := hff
        replace hfit : c.accepted + field r.body 2 ≤ c.declared := of_decide_eq_true hfit
        have hlen := blocksOf_length (field r.body 2) (r.body.drop 3)
        generalize field r.body 2 = b at *
        generalize blocksOf b (r.body.drop 3) = blocks at *
        have hj' : (s.beginAdmission p).job (field r.body 0) = some j := by simpa using hj
        have hacc : c.done + blocks.length + (c.staged.map fun ch => ch.blocks.length).getD 0 ≤ c.declared := by
          unfold StreamCtx.accepted at hfit; omega
        unfold State.placeChunk
        split
        · next hidle =>
          dsimp only
          have hm : Move linked now (s.beginAdmission p) ((s.beginAdmission p).setJob (field r.body 0) (some { j with
              state := .waiting, ctx := .stream { c with inService := some (newChunk r.tag blocks), idle := none } })) := by
            refine .job _ j _ hj' ⟨rfl, rfl, ?_, fun _ d hd => ?_, by simp⟩ fun _ => ⟨?_, ?_⟩
            · rw [hc]; exact fun _ => hacc
            · cases hd; simp
            · rw [hidle]; simp
            · rw [hidle]; simp
          have hrun := (moves_beginAdmission h.entry).trans hm.moves
          refine Verdict.moves_accept (hrun.trans (moves_arbitrateIf ?_))
          rw [hrun.alive]
          exact State.alive_of_admitting s h.admitting
        · split
          · next hst =>
            refine Verdict.moves_accept ((moves_beginAdmission h.entry).trans
              (Move.flag (j' := { j with ctx := .stream { c with staged := some (newChunk r.tag blocks) } }) hj' rfl rfl
                ⟨rfl, ?_⟩ ?_ fun hi d hd => ?_).moves)
            · rw [hc]; rfl
            · rw [hc]
              intro _
              have : c.accepted = c.done + (c.inService.map fun ch => ch.blocks.length).getD 0 := by
                simp [StreamCtx.accepted, hst]
              show c.done + (c.inService.map fun ch => ch.blocks.length).getD 0 + blocks.length ≤ c.declared
              omega
            · cases hd; exact hi c hc
          · exact Verdict.moves_wait _
  · exact Verdict.moves_refuse _

theorem moves_admitStreamClose {p : Port} {r : Request} (h : s.Admissible p) :
    Verdict.moves linked now s (admitStreamClose now p r s) := by
  unfold admitStreamClose
  dsimp only
  split
  · exact Verdict.moves_refuse _
  · next j c hnamed =>
    obtain ⟨_, hj, hc, _⟩ := streamNamed_some hnamed
    have hj' : (s.beginAdmission p).job (field r.body 0) = some j := by simpa using hj
    split
    · exact Verdict.moves_refuse _
    · split
      · refine Verdict.moves_accept ((moves_beginAdmission h.entry).trans
          (Move.flag (j' := { j with cancelPending := true, ctx := .stream { c with closing := some r.tag } }) hj' rfl rfl
            ⟨rfl, ?_⟩ ?_ fun hi d hd => ?_).moves)
        · rw [hc]; rfl
        · rw [hc]; exact id
        · cases hd; exact hi c hc
      · next hng =>
        refine Verdict.moves_accept ((moves_beginAdmission h.entry).trans (moves_endJob rfl fun _ x hx => ?_))
        rw [hj'] at hx
        cases hx
        exact hng

/-! ### CANCEL and the requests of a ceremony (R96, R45 to R53) -/

theorem addTryIf_job (s : State) (p : Port) (w : HeadWait) (n : Nat) : (s.addTryIf p w).job n = s.job n := by
  unfold State.addTryIf
  split <;> rfl

/-- Slot 15 is free once its job has ended: no offer takes it (R94). -/
theorem endJob_custody_free (e : EndPlan) (s : State) : (s.endJob e Config.custodySlot).job Config.custodySlot = none := by
  cases hj : s.job Config.custodySlot with
  | none => rw [endJob_free e _ s hj, hj]
  | some j =>
    rw [endJob_live e _ s j hj]
    dsimp only
    split
    · unfold State.afterFree
      simp only [addTryIf_job]
      rw [if_neg (by decide), addTryIf_job, freeSlot_job, if_pos rfl]
    · rw [freeSlot_job, if_pos rfl]

theorem custodyJobLive_free (h : s.job Config.custodySlot = none) : s.custodyJobLive = none := by
  unfold State.custodyJobLive; rw [h]

theorem custodyJobLive_some {j : Job} {c : CustodyCtx} (h : s.custodyJobLive = some (j, c)) :
    s.job Config.custodySlot = some j ∧ j.ctx = .custody c := by
  unfold State.custodyJobLive at h
  split at h
  · next x hx =>
    split at h
    · next d hd =>
      simp only [Option.some.injEq, Prod.mk.injEq] at h
      obtain ⟨rfl, rfl⟩ := h
      exact ⟨hx, hd⟩
    · cases h
  · cases h

/-- The end of the CUSTODY job, and the close of the record behind it. -/
theorem moves_endCustody {e : EndPlan} (hn : e.now = now)
    (hl : linked → ∀ j, s.job Config.custodySlot = some j → j.state ≠ .inGrant) :
    Moves linked now s (s.endJob e Config.custodySlot).closeCeremony :=
  (moves_endJob hn hl).trans (Move.closeCeremony fun _ => custodyJobLive_free (endJob_custody_free e s)).moves

theorem moves_cancelWaiting {slot : Nat} {j : Job} (hj : s.job slot = some j) (hng : j.state ≠ .inGrant)
    (hlist : linked → s.jobsListed) : Moves linked now s (s.cancelWaiting now slot j) := by
  have hends : linked → ∀ x, s.job slot = some x → x.state ≠ .inGrant := fun _ x hx => by
    rw [hj] at hx; cases hx; exact hng
  unfold State.cancelWaiting
  split
  · next c hc =>
    dsimp only
    split
    · by_cases hlk : linked
      · have hslot : slot = Config.custodySlot := (((hlist hlk).2.2.1 slot j hj).2).1 ⟨c, hc⟩
        subst hslot
        exact moves_endCustody rfl hends
      · exact (moves_endJob (e := cancelPlan now _) rfl hends).trans (Move.closeCeremony fun hlk' => absurd hlk' hlk).moves
    · exact moves_endJob rfl hends
  · exact moves_endJob rfl hends

theorem moves_answer (p : Port) (r : Request) (a : Answer) (body : List Byte) : Moves linked now s (s.answer p r a body) :=
  moves_respond p _

theorem respond_job (s : State) (p : Port) (r : Response) (n : Nat) : (s.respond p r).job n = s.job n := by
  unfold State.respond
  dsimp only
  split <;> rfl

theorem moves_admitCancel {p : Port} {r : Request} (h : s.Admissible p) (hlist : linked → s.jobsListed) :
    Verdict.moves linked now s (admitCancel now p r s) := by
  unfold admitCancel
  dsimp only
  have hbegin : Moves linked now s (s.beginAdmission p) := moves_beginAdmission h.entry
  split
  · exact Verdict.moves_accept (hbegin.trans (moves_answer _ _ _ _))
  · next slot _ =>
    have hrun : Moves linked now s ((s.beginAdmission p).answer p r .accepted []) := hbegin.trans (moves_answer _ _ _ _)
    split
    · exact Verdict.moves_accept hrun
    · next j hj =>
      have hj' : ((s.beginAdmission p).answer p r .accepted []).job slot = some j := by
        rw [State.answer, respond_job, job_beginAdmission]; exact hj
      split
      · exact Verdict.moves_accept hrun
      · split
        · refine Verdict.moves_accept (hrun.trans (Move.flag (j' := { j with cancelPending := true }) hj' rfl rfl ⟨rfl, rfl⟩
            (JobCtx.Follows.refl _) fun hi => hi).moves)
        · next hng =>
          exact Verdict.moves_accept (hrun.trans (moves_cancelWaiting hj' hng fun hl => hrun.keeps_jobsListed (hlist hl)))

theorem moves_answered {p : Port} {r : Request} {body : List Byte} {effect : State → State} (h : s.Admissible p)
    (he : Moves linked now (s.beginAdmission p) (effect (s.beginAdmission p))) :
    Verdict.moves linked now s (s.answered p r body effect) :=
  Verdict.moves_accept (((moves_beginAdmission h.entry).trans he).trans (moves_answer _ _ _ _))

/-- A request answered with an entry of the Key Table changed. -/
theorem moves_answered_entry {p : Port} {r : Request} {body : List Byte} {n : Nat} {e : Entry} (h : s.Admissible p)
    (he : (s.entry n).Becomes e) : Verdict.moves linked now s (s.answered p r body fun t => t.setEntry n e) :=
  moves_answered h (Move.entry n e (by rw [entry_beginAdmission]; exact he)).moves

/-- A request answered with a batch record changed. -/
theorem moves_answered_batch {p : Port} {r : Request} {body : List Byte} {n : Nat} {b : Batch} (h : s.Admissible p)
    (hb : (s.batch n).Becomes b) : Verdict.moves linked now s (s.answered p r body fun t => t.setBatch n b) :=
  moves_answered h (Move.batch n b (by rw [batch_beginAdmission]; exact hb)).moves

theorem moves_answered_nothing {p : Port} {r : Request} {body : List Byte} (h : s.Admissible p) :
    Verdict.moves linked now s (s.answered p r body id) := moves_answered h (.refl _)

theorem moves_admitBeginCeremony {p : Port} {r : Request} (h : s.Admissible p) :
    Verdict.moves linked now s (admitBeginCeremony p r s) := by
  unfold admitBeginCeremony
  dsimp only
  split
  · exact Verdict.moves_refuse _
  · next c _ =>
    split
    · exact Verdict.moves_refuse _
    · next hff =>
      simp only [firstFailure_cons_none, Option.isNone_iff_eq_none] at hff
      obtain ⟨_, hnone, _⟩ := hff
      split
      · next k hk =>
        split
        · exact Verdict.moves_refuse _
        · next hff2 =>
          simp only [firstFailure_cons_none, beq_iff_eq] at hff2
          obtain ⟨hblank, _⟩ := hff2
          split
          · exact Verdict.moves_refuse _
          · have hentry : Move linked now (s.beginAdmission p) _ :=
              Move.entry _ _ (by rw [entry_beginAdmission, hk]; exact formed_becomes hblank)
            have ha : (State.setEntry (s.beginAdmission p) (field r.body 0)
                (.key (k.setCell c { blankCell with state := .forming }))).admitting = true :=
              (admitting_beginAdmission s p).trans h.admitting
            refine moves_answered h (hentry.moves.trans
              (Move.beginCeremony _ ha ((ceremony_beginAdmission s p).trans hnone) rfl ?_).moves)
            refine ⟨k.setCell c { blankCell with state := .forming }, ?_, by simp [newCeremony]⟩
            exact State.entry_setEntry_same _ _ _ (State.lt_of_entry_key hk)
      · exact Verdict.moves_refuse _

theorem moves_admitComponent {r : Request} (h : s.Admissible .cp) :
    Verdict.moves linked now s (admitComponent now .cp r s) := by
  unfold admitComponent
  dsimp only
  split
  · exact Verdict.moves_refuse _
  · next cer _ =>
    split
    · exact Verdict.moves_refuse _
    · split
      · exact Verdict.moves_wait _
      · next hfree =>
        have hrun := (moves_beginAdmission (linked := linked) (now := now) h.entry).trans
          (Move.custody (linked := linked) (now := now) r.tag cer (field r.body 0) (blockOf (slice r.body 1 16))
            (by simpa using h.admitting) (by simpa using hfree)).moves
        refine Verdict.moves_accept (hrun.trans (moves_arbitrateIf ?_))
        rw [hrun.alive]
        exact State.alive_of_admitting s h.admitting

theorem moves_admitAbandonCeremony {p : Port} {r : Request} (h : s.Admissible p) :
    Verdict.moves linked now s (admitAbandonCeremony now p r s) := by
  unfold admitAbandonCeremony
  dsimp only
  have hbegin : Moves linked now s (s.beginAdmission p) := moves_beginAdmission h.entry
  split
  · exact Verdict.moves_refuse _
  · next cer _ =>
    split
    · next hnone =>
      refine Verdict.moves_accept ((hbegin.trans (Move.closeCeremony fun _ => ?_).moves).trans (moves_answer _ _ _ _))
      unfold State.custodyJobLive
      rw [job_beginAdmission]
      exact hnone
    · next j c hlive =>
      obtain ⟨hj, hc⟩ := custodyJobLive_some hlive
      have hj' : (s.beginAdmission p).job Config.custodySlot = some j := by simpa using hj
      split
      · exact Verdict.moves_refuse _
      · split
        · refine Verdict.moves_accept (hbegin.trans
            (Move.flag (j' := { j with cancelPending := true, ctx := .custody { c with abandon := some r.tag } }) hj' rfl rfl
              ⟨rfl, ?_⟩ ?_ fun _ d hd => by cases hd).moves)
          · rw [hc]; rfl
          · rw [hc]; trivial
        · next hng =>
          refine Verdict.moves_accept ((hbegin.trans (moves_endCustody rfl fun _ x hx => ?_)).trans (moves_answer _ _ _ _))
          rw [hj'] at hx
          cases hx
          exact hng

/-! ### The other custody requests -/

theorem moves_admitCreateKeyEntry {p : Port} {r : Request} (h : s.Admissible p) :
    Verdict.moves linked now s (admitCreateKeyEntry p r s) := by
  unfold admitCreateKeyEntry
  dsimp only
  split
  · exact Verdict.moves_refuse _
  · split
    · next cls uses _ _ =>
      split
      · exact Verdict.moves_refuse _
      · next hff =>
        simp only [firstFailure_cons_none, beq_iff_eq] at hff
        obtain ⟨huses, _, _, _, hempty, _⟩ := hff
        exact moves_answered_entry h (by rw [hempty]; exact empty_becomes_key huses)
    · exact Verdict.moves_refuse _

theorem moves_admitRemoveEntry {p : Port} {r : Request} (h : s.Admissible p) :
    Verdict.moves linked now s (admitRemoveEntry p r s) := by
  unfold admitRemoveEntry
  dsimp only
  split
  · exact Verdict.moves_refuse _
  · next hff =>
    simp only [firstFailure_cons_none] at hff
    obtain ⟨_, _, hremovable, _⟩ := hff
    exact moves_answered_entry h (removable_becomes_empty hremovable)

theorem moves_admitSwapCell {p : Port} {r : Request} (h : s.Admissible p) :
    Verdict.moves linked now s (admitSwapCell p r s) := by
  unfold admitSwapCell
  dsimp only
  split
  · exact Verdict.moves_refuse _
  · split
    · next k hk =>
      split
      · next y hy => exact moves_answered_entry h (by rw [hk]; exact swapped_becomes hy)
      · exact Verdict.moves_refuse _
    · exact Verdict.moves_refuse _

theorem moves_admitDiscardCell {p : Port} {r : Request} (h : s.Admissible p) :
    Verdict.moves linked now s (admitDiscardCell p r s) := by
  unfold admitDiscardCell
  dsimp only
  split
  · exact Verdict.moves_refuse _
  · split
    · exact Verdict.moves_refuse _
    · split
      · next k hk =>
        split
        · next hready => exact moves_answered_entry h (by rw [hk]; exact discarded_becomes hready)
        all_goals exact Verdict.moves_refuse _
      · exact Verdict.moves_refuse _

theorem moves_admitCreateGate {p : Port} {r : Request} (h : s.Admissible p) :
    Verdict.moves linked now s (admitCreateGate p r s) := by
  unfold admitCreateGate
  dsimp only
  split
  · exact Verdict.moves_refuse _
  · split
    · exact Verdict.moves_refuse _
    · next hff =>
      simp only [firstFailure_cons_none, beq_iff_eq] at hff
      obtain ⟨_, hempty, _⟩ := hff
      split
      · exact moves_answered_entry h (by rw [hempty]; exact empty_becomes_gate _)
      · exact Verdict.moves_refuse _

theorem moves_admitReadEntry {p : Port} {r : Request} (h : s.Admissible p) :
    Verdict.moves linked now s (admitReadEntry p r s) := by
  unfold admitReadEntry
  dsimp only
  split
  · exact Verdict.moves_refuse _
  · exact moves_answered_nothing h

theorem moves_admitBindPort {p : Port} {r : Request} (h : s.Admissible p) :
    Verdict.moves linked now s (admitBindPort p r s) := by
  unfold admitBindPort
  split
  · exact moves_answered h (Move.bind _ _).moves
  · exact Verdict.moves_refuse _

/-! ### The batch requests -/

theorem moves_admitOpenBatch {p : Port} {r : Request} (h : s.Admissible p) :
    Verdict.moves linked now s (admitOpenBatch p r s) := by
  unfold admitOpenBatch
  dsimp only
  split
  · exact Verdict.moves_refuse _
  · next hff =>
    simp only [firstFailure_cons_none, Bool.or_eq_true, beq_iff_eq] at hff
    obtain ⟨_, hst, _⟩ := hff
    exact moves_answered_batch h (newRun_becomes hst)

theorem moves_admitPauseBatch {p : Port} {r : Request} (h : s.Admissible p) :
    Verdict.moves linked now s (admitPauseBatch p r s) := by
  unfold admitPauseBatch
  dsimp only
  split
  · exact Verdict.moves_refuse _
  · exact moves_answered_batch h (Batch.becomes_of_state (stateFits_of_running (.inr (.inl rfl))))

theorem moves_admitResumeBatch {p : Port} {r : Request} (h : s.Admissible p) :
    Verdict.moves linked now s (admitResumeBatch p r s) := by
  unfold admitResumeBatch
  dsimp only
  split
  · exact Verdict.moves_refuse _
  · exact moves_answered_batch h (Batch.becomes_of_state (stateFits_of_running (.inl rfl)))

theorem moves_admitCloseBatch {p : Port} {r : Request} (h : s.Admissible p) :
    Verdict.moves linked now s (admitCloseBatch p r s) := by
  unfold admitCloseBatch
  dsimp only
  split
  · exact Verdict.moves_refuse _
  · have hb : ∀ {st}, Batch.stateFits { s.batch (field r.body 0) with state := st } →
        Moves linked now (s.beginAdmission p) ((s.beginAdmission p).setBatch (field r.body 0)
          { s.batch (field r.body 0) with state := st }) := fun hst =>
      (Move.batch _ _ (by rw [batch_beginAdmission]; exact Batch.becomes_of_state hst)).moves
    by_cases hres : 0 < (s.batch (field r.body 0)).freshRes + (s.batch (field r.body 0)).reissueRes
    · simp only [hres, if_true, reduceCtorEq, if_false]
      exact moves_answered h (hb ⟨by simp, fun _ => hres⟩)
    · simp only [hres, if_true, if_false]
      exact moves_answered h ((hb ⟨fun _ => by simpa using hres, by simp⟩).trans (moves_notice _ _))

theorem moves_admitReadMap {p : Port} {r : Request} (h : s.Admissible p) : Verdict.moves linked now s (admitReadMap p r s) := by
  unfold admitReadMap
  dsimp only
  split
  · exact Verdict.moves_refuse _
  · exact moves_answered_nothing h

theorem moves_admitQueryBatch {p : Port} {r : Request} (h : s.Admissible p) :
    Verdict.moves linked now s (admitQueryBatch p r s) := by
  unfold admitQueryBatch
  dsimp only
  split
  · exact Verdict.moves_refuse _
  · exact moves_answered_nothing h

theorem moves_admitSpoil {p : Port} {r : Request} (h : s.Admissible p) : Verdict.moves linked now s (admitSpoil p r s) := by
  unfold admitSpoil
  dsimp only
  split
  · exact Verdict.moves_refuse _
  · next hff =>
    simp only [firstFailure_cons_none, beq_iff_eq] at hff
    obtain ⟨_, _, _, _, hissued, _⟩ := hff
    exact moves_answered_batch h (spoilt_becomes hissued)

/-! ### SET-ATTN, STATUS and the requests on the mode -/

theorem moves_admitSetAttn {p : Port} {r : Request} (h : s.Admissible p) : Verdict.moves linked now s (admitSetAttn p r s) := by
  unfold admitSetAttn
  split
  · exact Verdict.moves_refuse _
  · split
    · exact Verdict.moves_refuse _
    · exact moves_answered h (moves_setPort fun hu => hu)

theorem moves_admitStatus {p : Port} {r : Request} (h : s.Admissible p) : Verdict.moves linked now s (admitStatus p r s) := by
  unfold admitStatus
  refine moves_answered h (Move.notices _ fun hn => ?_).moves
  rw [List.map_drop]
  exact hn.sublist (List.drop_sublist _ _)

theorem moves_addCause (c : Cause) : Moves linked now s (s.addCause c) :=
  (Move.aside s.seqs _ _ s.zeroTag s.tries s.choices).moves

theorem moves_enterZeroising : Moves linked now s s.enterZeroising := Move.zeroise.moves

theorem moves_admitZeroiseAll {p : Port} {r : Request} (h : s.Admissible p) :
    Verdict.moves linked now s (admitZeroiseAll p r s) :=
  Verdict.moves_accept ((((moves_beginAdmission h.entry).trans (moves_addCause _)).trans moves_enterZeroising).trans
    (Move.aside _ _ _ _ _ _).moves)

theorem moves_admitClearLockout {p : Port} {r : Request} (h : s.Admissible p) :
    Verdict.moves linked now s (admitClearLockout p r s) := by
  unfold admitClearLockout
  split
  · exact Verdict.moves_refuse _
  · next hff =>
    simp only [firstFailure_cons_none, bne_iff_ne] at hff
    obtain ⟨hmode, _⟩ := hff
    have hlock : s.mode = .lockout := by
      have := h.admitting
      simp only [State.admitting, Bool.and_eq_true, Bool.or_eq_true, beq_iff_eq] at this
      exact this.1.1.resolve_left hmode
    refine Verdict.moves_accept (Moves.trans (((moves_beginAdmission h.entry).trans ?_).trans (moves_answer _ _ _ _))
      (moves_addTries _))
    exact (Move.aside (s := s.beginAdmission p) (s.beginAdmission p).seqs [] none (s.beginAdmission p).zeroTag
      (s.beginAdmission p).tries (s.beginAdmission p).choices).moves.trans (Move.unlock (by simpa using hlock)).moves

/-! ### The tries of an event -/

theorem custody_of_allowed {k : ReqKind} {p : Port} (hk : k.reqClass = .custodyOnly) (h : k.allowedOn p = true) : p = .cp := by
  unfold ReqKind.allowedOn at h; rw [hk] at h; simpa using h

theorem moves_admitRequest {p : Port} {r : Request} (h : s.Admissible p) (hlist : linked → s.jobsListed)
    (hc : s.commonRefusal p r = none) : Verdict.moves linked now s (admitRequest now p r s) := by
  unfold admitRequest
  unfold State.commonRefusal at hc
  cases hk : kindOf r.code with
  | none => exact Verdict.moves_refuse _
  | some k =>
    rw [hk] at hc
    obtain ⟨hall, _⟩ := firstFailure_cons_none.1 hc
    cases k with
    | derive => exact moves_admitDerive h
    | spoil => exact moves_admitSpoil h
    | streamOpen => exact moves_admitStreamOpen h
    | streamChunk => exact moves_admitStreamChunk h
    | streamClose => exact moves_admitStreamClose h
    | cancel => exact moves_admitCancel h hlist
    | setAttn => exact moves_admitSetAttn h
    | queryBatch => exact moves_admitQueryBatch h
    | createKeyEntry => exact moves_admitCreateKeyEntry h
    | removeEntry => exact moves_admitRemoveEntry h
    | swapCell => exact moves_admitSwapCell h
    | discardCell => exact moves_admitDiscardCell h
    | readEntry => exact moves_admitReadEntry h
    | createGate => exact moves_admitCreateGate h
    | bindPort => exact moves_admitBindPort h
    | beginCeremony => exact moves_admitBeginCeremony h
    | component =>
      have hp := custody_of_allowed rfl hall
      subst hp
      exact moves_admitComponent h
    | abandonCeremony => exact moves_admitAbandonCeremony h
    | openBatch => exact moves_admitOpenBatch h
    | pauseBatch => exact moves_admitPauseBatch h
    | resumeBatch => exact moves_admitResumeBatch h
    | closeBatch => exact moves_admitCloseBatch h
    | readMap => exact moves_admitReadMap h
    | zeroiseAll => exact moves_admitZeroiseAll h
    | clearLockout => exact moves_admitClearLockout h
    | status => exact moves_admitStatus h

theorem moves_tryHead (p : Port) (hlist : linked → s.jobsListed) : Moves linked now s (s.tryHead now p).2 :=
  Moves.tryWith fun _ h hc => moves_admitRequest h hlist hc

theorem moves_aside (tries : List Port) (choices : Nat) : Moves linked now s { s with tries := tries, choices := choices } :=
  (Move.aside s.seqs s.causes s.firstCause s.zeroTag tries choices).moves

theorem moves_settle (n : Nat) (hlist : linked → s.jobsListed) : Moves linked now s (State.settle now n s) := by
  induction n generalizing s with
  | zero => exact moves_aside [] s.choices
  | succ n ih =>
    unfold State.settle
    split
    · exact moves_aside [] s.choices
    · next p u hpick =>
      obtain ⟨_, tries, choices, rfl⟩ := pickTry_due s u p hpick
      have h1 : Moves linked now s { s with tries := tries, choices := choices } := moves_aside _ _
      have h2 := h1.trans (moves_tryHead (now := now) p fun hl => h1.keeps_jobsListed (hlist hl))
      exact h2.trans (ih fun hl => h2.keeps_jobsListed (hlist hl))

theorem moves_runTries (hlist : linked → s.jobsListed) : Moves linked now s (s.runTries now) := moves_settle _ hlist

end Sys2Proof.Machine
end

/-! SUPPORT. The frames of a link are runs of moves (R140 to R148); and the turns of an event, which the moves do not make: the
supplies, the sweep and the modes (R156 to R170). -/

section
namespace Sys2Proof.Machine

variable {linked : Prop} {now : Bool} {s t : State}

/-! ### Frames -/

theorem PortUnit.fits.requests {u : PortUnit} (h : u.fits) : u.requests.length ≤ 8 := by
  have := h.1
  unfold PortUnit.entriesTaken at this
  omega

/-- A unit with no PLACING frame takes its placed requests alone. -/
theorem fits_of_requests {u : PortUnit} (h : u.requests.length ≤ 8) (ho : u.occupied.length + u.reserved ≤ 16)
    (hf : ∀ got, u.frame ≠ .placing got) : u.fits := by
  refine ⟨?_, ho⟩
  unfold PortUnit.entriesTaken
  split
  · next got hg => exact absurd hg (hf got)
  · exact h

theorem moves_startFetch (p : Port) : Moves linked now s (s.startFetch p) :=
  moves_setPort fun h => fits_of_requests h.requests h.2 (by simp)

theorem moves_fetchByte {p : Port} {header response : List Byte} {sent : Nat} :
    Moves linked now s (s.fetchByte p header response sent) := by
  unfold State.fetchByte
  dsimp only
  split
  · refine Moves.trans (moves_setPort ?_) (moves_addTryIf _ _)
    intro h
    refine fits_of_requests h.requests ?_ (by simp)
    have := h.2
    simp only [List.length_tail]
    omega
  · exact moves_setPort fun h => fits_of_requests h.requests h.2 (by simp)

theorem moves_clockByte (p : Port) (b : Byte) : Moves linked now s (State.clockByte p s b) := by
  unfold State.clockByte
  dsimp only
  split
  · exact .refl s
  · next hf =>
    split
    · exact moves_startFetch p
    · refine moves_setPort fun h => ⟨?_, h.2⟩
      have := h.1
      unfold PortUnit.entriesTaken at this ⊢
      rw [hf] at this
      exact this
  · next hf =>
    refine moves_setPort fun h => ⟨?_, h.2⟩
    have := h.1
    unfold PortUnit.entriesTaken at this ⊢
    rw [hf] at this
    exact this
  · split
    · exact moves_startFetch p
    · exact moves_setPort fun h => fits_of_requests h.requests h.2 (by simp)
  · exact .refl s
  · exact moves_fetchByte

theorem moves_clockBytes (p : Port) (bytes : List Byte) : Moves linked now s (s.clockBytes p bytes) := by
  induction bytes generalizing s with
  | nil => exact .refl s
  | cons b bytes ih => exact (moves_clockByte p b).trans ih

theorem moves_selectFalls (p : Port) : Moves linked now s (s.selectFalls p) := by
  unfold State.selectFalls
  dsimp only
  split
  · exact .refl s
  · refine moves_setPort fun h => ?_
    split_ifs with hlinks hfree
    · refine ⟨?_, h.2⟩
      have hfree : (s.port p).entriesTaken < 8 := of_decide_eq_true hfree
      unfold PortUnit.entriesTaken at hfree ⊢
      show (s.port p).requests.length + 1 ≤ 8
      omega
    · exact fits_of_requests h.requests h.2 (by simp)
    · exact fits_of_requests h.requests h.2 (by simp)

/-- The end of a PLACING frame gives its entry to the request it places (R142, R145). -/
theorem moves_selectRises (p : Port) : Moves linked now s (s.selectRises p) := by
  unfold State.selectRises
  dsimp only
  split
  · next got hf =>
    have hplace : ∀ u : PortUnit, u.frame = .none → u.requests.length = (s.port p).requests.length + 1 →
        u.occupied = (s.port p).occupied → u.reserved = (s.port p).reserved → Moves linked now s (s.setPort p u) := by
      intro u h1 h2 h3 h4
      refine moves_setPort fun h => fits_of_requests ?_ (by rw [h3, h4]; exact h.2) (by simp [h1])
      have := h.1
      unfold PortUnit.entriesTaken at this
      rw [hf] at this
      rw [h2]
      exact this
    split
    · unfold State.placeRequest
      simp only [State.port_setPort_same, State.setPort_setPort]
      split
      · refine Moves.trans (hplace _ ?_ ?_ ?_ ?_) (moves_addTry p) <;> simp
      · split
        · next hempty =>
          have hempty : (s.port p).requests = [] := List.isEmpty_iff.1 hempty
          refine Moves.trans (hplace _ ?_ ?_ ?_ ?_) (moves_addTry p) <;> simp [hempty]
        · refine hplace _ ?_ ?_ ?_ ?_ <;> simp
    · rw [State.port_setPort_same, State.setPort_setPort]
      exact moves_setPort fun h => fits_of_requests h.requests h.2 (by simp [PortUnit.recordFault])
  · rw [State.port_setPort_same, State.setPort_setPort]
    exact moves_setPort fun h => fits_of_requests h.requests h.2 (by simp [PortUnit.recordFault])
  · exact moves_setPort fun h => fits_of_requests h.requests h.2 (by simp)

theorem moves_timesOut (p : Port) : Moves linked now s (s.timesOut p) := by
  unfold State.timesOut
  dsimp only
  split
  all_goals
    try rw [State.port_setPort_same, State.setPort_setPort]
    exact moves_setPort fun h => fits_of_requests h.requests h.2 (by simp [PortUnit.recordFault])

theorem moves_fetch (p : Port) (clocked : Nat) (ended : Bool) : Moves linked now s (s.fetch p clocked ended) := by
  unfold State.fetch
  dsimp only
  split
  · split
    · exact ((moves_selectFalls p).trans (moves_clockBytes p _)).trans (moves_selectRises p)
    · exact (moves_selectFalls p).trans (moves_clockBytes p _)
  · exact .refl s

/-- Moves that need no list, and then the tries they cause. -/
theorem Moves.runTries (h : Moves linked now s t) (hlist : linked → s.jobsListed) : Moves linked now s (t.runTries now) :=
  h.trans (moves_runTries fun hl => h.keeps_jobsListed (hlist hl))

theorem moves_deliver (p : Port) (code flags tag : Byte) (body : List Byte) (hlist : linked → s.jobsListed) :
    Moves linked true s (s.deliver p code flags tag body) :=
  Moves.runTries (((moves_selectFalls p).trans (moves_clockBytes p _)).trans (moves_selectRises p)) hlist

theorem moves_triesAtFrameEnd (p : Port) (hlist : linked → s.jobsListed) : Moves linked true s (s.triesAtFrameEnd p) := by
  rcases triesAtFrameEnd_cases s p with h | ⟨_, h | h⟩
  · rw [h]; exact moves_runTries hlist
  · rw [h]; exact (moves_aside s.tries _).runTries hlist
  · rw [h]; exact (moves_aside _ _).runTries hlist

theorem moves_expireIdle (slot : Nat) : Moves linked true s (s.expireIdle slot) := by
  unfold State.expireIdle
  split
  · next j hj =>
    split
    · split
      · next hidle =>
        refine moves_endJob rfl fun _ x hx => ?_
        rw [hj] at hx
        cases hx
        simp [hidle.1]
      · exact .refl s
    · exact .refl s
  · exact .refl s

/-! ### Tamper events (R157) -/

theorem moves_tamperNotice (l : TamperLine) : Moves linked now s (s.tamperNotice l) := by
  unfold State.tamperNotice
  split
  · exact moves_notice _ _
  · exact .refl s

theorem moves_takeTamper (l : TamperLine) : Moves linked now s (s.takeTamper l) := by
  unfold State.takeTamper
  dsimp only
  split
  · split
    · have h : Moves linked now s { s.addCause (.line l) with choices := s.choices + 1 } :=
        (moves_addCause _).trans (moves_aside _ _)
      split
      · exact (h.trans (moves_tamperNotice l)).trans moves_enterZeroising
      · exact (h.trans moves_enterZeroising).trans (moves_tamperNotice l)
    · exact ((moves_addCause _).trans (moves_tamperNotice l)).trans moves_enterZeroising
  · exact (moves_addCause _).trans (moves_tamperNotice l)

theorem moves_takeTampers (ls : List TamperLine) : Moves linked now s (s.takeTampers ls) := by
  induction ls generalizing s with
  | nil => exact .refl s
  | cons l ls ih => exact (moves_takeTamper l).trans ih

theorem moves_takeInSomeOrder (n : Nat) (ls : List TamperLine) : Moves linked now s (State.takeInSomeOrder n ls s) := by
  induction n generalizing s ls with
  | zero => exact .refl s
  | succ n ih =>
    match ls with
    | [] => exact .refl s
    | [l] => exact moves_takeTamper l
    | l :: m :: ls => exact ((moves_aside s.tries (s.choices + 1)).trans (moves_takeTamper _)).trans (ih _)

/-! ### Turns -/

/-- The links, queues and jobs are at work, and no sweep is due or running. -/
def State.atWork (s : State) : Prop := s.alive = true ∧ s.sweep = .idle

/-- What a state whose volatile part is gone keeps of the one before, at a loss of power and at the end of a sweep (R168,
R169). -/
structure Cleared (s t : State) : Prop where
  jobs : ∀ n, t.job n = none
  live : ∀ p, t.liveOf p = []
  engine : t.engine = none
  ceremony : t.ceremony = none
  deficits : ∀ l, t.deficit l = 0
  waits : t.waitList = []
  modes : s.modeAgrees → t.modeAgrees
  keys : (∀ n, (s.entry n).ok) → ∀ n, (t.entry n).ok
  uses : s.usesFit → t.usesFit
  agrees : s.batchesAgree → t.batchesAgree
  fits : s.batchesAgree → (∀ n, (s.batch n).stateFits) → ∀ n, (t.batch n).stateFits
  unheld : t.atWork → (∀ n, (s.entry n).ok) → ∀ n c, (t.entry n).held c = 0
  unreserved : t.atWork → ∀ n (pos : Nat) (x : PosState), (t.batch n).map[pos]? = some x → ¬ x.reserved
  queues : s.queuesFit → t.queuesFit
  notices : s.noticesOnce → t.noticesOnce

/-- A turn of an event: a move, or what the modes, the supplies, the sweep and the passes of the engine add to them. The
last is the grant end of a CUSTODY job that stands in another slot than 15, where no list of live jobs has it (R84, R49). -/
inductive Turn (linked : Prop) (s : State) : State → Prop
  | move {t : State} (h : Move linked true s t) : Turn linked s t
  | outside (battery below marker pins lost held pending) :
    Turn linked s
      { s with battery := battery, batteryBelow := below, markerGood := marker, tamperPins := pins, holdingLost := lost
               heldTamper := held, pending := pending }
  | phase (mode pending run sweep power line) (hidle : s.zeroisingIdle → s.idleWork)
      (hm : s.modeAgrees → State.modeAgrees { s with mode := mode, zeroisePending := pending, zeroRun := run })
      (hw : State.atWork { s with mainPower := power, resetHeld := line, sweep := sweep } → s.atWork)
      (hoff : State.alive { s with mainPower := power, resetHeld := line } = false → s.alive = false) :
    Turn linked s
      { s with mode := mode, zeroisePending := pending, zeroRun := run, sweep := sweep, mainPower := power, resetHeld := line }
  | suspend : Turn linked s s.suspendBatches
  | clearCells (hidle : s.zeroisingIdle → s.idleWork) : Turn linked s s.clearCells
  | emptied (mode : PartMode) (hoff : s.alive = false) (hm : storedMode mode = mode) :
    Turn linked s
      { s with
        keys := Vector.replicate 128 .empty
        bindings := ⟨defaultBinding, defaultBinding, defaultBinding, defaultBinding⟩
        batches := Vector.replicate 32 unusedBatch
        mode := mode, zeroisePending := mode == .zeroising, zeroRun := none }
  | cleared {t : State} (h : Cleared s t) : Turn linked s t
  | visitOver (l : LinePort) : Turn linked s (s.setDeficit l 0)
  | pass : Turn linked s s.finishPass
  | stray (hl : ¬ linked) (slot : Nat) (j : Job) (hbad : ¬ s.jobsListed) (hwork : s.engine ≠ none)
    (hc : ∃ c, j.ctx = .custody c) :
    Turn linked s (s.setJob slot (some j))

/-- A run of turns. -/
def Turns (linked : Prop) : State → State → Prop := Relation.ReflTransGen (Turn linked)

theorem Turns.refl (s : State) : Turns linked s s := Relation.ReflTransGen.refl

theorem Turns.trans {u : State} (h1 : Turns linked s t) (h2 : Turns linked t u) : Turns linked s u :=
  Relation.ReflTransGen.trans h1 h2

theorem Turn.turns (h : Turn linked s t) : Turns linked s t := Relation.ReflTransGen.single h

theorem Moves.turns (h : Moves linked true s t) : Turns linked s t := by
  induction h with
  | refl => exact .refl s
  | tail _ hm ih => exact ih.trans (Turn.move hm).turns

theorem Turns.keeps {I : State → Prop} (hI : ∀ {s t}, Turn linked s t → I s → I t) (h : Turns linked s t) (hs : I s) : I t := by
  induction h with
  | refl => exact hs
  | tail _ hm ih => exact hI hm ih

end Sys2Proof.Machine
end

/-! SUPPORT. Every relation that the statements of the invariants name is kept by every turn. -/

section
namespace Sys2Proof.Machine

variable {linked : Prop} {s t : State}

/-! ### Tables written over -/

theorem entry_emptied {keys : Vector Entry 128} (h : s.keys = keys) (hk : keys = Vector.replicate 128 .empty) (n : Nat) :
    s.entry n = .empty := by
  unfold State.entry
  split
  · subst hk; rw [h]; simp
  · rfl

theorem batch_emptied {batches : Vector Batch 32} (h : s.batches = batches) (hb : batches = Vector.replicate 32 unusedBatch)
    (n : Nat) : s.batch n = unusedBatch := by
  unfold State.batch
  split
  · subst hb; rw [h]; simp
  · rfl

theorem finishPass_idle (h : s.engine = none) : s.finishPass = s := by unfold State.finishPass; rw [h]

theorem job_finishPass (s : State) (n : Nat) : s.finishPass.job n = s.job n := by
  obtain ⟨e, h⟩ := finishPass_touches s
  rw [h]; rfl

/-! ### The live-job lists, and the streams -/

theorem jobsListed_without_jobs (hj : ∀ n, s.job n = none) (hl : ∀ p, s.liveOf p = []) : s.jobsListed := by
  refine ⟨fun p n => ?_, fun p => ?_, fun n j h => ?_, fun l => ?_, ?_⟩
  · simp [hj, hl]
  · rw [hl]; exact List.nodup_nil
  · rw [hj] at h; cases h
  · rw [hl]; simp
  · rw [hl]; simp

theorem Turn.keeps_jobsListed (h : Turn linked s t) (hs : s.jobsListed) : t.jobsListed := by
  cases h with
  | move hm => exact hm.keeps_jobsListed hs
  | outside | phase | suspend | clearCells | emptied | visitOver => exact jobsListed_congr (s := s) rfl rfl hs
  | cleared hc => exact jobsListed_without_jobs hc.jobs hc.live
  | pass =>
    obtain ⟨e, he⟩ := finishPass_touches s
    rw [he]; exact jobsListed_congr (s := s) rfl rfl hs
  | stray _ _ _ hbad => exact absurd hs hbad

theorem Turn.keeps_allJobs {P : Job → Prop} (hmove : ∀ {u v : State}, Move linked true u v → u.allJobs P → v.allJobs P)
    (hcustody : ∀ j : Job, (∃ c, j.ctx = .custody c) → P j) (h : Turn linked s t) (hs : s.allJobs P) : t.allJobs P := by
  cases h with
  | move hm => exact hmove hm hs
  | outside | phase | suspend | clearCells | emptied | visitOver => exact allJobs_congr (s := s) rfl hs
  | cleared hc => intro n j hj; rw [hc.jobs] at hj; cases hj
  | pass => intro n j hj; rw [job_finishPass] at hj; exact hs n j hj
  | stray _ slot j _ _ hc => exact allJobs_setJob (fun x hx => by cases hx; exact hcustody j hc) hs

theorem Turn.keeps_streamsFit (h : Turn linked s t) (hs : s.streamsFit) : t.streamsFit := by
  rw [streamsFit_iff] at hs ⊢
  exact h.keeps_allJobs (fun hm hu => streamsFit_iff.1 (hm.keeps_streamsFit (streamsFit_iff.2 hu)))
    (fun j ⟨c, hc⟩ d hd => by rw [hc] at hd; cases hd) hs

theorem Turn.keeps_idleFits (h : Turn linked s t) (hs : s.allJobs Job.idleFits) : t.allJobs Job.idleFits :=
  h.keeps_allJobs (fun hm => hm.keeps_idleFits) (fun j ⟨c, hc⟩ d hd => by rw [hc] at hd; cases hd) hs

/-! ### The queues and lists, the deficits and the modes -/

theorem Turn.keeps_queues (h : Turn linked s t) (hs : s.queuesFit ∧ s.listsOnce) : t.queuesFit ∧ t.listsOnce := by
  cases h with
  | move hm => exact hm.keeps_queues hs
  | outside | phase | suspend | clearCells | emptied | visitOver | stray => exact hs
  | cleared hc =>
    obtain ⟨hq, hw, hn⟩ := hs
    exact ⟨hc.queues hq, by rw [hc.waits]; exact List.nodup_nil, hc.notices hn⟩
  | pass =>
    obtain ⟨e, he⟩ := finishPass_touches s
    rw [he]; exact hs

theorem Turn.keeps_deficitsFit (h : Turn linked s t) (hs : s.deficitsFit) : t.deficitsFit := by
  cases h with
  | move hm => exact hm.keeps_deficitsFit hs
  | outside | suspend | clearCells | stray => exact deficitsFit_congr (s := s) rfl rfl rfl rfl rfl rfl hs
  | phase mode pending run sweep power line _ _ _ hoff => exact ⟨hs.1, fun ha => hs.2 (hoff ha)⟩
  | emptied mode hoff =>
    refine ⟨fun l => ?_, fun ha => hs.2 ha⟩
    have : s.deficit l = 0 := (hs.2 hoff).2 l
    exact (le_of_eq this).trans (Nat.zero_le _)
  | cleared hc => exact ⟨fun l => by rw [hc.deficits]; exact Nat.zero_le _, fun _ => ⟨hc.engine, hc.deficits⟩⟩
  | visitOver l =>
    have hle : ∀ m, (s.setDeficit l 0).deficit m ≤ s.deficit m := fun m => by
      by_cases hm : m = l
      · subst hm; simp
      · simp [hm]
    exact ⟨fun m => (hle m).trans (hs.1 m), fun ha => ⟨(hs.2 ha).1, fun m => Nat.eq_zero_of_le_zero ((hs.2 ha).2 m ▸ hle m)⟩⟩
  | pass =>
    obtain ⟨e, he⟩ := finishPass_touches s
    refine ⟨by rw [he]; exact hs.1, fun ha => ?_⟩
    have ha' : s.alive = false := by rw [he] at ha; exact ha
    rw [finishPass_idle (hs.2 ha').1]
    exact hs.2 ha'

theorem Turn.keeps_zeroisingIdle (h : Turn linked s t) (hs : s.zeroisingIdle) : t.zeroisingIdle := by
  cases h with
  | move hm => exact hm.keeps_zeroisingIdle hs
  | outside | suspend | clearCells | visitOver => exact hs
  | phase mode pending run sweep power line hidle hm => exact ⟨hm hs.1, fun _ => hidle hs⟩
  | emptied mode hoff hm =>
    refine ⟨⟨?_, by simp⟩, fun _ => hs.2 (.inr (.inr (.inl hoff)))⟩
    show storedMode mode = .zeroising ↔ (mode == .zeroising) = true
    rw [hm, beq_iff_eq]
  | cleared hc => exact ⟨hc.modes hs.1, fun _ => ⟨hc.jobs, hc.engine, hc.ceremony⟩⟩
  | pass =>
    obtain ⟨e, he⟩ := finishPass_touches s
    have hmode : s.finishPass.modeAgrees := by rw [he]; exact hs.1
    refine ⟨hmode, fun hoff => ?_⟩
    have hidle : s.idleWork := hs.2 (by rw [he] at hoff; exact hoff)
    rw [finishPass_idle hidle.2.1]
    exact hidle
  | stray _ _ _ _ hwork => exact ⟨hs.1, fun hoff => absurd (hs.2 hoff).2.1 hwork⟩

/-! ### The batches -/

theorem Turn.keeps_batchesAgree (h : Turn linked s t) (hs : s.batchesAgree) : t.batchesAgree := by
  cases h with
  | move hm => exact hm.keeps_batchesAgree hs
  | outside | phase | clearCells | visitOver | stray => exact batchesAgree_congr (s := s) rfl hs
  | suspend => intro n; rw [batch_suspendBatches]; exact (hs n).suspend
  | emptied => intro n; rw [batch_emptied rfl rfl]; exact unusedBatch_agrees
  | cleared hc => exact hc.agrees hs
  | pass =>
    obtain ⟨e, he⟩ := finishPass_touches s
    rw [he]; exact batchesAgree_congr (s := s) rfl hs

theorem unusedBatch_fits : unusedBatch.stateFits := ⟨fun _ => rfl, by simp [unusedBatch]⟩

theorem Turn.keeps_positionsHeld (h : Turn linked s t) (hlist : s.jobsListed) (hs : s.positionsHeld) : t.positionsHeld := by
  cases h with
  | move hm => exact hm.keeps_positionsHeld hs
  | outside | clearCells | visitOver => exact positionsHeld_congr (s := s) rfl (positionAt_congr rfl) ⟨rfl, rfl, rfl⟩ hs
  | phase mode pending run sweep power line _ _ hw =>
    rw [positionsHeld_iff] at hs ⊢
    obtain ⟨ha, hf, hm⟩ := hs
    refine ⟨ha, hf, fun h1 h2 => ?_⟩
    obtain ⟨h3, h4⟩ := hw ⟨h1, h2⟩
    exact (hm h3 h4).congr (positionAt_congr rfl) fun _ _ _ _ => Iff.rfl
  | suspend =>
    rw [positionsHeld_iff] at hs ⊢
    obtain ⟨ha, hf, hm⟩ := hs
    refine ⟨fun n => ?_, fun n => ?_, fun h1 h2 => (hm h1 h2).congr (positionAt_congr rfl) fun b pos x _ => ?_⟩
    · rw [batch_suspendBatches]; exact (ha n).suspend
    · rw [batch_suspendBatches]; exact (hf n).suspend
    · rw [batch_suspendBatches]
      unfold Batch.suspend
      split <;> exact Iff.rfl
  | emptied mode hoff =>
    rw [positionsHeld_iff]
    refine ⟨fun n => ?_, fun n => ?_, fun h1 => ?_⟩
    · rw [batch_emptied rfl rfl]; exact unusedBatch_agrees
    · rw [batch_emptied rfl rfl]; exact unusedBatch_fits
    · have h1 : s.alive = true := h1
      rw [hoff] at h1; cases h1
  | cleared hc =>
    rw [positionsHeld_iff] at hs ⊢
    obtain ⟨ha, hf, _⟩ := hs
    have hfree : ∀ n, t.positionAt n = none := fun n => positionAt_free (hc.jobs n)
    refine ⟨hc.agrees ha, hc.fits ha hf, fun h1 h2 => ⟨fun n b pos prior hn => ?_, fun b pos x hx hr => ?_,
      fun m n b pos x y hm => ?_⟩⟩
    · rw [hfree] at hn; cases hn
    · exact absurd hr (hc.unreserved ⟨h1, h2⟩ b pos x hx)
    · rw [hfree] at hm; cases hm
  | pass =>
    obtain ⟨e, he⟩ := finishPass_touches s
    rw [he]; exact positionsHeld_congr (s := s) rfl (positionAt_congr rfl) ⟨rfl, rfl, rfl⟩ hs
  | stray _ _ _ hbad => exact absurd hlist hbad

/-! ### The Key Table -/

theorem Entry.empty_ok : Entry.empty.ok := fun _ h => by cases h

theorem Entry.empty_usesFit : Entry.empty.usesFit := fun _ h => by cases h

theorem Turn.keeps_keysOk (h : Turn linked s t) (hs : s.keysOk) : t.keysOk := by
  obtain ⟨hz, hok, hf⟩ := keysOk_iff.1 hs
  have hz' := h.keeps_zeroisingIdle hz
  cases h with
  | move hm => exact hm.keeps_keysOk hs
  | outside | phase | suspend | visitOver | stray => exact keysOk_iff.2 ⟨hz', hok, hf⟩
  | clearCells hidle =>
    refine keysOk_iff.2 ⟨hz', fun n => ?_, fun cer hcer => ?_⟩
    · rw [entry_clearCells]; exact Entry.zeroised_ok _
    · have : s.ceremony = some cer := hcer
      rw [(hidle hz).2.2] at this; cases this
  | emptied mode hoff =>
    refine keysOk_iff.2 ⟨hz', fun n => ?_, fun cer hcer => ?_⟩
    · rw [entry_emptied rfl rfl]; exact Entry.empty_ok
    · have : s.ceremony = some cer := hcer
      rw [(hz.2 (.inr (.inr (.inl hoff)))).2.2] at this; cases this
  | cleared hc => exact keysOk_iff.2 ⟨hz', hc.keys hok, fun cer hcer => by rw [hc.ceremony] at hcer; cases hcer⟩
  | pass =>
    obtain ⟨e, he⟩ := finishPass_touches s
    rw [he] at hz' ⊢; exact keysOk_iff.2 ⟨hz', hok, hf⟩

theorem Turn.keeps_usesFit (h : Turn linked s t) (hs : s.usesFit) : t.usesFit := by
  cases h with
  | move hm => exact hm.keeps_usesFit hs
  | outside | phase | suspend | visitOver | stray => exact hs
  | clearCells => intro n; rw [entry_clearCells]; exact (hs n).zeroised
  | emptied => intro n; rw [entry_emptied rfl rfl]; exact Entry.empty_usesFit
  | cleared hc => exact hc.uses hs
  | pass =>
    obtain ⟨e, he⟩ := finishPass_touches s
    rw [he]; exact hs

theorem holdCount_without_jobs (h : ∀ n, s.job n = none) (x : Nat × CellId) : s.holdCount x = 0 :=
  List.countP_eq_zero.2 fun n _ => by simp [holdsAt_free (h n)]

/-- Without jobs and without holds the counts agree. -/
theorem countsMatch_without_jobs (h : ∀ n, s.job n = none) (hh : ∀ n c, (s.entry n).held c = 0) : s.countsMatch :=
  ⟨fun n c => by rw [hh, holdCount_without_jobs h], fun n => by rw [holdsAt_free (h n)]; exact List.nodup_nil⟩

theorem Turn.keeps_countsAgree (h : Turn linked s t) (hlist : s.jobsListed) (hs : s.countsAgree) : t.countsAgree := by
  obtain ⟨hkeys, huses, hm⟩ := countsAgree_iff.1 hs
  obtain ⟨hz, hok, _⟩ := keysOk_iff.1 hkeys
  rw [countsAgree_iff]
  refine ⟨h.keeps_keysOk hkeys, h.keeps_usesFit huses, fun h1 h2 => ?_⟩
  cases h with
  | move hmove => exact (countsAgree_iff.1 (hmove.keeps_countsAgree hs)).2.2 h1 h2
  | outside | suspend | visitOver => exact (hm h1 h2).congr (fun _ _ => rfl) (holdsAt_congr rfl)
  | phase mode pending run sweep power line _ _ hw =>
    obtain ⟨h3, h4⟩ := hw ⟨h1, h2⟩
    exact (hm h3 h4).congr (fun _ _ => rfl) (holdsAt_congr rfl)
  | clearCells hidle =>
    refine countsMatch_without_jobs (hidle hz).1 fun n c => ?_
    rw [entry_clearCells]; exact Entry.held_zeroised _ _
  | emptied mode hoff =>
    have h1 : s.alive = true := h1
    rw [hoff] at h1; cases h1
  | cleared hc => exact countsMatch_without_jobs hc.jobs (hc.unheld ⟨h1, h2⟩ hok)
  | pass =>
    obtain ⟨e, he⟩ := finishPass_touches s
    rw [he] at h1 h2 ⊢; exact (hm h1 h2).congr (fun _ _ => rfl) (holdsAt_congr rfl)
  | stray _ _ _ hbad => exact absurd hlist hbad

/-! ### The grant -/

theorem Turn.keeps_jobsAgree (h : Turn linked s t) (hs : s.jobsAgree) : t.jobsAgree :=
  ⟨h.keeps_countsAgree hs.listed hs.counts, h.keeps_positionsHeld hs.listed hs.positions, h.keeps_jobsListed hs.listed,
  h.keeps_idleFits hs.idle⟩

theorem linkAgrees_idleWork (h : s.idleWork) : s.linkAgrees :=
  linkAgrees_idle h.2.1 fun n j hj => by rw [h.1] at hj; cases hj

/-- A pass that finishes leaves the working copy of the pass after it (R103). -/
theorem linkAgrees_finishPass (h : s.linkAgrees) : s.finishPass.linkAgrees := by
  unfold State.finishPass
  split
  · exact h
  · next g hg =>
    obtain ⟨j, hj, _, _⟩ := h.works g hg
    rw [hj]
    dsimp only
    split
    · next hlt =>
      refine ⟨fun n x hx => ?_, fun g' hg' => ?_⟩
      · have := h.granted n x hx
        simpa [hg] using this
      · cases hg'
        exact ⟨j, hj, by simpa using hlt, rfl⟩
    · exact h

theorem SameInputs.of_tables (h1 : t.keys = s.keys) (h2 : ∀ n, (t.batch n).first = (s.batch n).first ∧
    (t.batch n).domain = (s.batch n).domain) (h3 : t.ceremony = s.ceremony) (j : Job) : SameInputs s t j :=
  ⟨fun x _ => by rw [cellValue_eq, cellValue_eq, entry_congr h1], fun c _ => h2 c.batch, fun c _ => by rw [h3]⟩

theorem State.linkAgrees.congr (h : s.linkAgrees) (he : t.engine = s.engine) (hj : ∀ n, t.job n = s.job n)
    (hi : ∀ j, SameInputs s t j) : t.linkAgrees :=
  h.keep he (fun n j' hj' => h.granted n j' (hj n ▸ hj')) fun g j _ hg => ⟨j, (hj g.slot).trans hg, (hi j).work g.held⟩

theorem Turn.keeps_grantAgrees (h : Turn True s t) (hs : s.grantAgrees) : t.grantAgrees := by
  obtain ⟨hj, hl⟩ := grantAgrees_iff.1 hs
  refine grantAgrees_iff.2 ⟨h.keeps_jobsAgree hj, ?_⟩
  have hz := hj.zeroisingIdle
  cases h with
  | move hm => exact (grantAgrees_iff.1 (hm.keeps_grantAgrees hs)).2
  | outside | visitOver => exact hl.congr rfl (fun _ => rfl) (SameInputs.of_tables rfl (fun _ => ⟨rfl, rfl⟩) rfl)
  | phase mode pending run sweep power line hidle => exact linkAgrees_idleWork (hidle hz)
  | suspend =>
    refine hl.congr rfl (fun _ => rfl) (SameInputs.of_tables rfl (fun n => ?_) rfl)
    rw [batch_suspendBatches]
    unfold Batch.suspend
    split <;> exact ⟨rfl, rfl⟩
  | clearCells hidle => exact linkAgrees_idleWork (hidle hz)
  | emptied mode hoff =>
    have hidle := hz.2 (.inr (.inr (.inl hoff)))
    exact linkAgrees_idleWork (s := { s with
        keys := Vector.replicate 128 .empty
        bindings := ⟨defaultBinding, defaultBinding, defaultBinding, defaultBinding⟩
        batches := Vector.replicate 32 unusedBatch
        mode := mode, zeroisePending := mode == .zeroising, zeroRun := none }) hidle
  | cleared hc => exact linkAgrees_idleWork ⟨hc.jobs, hc.engine, hc.ceremony⟩
  | pass => exact linkAgrees_finishPass hl
  | stray hu => exact absurd trivial hu

end Sys2Proof.Machine
end

/-! SUPPORT. Every command but GRANT_END and PORT_RESET is a run of turns. -/

section
namespace Sys2Proof.Machine

variable {linked : Prop} {s t : State}

/-! ### Without work -/

theorem idleWork_of_off (h : s.alive = false) (hz : s.zeroisingIdle) : s.idleWork := hz.2 (.inr (.inr (.inl h)))

theorem idleWork_of_sweep (h : s.sweep ≠ .idle) (hz : s.zeroisingIdle) : s.idleWork := hz.2 (.inr (.inr (.inr h)))

/-- A zeroisation in progress has the part ZEROISING, so without work (R161, R162). -/
theorem idleWork_of_zeroRun (h : s.zeroRun.isSome) (hz : s.zeroisingIdle) : s.idleWork := hz.2 (.inl (hz.1.2 h))

theorem storedMode_storedMode (m : PartMode) : storedMode (storedMode m) = storedMode m := by cases m <;> rfl

theorem alive_of_not_mainPower (h : s.mainPower = false) : s.alive = false := by simp [State.alive, h]

theorem alive_of_resetHeld (h : s.resetHeld = true) : s.alive = false := by simp [State.alive, h]

theorem Turns.keeps_jobsListed (h : Turns linked s t) (hs : s.jobsListed) : t.jobsListed :=
  h.keeps (fun ht => ht.keeps_jobsListed) hs

theorem turns_tryAll (hlist : linked → s.jobsListed) : Turns linked s ((s.addTries allPorts).runTries true) :=
  Moves.turns (Moves.runTries (moves_addTries allPorts) hlist)

/-! ### The sweep (R168, R170) -/

theorem sweptCell_ok {x : Cell} (h : x.ok) : (sweptCell x).ok := by
  unfold Cell.ok at h
  unfold sweptCell
  split
  · exact blankCell_ok
  · next hs => rw [hs] at h; exact ⟨h.1, h.2.1, rfl⟩
  · next h1 h2 =>
    unfold Cell.ok
    cases hs : x.state with
    | blank => rw [hs] at h; exact ⟨h.1, h.2.1, rfl⟩
    | forming => exact absurd hs h1
    | ready => rw [hs] at h; exact ⟨h.1, h.2.1, rfl⟩
    | serving => rw [hs] at h; exact h
    | draining => exact absurd hs h2

theorem sweptCell_serving (x : Cell) : (sweptCell x).state = .serving ↔ x.state = .serving := by
  unfold sweptCell
  split
  · next hs => simp [blankCell, hs]
  · next hs => simp [hs]
  · exact Iff.rfl

theorem sweptCell_inFlight (x : Cell) : (sweptCell x).inFlight = 0 := by
  unfold sweptCell
  split <;> rfl

theorem swept_cell (k : KeyEntry) (c : CellId) :
    KeyEntry.cell { k with cellA := sweptCell k.cellA, cellB := sweptCell k.cellB } c = sweptCell (k.cell c) := by
  cases c <;> rfl

theorem Entry.ok.swept {e : Entry} (h : e.ok) : e.swept.ok := by
  cases e with
  | key k =>
    intro k' hk'
    simp only [Entry.swept, Entry.key.injEq] at hk'
    subst hk'
    obtain ⟨hok, hs⟩ := KeyEntry.ok_iff.1 (h k rfl)
    refine KeyEntry.ok_iff.2 ⟨fun c => ?_, fun c => ?_⟩
    · rw [swept_cell]; exact sweptCell_ok (hok c)
    · rw [swept_cell, sweptCell_serving]; exact hs c
  | empty | gate => exact h

theorem Entry.usesFit.swept {e : Entry} (h : e.usesFit) : e.swept.usesFit := by
  cases e with
  | key k =>
    intro k' hk'
    simp only [Entry.swept, Entry.key.injEq] at hk'
    subst hk'
    exact h k rfl
  | empty | gate => exact h

theorem Entry.held_swept (e : Entry) (c : CellId) : e.swept.held c = 0 := by
  cases e with
  | key k => simp only [Entry.swept, Entry.held, swept_cell, sweptCell_inFlight]
  | empty | gate => rfl

theorem sweptPos_not_reserved (x : PosState) : ¬ (sweptPos x).reserved := by
  cases x <;> simp [sweptPos, PosState.reserved]

theorem countIn_map_sweptPos (sts sts' : List PosState) (h : ∀ x, sweptPos x ∈ sts ↔ x ∈ sts') (map : List PosState) :
    countIn sts (map.map sweptPos) = countIn sts' map := by
  unfold countIn
  rw [List.countP_map]
  refine List.countP_congr fun x _ => ?_
  simp [h]

/-- No position is reserved behind the sweep (R66). -/
theorem countIn_swept_reserved {x : PosState} (hx : x = .reservedFresh ∨ x = .reservedSpoilt) (map : List PosState) :
    countIn [x] (map.map sweptPos) = 0 := by
  unfold countIn
  rw [List.countP_eq_zero]
  intro y hy
  obtain ⟨z, _, rfl⟩ := List.mem_map.1 hy
  rcases hx with rfl | rfl <;> cases z <;> simp [sweptPos]

theorem afterSweep_fields (b : Batch) : b.afterSweep =
    { b with map := b.map.map sweptPos, freshRes := 0, reissueRes := 0
             state := if b.state = .closing then .closed else b.state } := by
  unfold Batch.afterSweep Batch.swept
  dsimp only
  split <;> rfl

theorem Batch.agrees.afterSweep {b : Batch} (h : b.agrees) : b.afterSweep.agrees := by
  obtain ⟨hlen, hd, hf, hr, ha⟩ := h
  rw [afterSweep_fields]
  refine ⟨by simpa using hlen, ?_, ?_, ?_, ?_⟩
  · refine hd.trans (countIn_map_sweptPos _ _ (fun x => ?_) _).symm
    cases x <;> simp [sweptPos]
  · exact (countIn_swept_reserved (.inl rfl) b.map).symm
  · exact (countIn_swept_reserved (.inr rfl) b.map).symm
  · show b.reissued + 0 ≤ b.allowance
    omega

theorem afterSweep_fits (b : Batch) : b.afterSweep.stateFits := by
  rw [afterSweep_fields]
  refine ⟨fun _ => rfl, fun h => ?_⟩
  by_cases hc : b.state = .closing
  · simp [hc] at h
  · simp [hc] at h

theorem afterSweep_unreserved {b : Batch} {pos : Nat} {x : PosState} (h : b.afterSweep.map[pos]? = some x) : ¬ x.reserved := by
  rw [afterSweep_fields, List.getElem?_map] at h
  obtain ⟨y, _, rfl⟩ := Option.map_eq_some_iff.1 h
  exact sweptPos_not_reserved y

theorem noticeSwept_touches (s : State) : ∃ notices, s.noticeSwept = { s with notices := notices } ∧
    ((s.notices.map Notice.key).Nodup → (notices.map Notice.key).Nodup) := by
  have h : ∀ (ns : List Nat) (t : State), ∃ notices,
      ns.foldl (fun t n => if (s.batch n).state = .closing then t.notice (.batchClosed n) 0 else t) t =
        { t with notices := notices } ∧ ((t.notices.map Notice.key).Nodup → (notices.map Notice.key).Nodup) := by
    intro ns
    induction ns with
    | nil => exact fun t => ⟨t.notices, rfl, id⟩
    | cons n ns ih =>
      intro t
      rw [List.foldl_cons]
      split
      · obtain ⟨ns', h1, h2⟩ := ih (t.notice (.batchClosed n) 0)
        exact ⟨ns', by rw [h1]; rfl, fun hn => h2 (raiseIn_once _ _ hn)⟩
      · exact ih t
  exact h _ s

theorem vector_replicate_job (h : s.slots = Vector.replicate 16 none) (n : Nat) : s.job n = none := by
  unfold State.job
  split
  · rw [h]; simp
  · rfl

theorem liveOf_empty (h : s.live = ⟨[], [], [], [], []⟩) (p : Port) : s.liveOf p = [] := by
  unfold State.liveOf
  rw [h]
  cases p with
  | cp => rfl
  | line l => cases l <;> rfl

theorem deficit_zero (h : s.deficits = ⟨0, 0, 0, 0⟩) (l : LinePort) : s.deficit l = 0 := by
  unfold State.deficit
  rw [h]
  cases l <;> rfl

theorem entry_swept (h : t.keys = mapVector Entry.swept s.keys) (n : Nat) : t.entry n = (s.entry n).swept := by
  unfold State.entry
  split
  · rw [h]; exact mapVector_get _ _ _ _
  · rfl

theorem unusedBatch_afterSweep : unusedBatch.afterSweep = unusedBatch := rfl

theorem batch_afterSweep (h : t.batches = mapVector Batch.afterSweep s.batches) (n : Nat) :
    t.batch n = (s.batch n).afterSweep := by
  unfold State.batch
  split
  · rw [h]; exact mapVector_get _ _ _ _
  · exact unusedBatch_afterSweep.symm

/-- Step 3 of the sweep (R168). -/
theorem cleared_powerUpValues : Cleared s { s.powerUpValues with sweep := .idle } := by
  obtain ⟨ns, hns, honce⟩ := noticeSwept_touches s
  have he : ∀ n, State.entry { s.powerUpValues with sweep := .idle } n = (s.entry n).swept := fun n => entry_swept rfl n
  have hb : ∀ n, State.batch { s.powerUpValues with sweep := .idle } n = (s.batch n).afterSweep :=
    fun n => batch_afterSweep rfl n
  refine ⟨fun n => vector_replicate_job rfl n, fun p => liveOf_empty rfl p, rfl, rfl, fun l => deficit_zero rfl l, rfl, ?_,
    fun h n => by rw [he]; exact (h n).swept, fun h n => by rw [he]; exact (h n).swept,
    fun h n => by rw [hb]; exact (h n).afterSweep, fun _ _ n => by rw [hb]; exact afterSweep_fits _,
    fun _ _ n c => by rw [he]; exact Entry.held_swept _ _, fun _ n pos x hx => ?_, ?_, ?_⟩
  · unfold State.powerUpValues; rw [hns]; exact id
  · rw [hb] at hx; exact afterSweep_unreserved hx
  · unfold State.powerUpValues; rw [hns]; exact id
  · unfold State.powerUpValues; rw [hns]; exact honce

theorem swept_empty (h : s.keys = Vector.replicate 128 .empty) (n : Nat) : (s.entry n).swept = .empty := by
  rw [entry_emptied h rfl]; rfl

/-- The sweep of a lost store (R170). -/
theorem cleared_storeLossValues : Cleared s { s.storeLossValues.powerUpValues with sweep := .idle } := by
  have h := cleared_powerUpValues (s := s.storeLossValues)
  have hentry : ∀ n, s.storeLossValues.entry n = .empty := fun n => entry_emptied rfl rfl n
  have hbatch : ∀ n, s.storeLossValues.batch n = unusedBatch := fun n => batch_emptied rfl rfl n
  have hok : ∀ n, (s.storeLossValues.entry n).ok := fun n => by rw [hentry]; exact Entry.empty_ok
  have hag : s.storeLossValues.batchesAgree := fun n => by rw [hbatch]; exact unusedBatch_agrees
  exact ⟨h.jobs, h.live, h.engine, h.ceremony, h.deficits, h.waits,
    fun _ => h.modes ⟨by simp [State.storeLossValues, storedMode], by simp [State.storeLossValues]⟩, fun _ => h.keys hok,
    fun _ => h.uses fun n => by rw [hentry]; exact Entry.empty_usesFit, fun _ => h.agrees hag,
    fun _ _ => h.fits hag fun n => by rw [hbatch]; exact unusedBatch_fits, fun hw _ => h.unheld hw hok, h.unreserved,
    fun hq => h.queues hq, fun hn => h.notices hn⟩

theorem turns_measureBattery : Turns linked s s.measureBattery := by
  unfold State.measureBattery
  split
  · split
    · exact (Turn.outside .low s.batteryBelow s.markerGood s.tamperPins s.holdingLost s.heldTamper s.pending).turns.trans
        (moves_notice _ _).turns
    · exact .refl s
  · exact (Turn.outside .good s.batteryBelow s.markerGood s.tamperPins s.holdingLost s.heldTamper s.pending).turns

theorem turns_takeHeld (c : SweepCause) : Turns linked s (s.takeHeld c) := by
  have h : Turns linked s { s with heldTamper := [] } :=
    (Turn.outside s.battery s.batteryBelow s.markerGood s.tamperPins s.holdingLost [] s.pending).turns
  unfold State.takeHeld
  dsimp only
  split
  · exact h.trans (moves_takeInSomeOrder _ _).turns
  · exact h.trans (moves_takeTampers _).turns

/-- What follows step 3 of the sweep (R168). -/
theorem turns_finishSweep {u : State} (c : SweepCause) (h : Turns linked s { u.powerUpValues with sweep := .idle })
    (hlist : linked → s.jobsListed) : Turns linked s (u.finishSweep c) := by
  have h1 : Turns linked s (State.notice { u.powerUpValues with sweep := .idle } .restarted c.code) :=
    h.trans (moves_notice _ _).turns
  have h2 := h1.trans (turns_tryAll fun hl => h1.keeps_jobsListed (hlist hl))
  unfold State.finishSweep
  dsimp only
  generalize State.runTries true _ = v at h2 ⊢
  split
  · have h3 := h2.trans (moves_aside v.tries (v.choices + 1)).turns
    split
    · exact (h3.trans turns_measureBattery).trans (turns_takeHeld c)
    · exact (h3.trans (turns_takeHeld c)).trans turns_measureBattery
  · exact (h2.trans turns_measureBattery).trans (turns_takeHeld c)

theorem turns_runSweep (c : SweepCause) (hsweep : s.sweep ≠ .idle) (hlist : linked → s.jobsListed) :
    Turns linked s (s.runSweep c) := by
  have h1 : Turns linked s s.sweepStart :=
    (Turn.outside .good s.batteryBelow s.markerGood s.tamperPins s.holdingLost s.heldTamper s.pending).turns.trans
      (Turn.move (Move.notices [] fun _ => List.nodup_nil)).turns
  have hlist1 : linked → s.sweepStart.jobsListed := fun hl => h1.keeps_jobsListed (hlist hl)
  unfold State.runSweep
  dsimp only
  split
  · exact h1.trans (turns_finishSweep _ (Turn.cleared cleared_storeLossValues).turns hlist1)
  · split
    · have h2 : Turn linked s.sweepStart { s.sweepStart.startZeroisation with sweep := .clearing c } :=
        .phase .zeroising true (some 0) (.clearing c) s.mainPower s.resetHeld (idleWork_of_sweep hsweep)
          (fun _ => ⟨by simp [storedMode], fun _ => rfl⟩) (fun h => by cases h.2) id
      exact ((h1.trans h2.turns).trans Turn.suspend.turns).trans
        (Turn.clearCells fun hz => hz.2 (.inl rfl)).turns
    · exact h1.trans (turns_finishSweep _ (Turn.cleared cleared_powerUpValues).turns hlist1)

/-! ### The end of a zeroisation (R161, R163, R164) -/

theorem turns_afterZeroisation (hlist : linked → s.jobsListed) : Turns linked s s.afterZeroisation := by
  unfold State.afterZeroisation
  split
  · next c hc =>
    exact (Turn.phase (storedMode s.mode) s.zeroisePending s.zeroRun (.running c) s.mainPower s.resetHeld
      (idleWork_of_sweep (by rw [hc]; simp))
      (fun h => ⟨by rw [storedMode_storedMode]; exact h.1, fun hr => by
        have : s.mode = .zeroising := h.2 hr
        show storedMode s.mode = .zeroising
        rw [this]; rfl⟩)
      (fun h => by cases h.2) id).turns
  · exact turns_finishSweep _ (Turn.cleared cleared_powerUpValues).turns hlist
  · split
    · exact turns_tryAll hlist
    · exact .refl s

theorem moves_answerZeroiseAll {now : Bool} (m : PartMode) (n : Nat) : Moves linked now s (s.answerZeroiseAll m n) := by
  unfold State.answerZeroiseAll
  split
  · exact .refl s
  · exact (moves_respond _ _).trans (Move.aside _ _ _ _ _ _).moves

theorem turns_passReadBack (n : Nat) (hrun : s.zeroRun.isSome) (hlist : linked → s.jobsListed) :
    Turns linked s (s.passReadBack n) := by
  have h1 : Turns linked s { s with zeroisePending := false, mode := .lockout, zeroRun := none } :=
    (Turn.phase .lockout false none s.sweep s.mainPower s.resetHeld (idleWork_of_zeroRun hrun)
      (fun _ => ⟨by simp [storedMode], by simp⟩) id id).turns
  unfold State.passReadBack
  dsimp only
  split
  · have h2 := h1.trans ((moves_notice .zeroised 0).trans (moves_answerZeroiseAll .lockout n)).turns
    exact h2.trans (turns_afterZeroisation fun hl => h2.keeps_jobsListed (hlist hl))
  · exact h1.trans (turns_afterZeroisation fun hl => h1.keeps_jobsListed (hlist hl))

theorem turns_failZeroisation (n : Nat) (hrun : s.zeroRun.isSome) (hlist : linked → s.jobsListed) :
    Turns linked s (s.failZeroisation n) := by
  unfold State.failZeroisation
  dsimp only
  split
  · have h1 : Turns linked s { s with zeroRun := none, mode := .failed } :=
      (Turn.phase .failed s.zeroisePending none s.sweep s.mainPower s.resetHeld (idleWork_of_zeroRun hrun)
        (fun h => ⟨by
          have hmode : s.mode = .zeroising := h.2 hrun
          have := h.1
          rw [hmode] at this
          exact this, by simp⟩) id id).turns
    have h2 := h1.trans (moves_answerZeroiseAll .failed n).turns
    exact h2.trans (turns_afterZeroisation fun hl => h2.keeps_jobsListed (hlist hl))
  · have h1 : Turns linked s { s with zeroRun := none } :=
      (Turn.phase s.mode s.zeroisePending none s.sweep s.mainPower s.resetHeld (idleWork_of_zeroRun hrun)
        (fun h => ⟨h.1, by simp⟩) id id).turns
    exact h1.trans (turns_afterZeroisation fun hl => h1.keeps_jobsListed (hlist hl))

/-! ### Losses and returns of the supplies (R167 to R169) -/

theorem lost_fits (u : PortUnit) : u.lost.fits :=
  fits_of_requests (Nat.zero_le 8) (Nat.zero_le 16) (by simp [PortUnit.lost, freshUnit])

theorem cleared_volatile {power held : Bool} (hoff : (power && !held) = false) :
    Cleared s
      { s with
        mainPower := power, resetHeld := held, slots := Vector.replicate 16 none, live := ⟨[], [], [], [], []⟩, waitList := []
        seqs := Vector.replicate 15 0, engine := none, pointer := .l0, deficits := ⟨0, 0, 0, 0⟩, ceremony := none
        ports := ⟨s.ports.l0.lost, s.ports.l1.lost, s.ports.l2.lost, s.ports.l3.lost, s.ports.cp.lost⟩
        notices := [], battery := .good, zeroTag := none, mode := storedMode s.mode, sweep := .idle, heldTamper := [] } := by
  refine ⟨fun n => vector_replicate_job rfl n, fun p => liveOf_empty rfl p, rfl, rfl, fun l => deficit_zero rfl l, rfl,
    fun h => ⟨?_, fun hr => ?_⟩, fun h => h, fun h => h, fun h => h, fun _ h => h, fun h => ?_, fun h => ?_, fun _ p => ?_,
    fun _ => List.nodup_nil⟩
  · show storedMode (storedMode s.mode) = .zeroising ↔ _
    rw [storedMode_storedMode]; exact h.1
  · have : s.mode = .zeroising := h.2 hr
    show storedMode s.mode = .zeroising
    rw [this]; rfl
  · have : (power && !held) = true := h.1
    rw [hoff] at this; cases this
  · have : (power && !held) = true := h.1
    rw [hoff] at this; cases this
  · cases p with
    | cp => exact lost_fits _
    | line l => cases l <;> exact lost_fits _

theorem turns_loseVolatile {power held : Bool} (hoff : (power && !held) = false) : Turns linked s (s.loseVolatile power held) :=
  (Turn.cleared (cleared_volatile hoff)).turns.trans (moves_takeTampers _).turns

theorem beginSweep_sweep (s : State) (c : SweepCause) : (s.beginSweep c).sweep ≠ .idle := by
  unfold State.beginSweep
  dsimp only
  split <;> simp

/-! ### The commands -/

theorem turns_of_next {i : Instr} (h : exec i s = .next t) (hg : i ≠ .grantEnd) (hp : ∀ p, i ≠ .portReset p)
    (hlist : linked → s.jobsListed) : Turns linked s t := by
  cases i with
  | frameStart p bytes =>
    cases h
    exact (Moves.runTries ((moves_selectFalls p).trans (moves_clockBytes p bytes)) hlist).turns
  | frameEnd p bytes =>
    cases h
    have h1 : Moves linked true s ((s.clockBytes p bytes).selectRises p) := (moves_clockBytes p bytes).trans (moves_selectRises p)
    exact (h1.trans (moves_triesAtFrameEnd p fun hl => h1.keeps_jobsListed (hlist hl))).turns
  | fetchFrame p clocked ended => cases h; exact (Moves.runTries (moves_fetch p clocked ended) hlist).turns
  | frameTimeout p bytes => cases h; exact (Moves.runTries ((moves_clockBytes p bytes).trans (moves_timesOut p)) hlist).turns
  | unknownRequest => cases h; exact (moves_deliver _ _ _ _ _ hlist).turns
  | derive => cases h; exact (moves_deliver _ _ _ _ _ hlist).turns
  | spoil => cases h; exact (moves_deliver _ _ _ _ _ hlist).turns
  | streamOpen => cases h; exact (moves_deliver _ _ _ _ _ hlist).turns
  | streamChunk => cases h; exact (moves_deliver _ _ _ _ _ hlist).turns
  | streamClose => cases h; exact (moves_deliver _ _ _ _ _ hlist).turns
  | cancel => cases h; exact (moves_deliver _ _ _ _ _ hlist).turns
  | setAttn => cases h; exact (moves_deliver _ _ _ _ _ hlist).turns
  | queryBatch => cases h; exact (moves_deliver _ _ _ _ _ hlist).turns
  | createKeyEntry => cases h; exact (moves_deliver _ _ _ _ _ hlist).turns
  | removeEntry => cases h; exact (moves_deliver _ _ _ _ _ hlist).turns
  | swapCell => cases h; exact (moves_deliver _ _ _ _ _ hlist).turns
  | discardCell => cases h; exact (moves_deliver _ _ _ _ _ hlist).turns
  | readEntry => cases h; exact (moves_deliver _ _ _ _ _ hlist).turns
  | createGate => cases h; exact (moves_deliver _ _ _ _ _ hlist).turns
  | bindPort => cases h; exact (moves_deliver _ _ _ _ _ hlist).turns
  | beginCeremony => cases h; exact (moves_deliver _ _ _ _ _ hlist).turns
  | component => cases h; exact (moves_deliver _ _ _ _ _ hlist).turns
  | abandonCeremony => cases h; exact (moves_deliver _ _ _ _ _ hlist).turns
  | openBatch => cases h; exact (moves_deliver _ _ _ _ _ hlist).turns
  | pauseBatch => cases h; exact (moves_deliver _ _ _ _ _ hlist).turns
  | resumeBatch => cases h; exact (moves_deliver _ _ _ _ _ hlist).turns
  | closeBatch => cases h; exact (moves_deliver _ _ _ _ _ hlist).turns
  | readMap => cases h; exact (moves_deliver _ _ _ _ _ hlist).turns
  | zeroiseAll => cases h; exact (moves_deliver _ _ _ _ _ hlist).turns
  | clearLockout => cases h; exact (moves_deliver _ _ _ _ _ hlist).turns
  | status => cases h; exact (moves_deliver _ _ _ _ _ hlist).turns
  | grantEnd => exact absurd rfl hg
  | streamIdleExpiry slot => cases h; exact (Moves.runTries (moves_expireIdle slot) hlist).turns
  | portReset p => exact absurd rfl (hp p)
  | portResetRelease p => cases h; exact (moves_setPort (u := { s.port p with resetIn := false }) fun hu => hu).turns
  | tamperEvent l =>
    cases h
    split
    · exact .refl s
    · have h1 : Turns linked s { s with tamperPins := s.tamperPins.set l true } :=
        (Turn.outside s.battery s.batteryBelow s.markerGood _ s.holdingLost s.heldTamper s.pending).turns
      dsimp only
      split
      · unfold State.holdOrTakeTamper
        split
        · exact h1.trans (Turn.outside _ _ _ _ _ _ _).turns
        · exact h1.trans (Turn.outside _ _ _ _ _ _ _).turns
        · exact h1.trans (moves_takeTamper l).turns
      · exact h1
  | readBackAttemptEnd passed =>
    cases h
    split
    · exact .refl s
    · next made hmade =>
      have hrun : s.zeroRun.isSome := by rw [hmade]; rfl
      split
      · exact turns_passReadBack _ hrun hlist
      · split
        · exact (Turn.clearCells (idleWork_of_zeroRun hrun)).turns.trans
            (Turn.phase (s := s.clearCells) s.mode s.zeroisePending (some (made + 1)) s.sweep s.mainPower s.resetHeld
              (idleWork_of_zeroRun hrun) (fun h => ⟨h.1, fun _ => h.2 hrun⟩) id id).turns
        · exact turns_failZeroisation _ hrun hlist
  | batteryStateChange low =>
    cases h
    have h1 : Turns linked s { s with batteryBelow := low, holdingLost := s.holdingLost && low } :=
      (Turn.outside s.battery low s.markerGood s.tamperPins _ s.heldTamper s.pending).turns
    split
    · exact h1.trans turns_measureBattery
    · exact h1
  | storeHoldingLost =>
    cases h
    split
    · exact .refl s
    · next hoff =>
      have hpower : s.mainPower = false := by
        simp only [Bool.or_eq_true, not_or, Bool.not_eq_true] at hoff
        exact hoff.1
      exact ((Turn.emptied (lostMode s.choices) (alive_of_not_mainPower hpower) (storedMode_lostMode _)).turns.trans
        (Turn.move (Move.aside _ _ _ _ _ _)).turns).trans (Turn.outside _ _ _ _ _ _ _).turns
  | mainPowerLoss =>
    cases h
    split
    · exact turns_loseVolatile rfl
    · exact .refl s
  | mainPowerOn =>
    cases h
    split
    · exact .refl s
    · next hpower =>
      have hoff : s.alive = false := alive_of_not_mainPower (by simpa using hpower)
      have h1 : Turns linked s { s with holdingLost := false } :=
        (Turn.outside s.battery s.batteryBelow s.markerGood s.tamperPins false s.heldTamper s.pending).turns
      dsimp only
      split
      · next hheld =>
        exact h1.trans (Turn.phase (s := { s with holdingLost := false })
          s.mode s.zeroisePending s.zeroRun s.sweep true s.resetHeld
          (idleWork_of_off hoff) id (fun hw => by have h2 := hw.1; simp [State.alive, hheld] at h2) fun _ => hoff).turns
      · exact h1.trans (Turn.phase (s := { s with holdingLost := false }) s.mode s.zeroisePending s.zeroRun _ true s.resetHeld
          (idleWork_of_off hoff) id (fun hw => absurd hw.2 (beginSweep_sweep s .power)) fun _ => hoff).turns
  | mainReset =>
    cases h
    split
    · exact .refl s
    · split
      · exact turns_loseVolatile rfl
      · next hpower =>
        have hpower : s.mainPower = false := by simpa using hpower
        have hoff := alive_of_not_mainPower hpower
        exact (Turn.phase s.mode s.zeroisePending s.zeroRun s.sweep s.mainPower true (idleWork_of_off hoff) id
          (fun hw => by have h2 := hw.1; simp [State.alive] at h2) fun _ => hoff).turns
  | mainResetRelease =>
    cases h
    split
    · next hheld =>
      have hoff := alive_of_resetHeld hheld
      dsimp only
      split
      · exact (Turn.phase s.mode s.zeroisePending s.zeroRun _ s.mainPower false (idleWork_of_off hoff) id
          (fun hw => absurd hw.2 (beginSweep_sweep s .resetLine)) fun _ => hoff).turns
      · next hpower =>
        exact (Turn.phase s.mode s.zeroisePending s.zeroRun s.sweep s.mainPower false (idleWork_of_off hoff) id
          (fun hw => by have h2 := hw.1; simp [State.alive, hpower] at h2) fun _ => hoff).turns
    · exact .refl s
  | powerUpSweep =>
    cases h
    split
    · next c hc => exact turns_runSweep c (by rw [hc]; simp) hlist
    · exact .refl s
  | tamperLineInactive l =>
    cases h
    exact (Turn.outside s.battery s.batteryBelow s.markerGood _ s.holdingLost s.heldTamper s.pending).turns

end Sys2Proof.Machine
end

/-! SUPPORT. GRANT_END (R106) is a run of moves at the end of which no job is IN_GRANT, and then a decision of the arbiter. -/

section
namespace Sys2Proof.Machine

variable {linked : Prop} {s t u : State}

/-! ### Which jobs are IN_GRANT -/

/-- Every job IN_GRANT is in one of these slots. -/
def State.grantedIn (S : Nat → Prop) (s : State) : Prop := ∀ n j, s.job n = some j → j.state = .inGrant → S n

theorem grantedIn_congr {S : Nat → Prop} (h1 : t.slots = s.slots) (h : s.grantedIn S) : t.grantedIn S := fun n j hj =>
  h n j (by rwa [job_congr h1] at hj)

theorem State.grantedIn.mono {S S' : Nat → Prop} (h : s.grantedIn S) (hS : ∀ n, S n → S' n) : s.grantedIn S' :=
  fun n j hj hg => hS n (h n j hj hg)

/-- A change of one slot that leaves no job IN_GRANT there takes it out of the slots that may have one. -/
theorem grantedIn_setJob {S S' : Nat → Prop} {slot : Nat} {o : Option Job} (ho : ∀ j, o = some j → j.state = .inGrant → S' slot)
    (hS : ∀ n, n ≠ slot → S n → S' n) (h : s.grantedIn S) : (s.setJob slot o).grantedIn S' := by
  intro n x hx hg
  rcases setJob_some hx with ⟨rfl, hx⟩ | ⟨hn, hx⟩
  · exact ho x ‹o = some x› hg
  · exact hS n hn (h n x ‹s.job n = some x› hg)

/-- Where the arbiter does not decide, no other job becomes IN_GRANT. -/
theorem Move.keeps_grantedIn {S : Nat → Prop} (hm : Move linked false s t) (h : s.grantedIn S) : t.grantedIn S := by
  have congr : ∀ {v : State}, v.grantedIn S → t.slots = v.slots → t.grantedIn S := fun hv h1 => grantedIn_congr h1 hv
  have hjm := hm.jobMove
  generalize hsl : t.slots = sl at congr hjm
  generalize t.live = li at hjm
  cases hjm with
  | same => exact congr h rfl
  | placed slot j hn =>
    exact congr (v := s.setJob slot (some j))
      (grantedIn_setJob (fun x hx hg => absurd (by cases hx; exact hg) hn.notGranted) (fun _ _ hS => hS) h) rfl
  | changed slot j j' hj hf =>
    exact congr (v := s.setJob slot (some j'))
      (grantedIn_setJob (fun x hx hg => h slot j hj (hf.grant (by cases hx; exact hg))) (fun _ _ hS => hS) h) rfl
  | freed slot j hj =>
    exact congr (v := s.setJob slot none) (grantedIn_setJob (fun x hx => by cases hx) (fun _ _ hS => hS) h) rfl
  | granted hn => exact absurd hn (by decide)
  | gone =>
    refine congr (v := s.startZeroisation.tamperJobs) (fun n j hj => ?_) rfl
    rw [tamperJobs_job] at hj; cases hj

theorem Moves.keeps_grantedIn {S : Nat → Prop} (h : Moves linked false s t) (hs : s.grantedIn S) : t.grantedIn S :=
  h.keeps (fun hm => hm.keeps_grantedIn) hs

/-- The end of a job takes its slot out of those that may have one IN_GRANT. -/
theorem endJob_grantedIn {S S' : Nat → Prop} {e : EndPlan} {slot : Nat} (hnow : e.now = false) (hS : ∀ n, n ≠ slot → S n → S' n)
    (h : s.grantedIn S) : (s.endJob e slot).grantedIn S' := by
  cases hj : s.job slot with
  | none =>
    rw [endJob_free e slot s hj]
    exact fun n j hn hg => hS n (by rintro rfl; rw [hj] at hn; cases hn) (h n j hn hg)
  | some j =>
    have hends : ((s.settleJob e.commits e.loud e.answers j).freeSlot slot j.owner).grantedIn S' := fun n x hx hg => by
      obtain ⟨hn, hx⟩ := freeSlot_some hx
      rw [settleJob_job] at hx
      exact hS n hn (h n x hx hg)
    rw [endJob_live e slot s j hj]
    dsimp only
    split
    · rw [hnow]
      exact (moves_afterFree (linked := False) slot j.owner).keeps_grantedIn hends
    · exact hends

/-! ### The job of the grant moves on (R106 steps 1 and 2) -/

/-- A move without a decision of the arbiter is one where it may decide. -/
theorem Move.mono (h : Move linked false s t) : Move linked true s t := by
  cases h with
  | aside => exact .aside _ _ _ _ _ _
  | port p u h => exact .port p u h
  | waits ws h => exact .waits ws h
  | notices ns h => exact .notices ns h
  | bind l b => exact .bind l b
  | unlock h => exact .unlock h
  | entry n e h => exact .entry n e h
  | beginCeremony cer ha hc hr hf => exact .beginCeremony cer ha hc hr hf
  | closeCeremony h => exact .closeCeremony h
  | batch n b h => exact .batch n b h
  | derive l tag b pos prior keys mk tk slot ha hb hp hm ht hs =>
    exact .derive l tag b pos prior keys mk tk slot ha hb hp hm ht hs
  | stream l tag seq sk dk ivIn ivOut n limit slot ha hm ht hs =>
    exact .stream l tag seq sk dk ivIn ivOut n limit slot ha hm ht hs
  | custody tag cer custodian value ha hs => exact .custody tag cer custodian value ha hs
  | job slot j j' hj hf hl => exact .job slot j j' hj hf hl
  | ends slot j commits loud answers hj hl => exact .ends slot j commits loud answers hj hl
  | arbitrate hn => exact absurd hn (by decide)
  | zeroise => exact .zeroise
  | join hl cer cer' hc hs hx => exact .join hl cer cer' hc hs hx
  | combine hl cer x hc hx hr h0 => exact .combine hl cer x hc hx hr h0
  | freeEngine hl => exact .freeEngine hl

theorem Moves.turns_of_waiting (h : Moves linked false s t) : Turns linked s t :=
  h.keeps (I := Turns linked s) (fun hm hs => hs.trans (Turn.move hm.mono).turns) (.refl s)

/-- A run of turns that keeps the supplies and, where `P` holds of the state it starts from, moves the job of this slot out of its
grant. -/
structure Leaves (P : Prop) (slot : Nat) (s t : State) : Prop where
  turns : Turns False s t
  alive : t.alive = s.alive
  done : P → s.grantedIn (· = slot) → t.grantedIn fun _ => False

variable {P : Prop} {slot : Nat}

theorem Leaves.of_moves (h : Moves False false s t) (hd : P → s.grantedIn (· = slot) → t.grantedIn fun _ => False) :
    Leaves P slot s t := ⟨h.turns_of_waiting, h.alive, hd⟩

theorem Leaves.before (h1 : Moves False false s t) (h2 : Leaves P slot t u) : Leaves P slot s u :=
  ⟨h1.turns_of_waiting.trans h2.turns, h2.alive.trans h1.alive, fun hP h => h2.done hP (h1.keeps_grantedIn h)⟩

theorem Leaves.after (h1 : Leaves P slot s t) (h2 : Moves False false t u) : Leaves P slot s u :=
  ⟨h1.turns.trans h2.turns_of_waiting, h2.alive.trans h1.alive, fun hP h => h2.keeps_grantedIn (h1.done hP h)⟩

theorem leaves_endJob {e : EndPlan} {n : Nat} (hnow : e.now = false) (hn : P → n = slot) : Leaves P slot s (s.endJob e n) :=
  .of_moves (moves_endJob hnow False.elim)
    fun hP h => endJob_grantedIn hnow (fun _ hm h' => hm (h'.trans (hn hP).symm)) h

theorem notGranted_setJob {n : Nat} {j : Job} (hst : j.state ≠ .inGrant) (hn : n = slot) (h : s.grantedIn (· = slot)) :
    (s.setJob n (some j)).grantedIn fun _ => False :=
  grantedIn_setJob (fun _ hx hg => hst (by cases hx; exact hg)) (fun _ hm h' => hm (h'.trans hn.symm)) h

theorem leaves_setJob {j j' : Job} (hj : s.job slot = some j) (hf : j.Follows j') (hst : j'.state ≠ .inGrant) :
    Leaves P slot s (s.setJob slot (some j')) :=
  .of_moves (Move.job slot j j' hj hf False.elim).moves fun _ h => notGranted_setJob hst rfl h

theorem JobCtx.Follows.trans {a b c : JobCtx} (h1 : a.Follows b) (h2 : b.Follows c) : a.Follows c := by
  cases a <;> cases b <;> simp only [JobCtx.Follows] at h1
  · cases c <;> simp only [JobCtx.Follows] at h2 ⊢
    obtain ⟨hb, hp, hr⟩ := h1
    obtain ⟨hb', hp', hr'⟩ := h2
    exact ⟨hb'.trans hb, hp'.trans hp, hr'.trans hr⟩
  · cases c <;> simp only [JobCtx.Follows] at h2 ⊢
    exact fun h => h2 (h1 h)
  · cases c <;> simp only [JobCtx.Follows] at h2 ⊢

theorem Job.Follows.refl (j : Job) : j.Follows j := ⟨rfl, rfl, JobCtx.Follows.refl j.ctx, id, id⟩

theorem Job.Follows.trans {a b c : Job} (h1 : a.Follows b) (h2 : b.Follows c) : a.Follows c :=
  ⟨h2.owner.trans h1.owner, h2.captured.trans h1.captured, h1.ctx.trans h2.ctx, fun h => h2.idle (h1.idle h),
    fun h => h1.grant (h2.grant h)⟩

/-- A pass of a stream counts in its chunk alone. -/
theorem recordStream_fields (c : StreamCtx) (ch : Chunk) (res : Block) :
    (recordStream c ch res).done = c.done ∧ (recordStream c ch res).declared = c.declared ∧
      (recordStream c ch res).staged = c.staged ∧
      ∃ ch', (recordStream c ch res).inService = some ch' ∧ ch'.blocks = ch.blocks := by
  unfold recordStream
  split <;> exact ⟨rfl, rfl, rfl, _, rfl, rfl⟩

theorem record_follows (s : State) (j : Job) (res : Block) : j.Follows (s.record j res) := by
  unfold State.record
  split
  · next c hc =>
    refine ⟨rfl, rfl, ?_, (fun _ d hd => by cases hd), id⟩
    rw [hc]
    exact ⟨rfl, rfl, rfl⟩
  · next c hc =>
    split
    · next ch hch =>
      obtain ⟨hdone, hdecl, hstaged, ch', hserv, hblocks⟩ := recordStream_fields c ch res
      refine ⟨rfl, rfl, ?_, fun hi d hd => ?_, id⟩
      · rw [hc]
        intro hacc
        unfold StreamCtx.accepted at hacc ⊢
        rw [hch] at hacc
        rw [hdone, hdecl, hstaged, hserv]
        simpa [hblocks] using hacc
      · cases hd
        have hst := hi c hc
        rw [hch] at hst
        simpa [hserv] using hst
    · exact .refl j
  · exact .refl j

theorem record_state (s : State) (j : Job) (res : Block) : (s.record j res).state = j.state := by
  unfold State.record
  split
  · rfl
  · split <;> rfl
  · rfl

theorem recordAll_state (s : State) (j : Job) (held : List Block) : (s.recordAll j held).state = j.state := by
  induction held generalizing j with
  | nil => rfl
  | cons res held ih => rw [recordAll_cons, ih, record_state]

theorem recordAll_follows (s : State) (j : Job) (held : List Block) : j.Follows (s.recordAll j held) := by
  induction held generalizing j with
  | nil => exact .refl j
  | cons res held ih =>
    rw [recordAll_cons]
    exact (record_follows s j res).trans (ih _)

/-- A DERIVE or CUSTODY job has no idle period. -/
theorem idleFits_of_not_stream {j : Job} (h : ∀ c, j.ctx ≠ .stream c) : j.idleFits := fun c hc => absurd hc (h c)

theorem leaves_moveDerive {j j' : Job} {c : DeriveCtx} (hj : s.job slot = some j) (hf : j.Follows j')
    (hc : j'.ctx = .derive c) : Leaves P slot s (s.moveDerive slot j' c) := by
  unfold State.moveDerive
  split
  · exact (leaves_endJob rfl fun _ => rfl).before (Move.job slot j j' hj hf False.elim).moves
  · exact leaves_setJob hj
      ⟨hf.owner, hf.captured, hf.ctx, fun _ => idleFits_of_not_stream (by simp [hc]), by simp⟩
      (by simp)

/-- The next chunk or idle period of a stream counts the chunk that ended (R134). -/
theorem nextChunk_follows {j : Job} {c : StreamCtx} {ch : Chunk} (limit : Nat) (hc : j.ctx = .stream c)
    (hch : c.inService = some ch) :
    j.Follows (nextChunk limit j { c with done := c.done + ch.blocks.length }) ∧
      (nextChunk limit j { c with done := c.done + ch.blocks.length }).state ≠ .inGrant := by
  have hacc : c.accepted = c.done + ch.blocks.length + (c.staged.map fun ch => ch.blocks.length).getD 0 := by
    simp [StreamCtx.accepted, hch]
  unfold nextChunk
  dsimp only
  cases hs : c.staged with
  | some next =>
    rw [hs] at hacc
    refine ⟨⟨rfl, rfl, ?_, (fun _ d hd => by cases hd; simp), by simp⟩, by simp⟩
    rw [hc]
    intro h
    rw [hacc] at h
    simpa [StreamCtx.accepted] using h
  | none =>
    rw [hs] at hacc
    refine ⟨⟨rfl, rfl, ?_, (fun _ d hd => by cases hd; simp), by simp⟩, by simp⟩
    rw [hc]
    intro h
    rw [hacc] at h
    simpa [StreamCtx.accepted, hs] using h

theorem idleLimitOf_respond (s : State) (p q : Port) (r : Response) : (s.respond p r).idleLimitOf q = s.idleLimitOf q := by
  unfold State.respond
  dsimp only
  split <;> rfl

theorem leaves_endChunk {j : Job} {c : StreamCtx} {ch : Chunk} (hj : s.job slot = some j) (hc : j.ctx = .stream c)
    (hch : c.inService = some ch) : Leaves P slot s (s.endChunk slot j c ch) := by
  unfold State.endChunk
  dsimp only
  split
  · exact leaves_endJob rfl fun _ => rfl
  · have hset : ∀ r, Leaves P slot s ((s.respond j.owner r).setJob slot
        (some (nextChunk ((s.respond j.owner r).idleLimitOf j.owner) j { c with done := c.done + ch.blocks.length }))) := fun r =>
      have hnext := nextChunk_follows ((s.respond j.owner r).idleLimitOf j.owner) hc hch
      (leaves_setJob (by rw [respond_job]; exact hj) hnext.1 hnext.2).before (moves_respond _ r)
    simp only [idleLimitOf_respond] at hset
    split
    · exact (hset _).after (moves_addTryIf _ _)
    · exact hset _

theorem leaves_moveStream {j j' : Job} {c : StreamCtx} (hj : s.job slot = some j) (hf : j.Follows j') (hc : j'.ctx = .stream c)
    (hP : P → c.inService ≠ none) : Leaves P slot s (s.moveStream slot j' c) := by
  unfold State.moveStream
  split
  · next ch hch =>
    split
    · exact (leaves_endChunk (setJob_live hj _) hc hch).before (Move.job slot j j' hj hf False.elim).moves
    · refine leaves_setJob hj ⟨hf.owner, hf.captured, hf.ctx, fun _ d hd => ?_, by simp⟩ (by simp)
      have : JobCtx.stream c = .stream d := hc.symm.trans hd
      cases this
      simp [hch]
  · next hnone => exact .of_moves (.refl s) fun h => absurd hnone (hP h)

theorem leaves_endCancelledCustody {j : Job} {c : CustodyCtx} (hP : P → Config.custodySlot = slot) :
    Leaves P slot s (s.endCancelledCustody j c) := by
  have hend : ∀ e : EndPlan, e.now = false → Leaves P slot s (s.endJob e Config.custodySlot) := fun e he => leaves_endJob he hP
  have hclose : ∀ v : State, Moves False false v v.closeCeremony := fun v => (Move.closeCeremony False.elim).moves
  unfold State.endCancelledCustody
  dsimp only
  split
  · exact ((hend _ rfl).after (hclose _)).after (moves_respond _ _)
  · split
    · exact (hend _ rfl).after (hclose _)
    · exact hend _ rfl

theorem targetCell_fits (cer : Ceremony) (combined : Check) :
    (cer.targetCell combined).ok ∧ ((cer.targetCell combined).state = .ready ∨ (cer.targetCell combined).state = .blank) ∧
      (cer.targetCell combined).inFlight = 0 := by
  unfold Ceremony.targetCell
  split
  · exact ⟨⟨rfl, rfl, rfl⟩, .inl rfl, rfl⟩
  · exact ⟨blankCell_ok, .inr rfl, rfl⟩

/-- The CUSTODY job becomes due for its combination pass (R49). -/
theorem leaves_combining {j j' : Job} {c : CustodyCtx} (hj : s.job slot = some j) (hf : j.Follows j') (hc : j'.ctx = .custody c)
    (hP : P → Config.custodySlot = slot) (hlist : s.jobsListed → Config.custodySlot = slot) (hwork : s.engine ≠ none) :
    Leaves P slot s
      (s.setJob Config.custodySlot (some { j' with state := .waiting, ctx := .custody { c with due := .combination } })) := by
  by_cases hslot : Config.custodySlot = slot
  · rw [hslot]
    refine leaves_setJob hj ⟨hf.owner, hf.captured, ?_, fun _ => idleFits_of_not_stream (by simp), by simp⟩ (by simp)
    have := hf.ctx
    rw [hc] at this
    exact this.trans (b := .custody c) trivial
  · exact ⟨(Turn.stray id _ _ (fun hl => hslot (hlist hl)) hwork ⟨_, rfl⟩).turns, rfl, fun hp => absurd (hP hp) hslot⟩

theorem leaves_moveCustody {j j' : Job} {c : CustodyCtx} {res : Block} (hj : s.job slot = some j) (hf : j.Follows j')
    (hc : j'.ctx = .custody c) (hP : P → Config.custodySlot = slot) (hlist : s.jobsListed → Config.custodySlot = slot)
    (hwork : s.engine ≠ none) : Leaves P slot s (s.moveCustody j' c res) := by
  unfold State.moveCustody
  split
  · exact leaves_endCancelledCustody hP
  · next cer hcer =>
    split
    · unfold State.endComponentPass
      dsimp only
      have hjoin : ∀ cer' : Ceremony, cer'.slot = cer.slot → cer'.cell = cer.cell → Moves False false s (s.setCeremony cer') :=
        fun cer' h1 h2 => (Move.join id cer cer' hcer h1 h2).moves
      split
      · exact (leaves_endJob rfl hP).before (hjoin (cer.join _ _ _) rfl rfl)
      · have hcomb := hjoin { cer.join c.custodian (firstThree res) c.value with combining := true } rfl rfl
        exact Leaves.before hcomb
          (leaves_combining (j := j) hj hf hc hP (fun hl => hlist (jobsListed_congr (t := s) rfl rfl hl)) hwork)
    · unfold State.endCombinationPass
      dsimp only
      obtain ⟨hok, hst, h0⟩ := targetCell_fits cer (firstThree res)
      exact (leaves_endJob rfl hP).before (Move.combine id cer _ hcer hok hst h0).moves

theorem leaves_endCancelled {j : Job} (hP : P → ∀ c, j.ctx = .custody c → Config.custodySlot = slot) :
    Leaves P slot s (s.endCancelled slot j) := by
  unfold State.endCancelled
  split
  · exact leaves_endJob rfl fun _ => rfl
  · split
    · exact leaves_endJob rfl fun _ => rfl
    · exact leaves_endJob rfl fun _ => rfl
  · next c hc => exact leaves_endCancelledCustody fun hp => hP hp c hc

/-- The job of a grant that ends moves on (R106). -/
theorem leaves_moveJob {j : Job} {g : Grant} (hg : s.engine = some g) (hj : s.job g.slot = some j) :
    Leaves s.grantAgrees g.slot s (s.moveJob j g) := by
  have hwork : s.engine ≠ none := by simp [hg]
  have hcustody : s.jobsListed → ∀ c, j.ctx = .custody c → Config.custodySlot = g.slot := fun hl c hc =>
    (((hl.2.2.1 g.slot j hj).2).1 ⟨c, hc⟩).symm
  unfold State.moveJob
  split
  · exact leaves_endCancelled fun hP => hcustody (grantAgrees_iff.1 hP).1.listed
  · dsimp only
    have hf := recordAll_follows s j (s.grantResults j g)
    split
    · next c hc => exact leaves_moveDerive hj hf hc
    · next c hc =>
      refine leaves_moveStream hj hf hc fun hP hnone => ?_
      obtain ⟨hjobs, hl⟩ := grantAgrees_iff.1 hP
      have hidle := hf.idle (hjobs.idle _ _ hj) c hc
      rw [recordAll_state, (hl.granted _ j hj).2 ⟨g, hg, rfl⟩, hnone] at hidle
      simp at hidle
    · next c hc =>
      have hc' : ∃ d, j.ctx = .custody d := (hf.ctx.custody_iff).1 ⟨c, hc⟩
      obtain ⟨d, hd⟩ := hc'
      exact leaves_moveCustody hj hf hc (fun hP => hcustody (grantAgrees_iff.1 hP).1.listed d hd)
        (fun hl => hcustody hl d hd) hwork

/-! ### The grant end (R106) -/

/-- An event that ends or abandons the grant in progress and then lets the arbiter decide (R106, R112). -/
structure Freed (s t : State) : Prop where
  busy : s.engine ≠ none
  turns : Turns False s t
  alive : t.alive = s.alive
  free : t.engine = none
  idle : s.grantAgrees → t.allJobs fun j => j.state ≠ .inGrant

theorem freed_endGrant {g : Grant} (hg : s.engine = some g) : ∃ u, Freed s u ∧ s.endGrant = u.arbitrate := by
  have hwork : s.engine ≠ none := by simp [hg]
  have hin : s.linkAgrees → s.grantedIn (· = g.slot) := fun hl n j hj hst => by
    obtain ⟨g', hg', hn⟩ := (hl.granted n j hj).1 hst
    rw [hg] at hg'
    cases hg'
    exact hn.symm
  have hfree : ∀ {v : State}, Moves False false v { v with engine := none } := fun {v} => (Move.freeEngine id).moves
  unfold State.endGrant
  rw [hg]
  dsimp only
  cases hj : s.job g.slot with
  | none =>
    refine ⟨_, ⟨hwork, hfree.turns_of_waiting, rfl, rfl, fun h n j hn hst => ?_⟩, rfl⟩
    have := hin (grantAgrees_iff.1 h).2 n j hn hst
    rw [this] at hn
    have hn : s.job g.slot = some j := hn
    rw [hj] at hn; cases hn
  | some j =>
    have hmove := ((leaves_moveJob hg hj).after (moves_runTries False.elim)).after hfree
    exact ⟨_, ⟨hwork, hmove.turns, hmove.alive, rfl, fun h n x hx hst =>
      hmove.done h (hin (grantAgrees_iff.1 h).2) n x hx hst⟩, rfl⟩

end Sys2Proof.Machine
end

/-! SUPPORT. PORT_RESET (R154) is a run of turns, with a decision of the arbiter behind it where the port's grant was
abandoned. -/

section
namespace Sys2Proof.Machine

variable {linked : Prop} {now : Bool} {s t u : State}

/-! ### What an offer leaves of the IDLE streams -/

/-- Every job that is IDLE stays as it is in its slot. -/
def State.keepsIdle (s t : State) : Prop := ∀ n j, s.job n = some j → j.state = .idle → t.job n = some j

theorem State.keepsIdle.trans (h1 : s.keepsIdle t) (h2 : t.keepsIdle u) : s.keepsIdle u := fun n j hj hs =>
  h2 n j (h1 n j hj hs) hs

theorem keepsIdle_of_job (h : ∀ n, t.job n = s.job n) : s.keepsIdle t := fun n _ hj _ => (h n).trans hj

theorem keepsIdle_arbitrateIf : s.keepsIdle (s.arbitrateIf now) := by
  cases now with
  | false => exact keepsIdle_of_job fun _ => rfl
  | true =>
    show s.keepsIdle s.arbitrate
    rcases arbitrate_grants s with ⟨p, d, ht⟩ | ⟨slot, j, p, d, _, hj, hw, ht⟩
    · rw [ht]; exact keepsIdle_of_job fun _ => rfl
    · rw [ht]
      intro n x hx hidle
      refine (State.job_setJob_ne s _ ?_).trans hx
      rintro rfl
      rw [hj] at hx
      cases hx
      rw [hw] at hidle; cases hidle

theorem keepsIdle_placeJob {slot : Nat} {j : Job} (hfree : s.job slot = none) : s.keepsIdle (s.placeJob slot j) := by
  intro n x hx _
  show (s.setJob slot (some j)).job n = some x
  rw [State.job_setJob_ne s _ (by rintro rfl; rw [hfree] at hx; cases hx), hx]

/-- The rule accepts with every IDLE stream as it was. -/
def Verdict.keepsIdle (s : State) (v : Verdict) : Prop := ∀ t, v = .accept t → s.keepsIdle t

theorem captures_job (s : State) (x y : Nat × CellId) (n : Nat) : ((s.capture x.1 x.2).capture y.1 y.2).job n = s.job n := by
  obtain ⟨k, h⟩ := captures_touch s x y
  rw [h]; rfl

theorem keepsIdle_admitDerive (p : Port) (r : Request) : Verdict.keepsIdle s (admitDerive now p r s) := by
  unfold admitDerive
  split
  · dsimp only
    split
    · exact fun _ h => by cases h
    · split
      · exact fun _ h => by cases h
      · split
        · exact fun _ h => by cases h
        · split
          · exact fun _ h => by cases h
          · split
            · exact fun _ h => by cases h
            · next slot hslot =>
              intro t ht
              cases ht
              obtain ⟨_, hfree, _⟩ := lineSlotFor_ok hslot
              unfold State.startDerive
              dsimp only
              refine State.keepsIdle.trans ?_ keepsIdle_arbitrateIf
              refine State.keepsIdle.trans (keepsIdle_of_job fun n => ?_) (keepsIdle_placeJob ?_)
              · rw [captures_job]
                exact (job_congr rfl n).trans (job_beginAdmission s _ n)
              · rw [captures_job]
                exact (job_congr rfl slot).trans ((job_beginAdmission s _ slot).trans hfree)
  · exact fun _ h => by cases h

theorem keepsIdle_admitStreamOpen (p : Port) (r : Request) : Verdict.keepsIdle s (admitStreamOpen p r s) := by
  unfold admitStreamOpen
  split
  · exact fun _ h => by cases h
  · dsimp only
    split
    · exact fun _ h => by cases h
    · split
      · exact fun _ h => by cases h
      · split
        · exact fun _ h => by cases h
        · split
          · exact fun _ h => by cases h
          · next l _ _ _ _ slot hslot =>
            intro t ht
            cases ht
            obtain ⟨_, hfree, _⟩ := lineSlotFor_ok hslot
            unfold State.startStream
            dsimp only
            refine State.keepsIdle.trans ?_ (keepsIdle_of_job fun n => respond_job _ _ _ n)
            refine State.keepsIdle.trans (keepsIdle_of_job fun n => ?_) (keepsIdle_placeJob ?_)
            · exact (job_congr rfl n).trans ((captures_job _ _ _ n).trans (job_beginAdmission s _ n))
            · exact (job_congr rfl slot).trans ((captures_job _ _ _ slot).trans ((job_beginAdmission s _ slot).trans hfree))

theorem job_leaveWaitList (s : State) (p : Port) (n : Nat) : (s.leaveWaitList p).job n = s.job n := by cases p <;> rfl

theorem job_joinWaitList (s : State) (p : Port) (n : Nat) : (s.joinWaitList p).job n = s.job n := by cases p <;> rfl

theorem job_headWaits (s : State) (p : Port) (r : Request) (w : HeadWait) (n : Nat) : (s.headWaits p r w).job n = s.job n := by
  unfold State.headWaits
  dsimp only
  split_ifs
  · rfl
  · exact job_joinWaitList _ _ _
  · rfl
  · exact job_leaveWaitList _ _ _

theorem keepsIdle_tryWith {own : Port → Request → State → Verdict} {p : Port} (hown : ∀ r, Verdict.keepsIdle s (own p r s)) :
    s.keepsIdle (s.tryWith own p).2 := by
  rcases tryWith_cases own p s with ⟨_, h⟩ | ⟨r, rest, _, ⟨w, h⟩ | ⟨_, _, ⟨x, h⟩ | ⟨t, ht, _, h⟩⟩⟩
  · rw [h]; exact keepsIdle_of_job fun _ => rfl
  · rw [h]; exact keepsIdle_of_job (job_headWaits s p r w)
  · rw [h]
    exact keepsIdle_of_job fun n => (respond_job _ _ _ n).trans (job_beginAdmission s p n)
  · rw [h]; exact (hown r t ht).trans (keepsIdle_of_job fun _ => rfl)

theorem keepsIdle_offer (ls : List LinePort) : s.keepsIdle (State.offer now ls s) := by
  induction ls generalizing s with
  | nil => exact keepsIdle_of_job fun _ => rfl
  | cons l ls ih =>
    have htry : s.keepsIdle (s.tryWith (admitSlotRequest now) (.line l)).2 := keepsIdle_tryWith fun r => by
      unfold admitSlotRequest
      split
      · exact keepsIdle_admitDerive _ _
      · exact keepsIdle_admitStreamOpen _ _
    have hleave : s.keepsIdle (s.leaveWaitList (.line l)) := keepsIdle_of_job (job_leaveWaitList s _)
    unfold State.offer
    split
    · exact hleave.trans ih
    · split
      · split
        · next s' hs => rw [hs] at htry; exact htry
        · next s' hs => rw [hs] at htry; exact htry.trans ih
      · exact (hleave.trans (keepsIdle_of_job (t := (s.leaveWaitList (.line l)).addTry (.line l)) fun _ => rfl)).trans ih

/-- The end of a job leaves the IDLE streams of the other slots. -/
theorem endJob_keepsIdle (e : EndPlan) {slot n : Nat} {j : Job} (hn : n ≠ slot) (hj : s.job n = some j)
    (hidle : j.state = .idle) :
    (s.endJob e slot).job n = some j := by
  cases hs : s.job slot with
  | none => rw [endJob_free e slot s hs]; exact hj
  | some x =>
    have hends : ((s.settleJob e.commits e.loud e.answers x).freeSlot slot x.owner).job n = some j := by
      rw [freeSlot_job, if_neg hn, settleJob_job, hj]
    rw [endJob_live e slot s x hs]
    dsimp only
    split
    · unfold State.afterFree
      simp only [addTryIf_job]
      split
      · exact keepsIdle_offer _ n j hends hidle
      · rw [addTryIf_job]; exact hends
    · exact hends

/-! ### The port's jobs end (R100) -/

/-- What the end of a port's jobs needs while the grant in progress is another port's: no job about to end is IN_GRANT, nor
will be. -/
def State.endable (now : Bool) (ns : List Nat) (s : State) : Prop :=
  if now = true then ns.Nodup ∧ ∀ n ∈ ns, ∃ j, s.job n = some j ∧ j.state = .idle else s.grantedIn (· ∉ ns)

theorem endable_notGranted {n : Nat} {ns : List Nat} {j : Job} (h : s.endable now (n :: ns)) (hj : s.job n = some j) :
    j.state ≠ .inGrant := by
  cases now with
  | true =>
    obtain ⟨x, hx, hidle⟩ := (show (n :: ns).Nodup ∧ _ from h).2 n List.mem_cons_self
    rw [hj] at hx
    cases hx
    simp [hidle]
  | false => exact fun hg => (show s.grantedIn (· ∉ n :: ns) from h) n j hj hg List.mem_cons_self

theorem endable_endJob {n : Nat} {ns : List Nat} (h : s.endable now (n :: ns)) : (s.endJob (resetPlan now) n).endable now ns := by
  cases now with
  | true =>
    obtain ⟨hnodup, hidle⟩ : (n :: ns).Nodup ∧ ∀ m ∈ n :: ns, ∃ j, s.job m = some j ∧ j.state = .idle := h
    obtain ⟨hn, hnodup⟩ := List.nodup_cons.1 hnodup
    refine ⟨hnodup, fun m hm => ?_⟩
    obtain ⟨j, hj, hst⟩ := hidle m (List.mem_cons_of_mem n hm)
    exact ⟨j, endJob_keepsIdle _ (by rintro rfl; exact hn hm) hj hst, hst⟩
  | false =>
    have h : s.grantedIn (· ∉ n :: ns) := h
    exact endJob_grantedIn rfl (fun m _ hm hmem => hm (List.mem_cons_of_mem n hmem)) h

theorem moves_endJobs {ns : List Nat} (h : linked → s.endable now ns) :
    Moves linked now s (ns.foldl (fun t slot => t.endJob (resetPlan now) slot) s) := by
  induction ns generalizing s with
  | nil => exact .refl s
  | cons n ns ih =>
    exact (moves_endJob (e := resetPlan now) rfl fun hl j hj => endable_notGranted (h hl) hj).trans
      (ih fun hl => endable_endJob (h hl))

/-- With every slot that may hold a job IN_GRANT among those whose jobs end, none is left. -/
theorem endJobs_notGranted {ns : List Nat} (h : s.grantedIn (· ∈ ns)) :
    (ns.foldl (fun t slot => t.endJob (resetPlan false) slot) s).grantedIn fun _ => False := by
  induction ns generalizing s with
  | nil => exact h.mono fun n hn => by cases hn
  | cons n ns ih =>
    exact ih (endJob_grantedIn rfl (fun m hm hmem => (List.mem_cons.1 hmem).resolve_left hm) h)

/-- The custody port's jobs are at most the one in slot 15, which is free behind them (R83, R84). -/
theorem custody_free_after (hl : s.jobsListed) :
    (s.endJobsOf now .cp).job Config.custodySlot = none := by
  obtain ⟨hlive, _, hplace, _, hcp⟩ := hl
  unfold State.endJobsOf
  match hns : s.liveOf .cp with
  | [] =>
    rw [List.foldl_nil]
    cases hj : s.job Config.custodySlot with
    | none => rfl
    | some j =>
      have hmem := (hlive .cp Config.custodySlot).2 ⟨j, hj, ((hplace _ j hj).1).2 rfl⟩
      rw [hns] at hmem; cases hmem
  | [n] =>
    obtain ⟨j, hj, ho⟩ := (hlive .cp n).1 (hns ▸ List.mem_singleton_self n)
    rw [((hplace n j hj).1).1 ho]
    exact endJob_custody_free _ s
  | _ :: _ :: _ => rw [hns] at hcp; simp at hcp

/-! ### The reset (R154) -/

/-- Where the arbiter does not decide, an IDLE engine stays IDLE. -/
theorem Move.keeps_engineIdle (hm : Move linked false s t) (h : s.engine = none) : t.engine = none := by
  cases hm with
  | aside | port | waits | notices | bind | unlock | entry | beginCeremony | batch | custody | job | join => exact h
  | closeCeremony =>
    obtain ⟨k, hk⟩ := closeCeremony_touches s
    rw [hk]; exact h
  | combine _ cer x =>
    obtain ⟨k, hk⟩ := modCell_touches s cer.slot cer.cell fun _ => x
    rw [hk]; exact h
  | derive l tag b pos prior keys mk tk slot =>
    obtain ⟨k, hk⟩ := captures_touch (s.setBatch b ((s.batch b).reserve pos prior)) mk tk
    rw [hk]; exact h
  | stream l tag seq sk dk ivIn ivOut n limit slot =>
    obtain ⟨k, hk⟩ := captures_touch s sk dk
    rw [hk]; exact h
  | ends slot j commits loud answers =>
    obtain ⟨b, n, k, p, ht⟩ := settleJob_touches s commits loud answers j
    rw [ht]; exact h
  | arbitrate hn => exact absurd hn (by decide)
  | zeroise =>
    cases ha : s.alive with
    | false => rw [enterZeroising_off ha]; exact h
    | true =>
      obtain ⟨b, k, ht⟩ := enterZeroising_on_touches ha
      rw [ht]
  | freeEngine => rfl

theorem Moves.keeps_engineIdle (h : Moves linked false s t) (hs : s.engine = none) : t.engine = none :=
  h.keeps (fun hm => hm.keeps_engineIdle) hs

theorem engine_resetRest (s : State) (p : Port) : (s.resetRest p).engine = s.engine := by
  cases p with
  | cp =>
    obtain ⟨k, h⟩ := closeCeremony_touches s
    unfold State.resetRest
    rw [h]
  | line l => rfl

theorem alive_resetRest (s : State) (p : Port) : (s.resetRest p).alive = s.alive := by
  cases p with
  | cp =>
    obtain ⟨k, h⟩ := closeCeremony_touches s
    unfold State.resetRest
    rw [h]; rfl
  | line l => rfl

theorem resetValues_fits (u : PortUnit) : u.resetValues.fits :=
  fits_of_requests (Nat.zero_le 8) (Nat.zero_le 16) (by simp [PortUnit.resetValues, freshUnit])

/-- The port is empty and off the slot wait list (R154). -/
def State.portEmptied (s : State) (p : Port) : State := (s.setPort p (s.port p).resetValues).leaveWaitList p

theorem moves_portEmptied (p : Port) : Moves linked now s (s.portEmptied p) :=
  (moves_setPort fun _ => resetValues_fits _).trans (moves_leaveWaitList p)

theorem job_portEmptied (s : State) (p : Port) (n : Nat) : (s.portEmptied p).job n = s.job n :=
  (job_leaveWaitList _ p n).trans rfl

theorem liveOf_portEmptied (s : State) (p q : Port) : (s.portEmptied p).liveOf q = s.liveOf q := by cases p <;> rfl

theorem turns_resetRest (p : Port) (h : linked → p = .cp → s.custodyJobLive = none) : Turns linked s (s.resetRest p) := by
  cases p with
  | cp =>
    exact (Move.closeCeremony fun hl => h hl rfl).moves.turns.trans
      (Move.aside (s := s.closeCeremony) s.closeCeremony.seqs _ _ none s.closeCeremony.tries s.closeCeremony.choices).moves.turns
  | line l => exact (Turn.visitOver l).turns

theorem job_resetRest (s : State) (p : Port) (n : Nat) : (s.resetRest p).job n = s.job n := by
  cases p with
  | cp =>
    obtain ⟨k, h⟩ := closeCeremony_touches s
    unfold State.resetRest
    rw [h]; rfl
  | line l => rfl

theorem Moves.turns_now (h : Moves linked now s t) : Turns linked s t := by
  cases now with
  | true => exact h.turns
  | false => exact h.turns_of_waiting

theorem turns_resetPort {p : Port} (ho : s.grantOwnedBy p = false) (hlist : linked → s.jobsListed)
    (hlink : linked → s.linkAgrees) :
    Turns linked s (s.resetPort p) := by
  unfold State.resetPort
  rw [ho]
  simp only [Bool.not_false, Bool.true_and, Bool.false_eq_true, if_false]
  generalize hnow : (!(s.liveOf p).any s.waitingAt) = now
  have hempty := moves_portEmptied (linked := linked) (now := now) (s := s) p
  have hlist1 : linked → (s.portEmptied p).jobsListed := fun hl => hempty.keeps_jobsListed (hlist hl)
  have hnot : linked → ∀ n ∈ s.liveOf p, ∀ j, s.job n = some j → j.state ≠ .inGrant := fun hl n hn j hj hg => by
    obtain ⟨g, he, hgn⟩ := ((hlink hl).granted n j hj).1 hg
    obtain ⟨x, hx, hox⟩ := ((hlist hl).1 p n).1 hn
    rw [hj] at hx
    cases hx
    simp [State.grantOwnedBy, he, hgn, hj, hox] at ho
  have hend : linked → (s.portEmptied p).endable now ((s.portEmptied p).liveOf p) := fun hl => by
    rw [liveOf_portEmptied]
    cases now with
    | true =>
      refine ⟨(hlist hl).2.1 p, fun n hn => ?_⟩
      obtain ⟨j, hj, _⟩ := ((hlist hl).1 p n).1 hn
      refine ⟨j, (job_portEmptied s p n).trans hj, ?_⟩
      have hw : s.waitingAt n = false := by
        simp only [Bool.not_eq_true', List.any_eq_false, Bool.not_eq_true] at hnow
        exact hnow n hn
      cases hst : j.state with
      | waiting => simp [State.waitingAt, hj, hst] at hw
      | inGrant => exact absurd hst (hnot hl n hn j hj)
      | idle => rfl
    | false =>
      intro n j hj hg hn
      rw [job_portEmptied] at hj
      exact hnot hl n hn j hj hg
  have hjobs : Moves linked now s ((s.portEmptied p).endJobsOf now p) := hempty.trans (moves_endJobs hend)
  have hrest := hjobs.turns_now.trans (turns_resetRest p fun hl hp => by
    subst hp
    exact custodyJobLive_free (custody_free_after (hlist1 hl)))
  exact hrest.trans (moves_runTries fun hl => hrest.keeps_jobsListed (hlist hl)).turns_now

theorem freed_resetPort {p : Port} (ho : s.grantOwnedBy p = true) : ∃ u, Freed s u ∧ s.resetPort p = u.arbitrate := by
  obtain ⟨g, j, hg, hj, hp⟩ : ∃ g j, s.engine = some g ∧ s.job g.slot = some j ∧ j.owner = p := by
    unfold State.grantOwnedBy at ho
    split at ho
    · next g hg =>
      split at ho
      · next j hj => exact ⟨g, j, hg, hj, beq_iff_eq.1 ho⟩
      · cases ho
    · cases ho
  unfold State.resetPort
  rw [ho]
  simp only [Bool.not_true, Bool.false_and, if_true]
  have hempty : Moves False false s { s.portEmptied p with engine := none } :=
    (moves_portEmptied p).trans (Move.freeEngine id).moves
  have hjobs : Moves False false { s.portEmptied p with engine := none }
      (State.endJobsOf false { s.portEmptied p with engine := none } p) := moves_endJobs False.elim
  generalize hv : State.endJobsOf false { s.portEmptied p with engine := none } p = v at hjobs
  have hrun := hempty.trans hjobs
  have htries : Moves False false (v.resetRest p) ((v.resetRest p).runTries false) := moves_runTries False.elim
  refine ⟨(v.resetRest p).runTries false, ⟨by simp [hg], ?_, ?_, ?_, fun h => ?_⟩, by rw [← hv]; rfl⟩
  · exact (hrun.turns_of_waiting.trans (turns_resetRest p False.elim)).trans htries.turns_of_waiting
  · rw [htries.alive, alive_resetRest, hrun.alive]
  · exact htries.keeps_engineIdle ((engine_resetRest v p).trans (hjobs.keeps_engineIdle rfl))
  · obtain ⟨hjobsAgree, hl⟩ := grantAgrees_iff.1 h
    have hin : State.grantedIn (· ∈ (s.portEmptied p).liveOf p) { s.portEmptied p with engine := none } := fun n x hx hst => by
      have hx : s.job n = some x := (job_portEmptied s p n).symm.trans hx
      obtain ⟨g', hg', hn⟩ := (hl.granted n x hx).1 hst
      rw [hg] at hg'
      cases hg'
      subst hn
      rw [liveOf_portEmptied]
      exact (hjobsAgree.listed.1 p g.slot).2 ⟨j, hj, hp⟩
    have hended : v.grantedIn fun _ => False := hv ▸ endJobs_notGranted hin
    exact htries.keeps_grantedIn fun n x hx => hended n x ((job_resetRest v p n).symm.trans hx)

end Sys2Proof.Machine
end

/-! SUPPORT and PROOF. Every step is a run of turns, or one that frees the engine and lets the arbiter decide; so what each
turn and that decision keep, each step keeps. -/

section
namespace Sys2Proof.Machine

variable {linked : Prop} {s t u : State}

/-! ### Every step -/

theorem exec_cases {i : Instr} (hl : linked → s.jobsListed ∧ s.linkAgrees) (h : exec i s = .next t) :
    Turns linked s t ∨ ∃ u, Freed s u ∧ t = u.arbitrate := by
  by_cases hg : i = .grantEnd
  · subst hg
    cases h
    cases hs : s.engine with
    | none => exact .inl (by unfold State.endGrant; rw [hs]; exact .refl s)
    | some g =>
      obtain ⟨u, hu, he⟩ := freed_endGrant hs
      exact .inr ⟨u, hu, he⟩
  by_cases hp : ∃ p, i = .portReset p
  · obtain ⟨p, rfl⟩ := hp
    cases h
    split
    · exact .inl (.refl s)
    · split
      · cases ho : s.grantOwnedBy p with
        | true =>
          obtain ⟨u, hu, he⟩ := freed_resetPort ho
          exact .inr ⟨u, hu, he⟩
        | false => exact .inl (turns_resetPort ho (fun hk => (hl hk).1) fun hk => (hl hk).2)
      · exact .inl (moves_setPort (u := { s.port p with resetIn := true }) fun hu => hu).turns
  · exact .inl (turns_of_next h hg (fun p hi => hp ⟨p, hi⟩) fun hk => (hl hk).1)

/-- The command at the front is taken off the queue. -/
theorem turn_taken (rest : List Instr) : Turn linked s { s with pending := rest } :=
  .outside s.battery s.batteryBelow s.markerGood s.tamperPins s.holdingLost s.heldTamper rest

/-- What every turn keeps, and the decision of the arbiter behind a freed engine, every step keeps. -/
theorem step_keeps {I : State → Prop} (hturn : ∀ {s t}, Turn False s t → I s → I t)
    (hdecide : ∀ {s u}, Freed s u → I s → I u → I u.arbitrate) (h : step s = .next t) (hs : I s) : I t := by
  unfold step at h
  split at h
  · cases h; exact hturn .pass hs
  · next c rest _ =>
    have hs' : I { s with pending := rest } := hturn (turn_taken rest) hs
    rcases exec_cases (linked := False) False.elim h with ht | ⟨u, hu, rfl⟩
    · exact ht.keeps hturn hs'
    · exact hdecide hu hs' (hu.turns.keeps hturn hs')

/-- What every turn and every move keep, and a state with a BUSY engine has main power, every step keeps. -/
theorem step_keeps_of_alive {I : State → Prop} (hturn : ∀ {s t}, Turn False s t → I s → I t)
    (halive : ∀ {s}, I s → s.engine ≠ none → s.alive = true) (h : step s = .next t) (hs : I s) : I t :=
  step_keeps hturn
    (fun hu hI hv => hturn (Turn.move (Move.arbitrate rfl (hu.alive.trans (halive hI hu.busy)))) hv) h hs

theorem alive_of_busy (hz : s.zeroisingIdle) (he : s.engine ≠ none) : s.alive = true := by
  cases ha : s.alive with
  | true => rfl
  | false => exact absurd (idleWork_of_off ha hz).2.1 he

/-! ### The decision of the arbiter, whatever the supplies -/

theorem queues_arbitrate (h : s.queuesFit ∧ s.listsOnce) : s.arbitrate.queuesFit ∧ s.arbitrate.listsOnce := by
  obtain ⟨sl, d, e, p, ht⟩ := arbitrate_touches s
  rw [ht]; exact h

theorem batchesAgree_arbitrate (h : s.batchesAgree) : s.arbitrate.batchesAgree := by
  obtain ⟨sl, d, e, p, ht⟩ := arbitrate_touches s
  rw [ht]; exact h

theorem positionsHeld_arbitrate (h : s.positionsHeld) : s.arbitrate.positionsHeld := by
  rcases arbitrate_grants s with ⟨p, d, ht⟩ | ⟨slot, j, p, d, _, hj, _, ht⟩
  · rw [ht]; exact positionsHeld_congr (s := s) rfl (positionAt_congr rfl) ⟨rfl, rfl, rfl⟩ h
  · rw [ht]
    exact positionsHeld_congr (s := s) rfl (positionAt_setJob (j' := { j with state := .inGrant }) hj rfl) ⟨rfl, rfl, rfl⟩ h

theorem jobsListed_arbitrate (h : s.jobsListed) : s.arbitrate.jobsListed := by
  rcases arbitrate_grants s with ⟨p, d, ht⟩ | ⟨slot, j, p, d, _, hj, _, ht⟩
  · rw [ht]; exact h
  · rw [ht]; exact jobsListed_setJob (j' := { j with state := .inGrant }) hj rfl Iff.rfl h

theorem streamsFit_arbitrate (h : s.streamsFit) : s.arbitrate.streamsFit := by
  rcases arbitrate_grants s with ⟨p, d, ht⟩ | ⟨slot, j, p, d, _, hj, _, ht⟩
  · rw [ht]; exact h
  · rw [ht, streamsFit_iff]
    rw [streamsFit_iff] at h
    exact allJobs_setJob (s := s) (fun x hx => by cases hx; exact h slot j hj) h

/-! ### The relations that every step keeps -/

/-- Settles O54: by the moves of each event. -/
theorem stepKeepsQueuesAndLists : Obligations.StepKeepsQueuesAndLists := by
  intro s t hq hl h
  exact step_keeps (I := fun s => s.queuesFit ∧ s.listsOnce) Turn.keeps_queues (fun _ _ hv => queues_arbitrate hv) h ⟨hq, hl⟩

theorem step_keeps_jobsListed (h : step s = .next t) (hs : s.jobsListed) : t.jobsListed :=
  step_keeps Turn.keeps_jobsListed (fun _ _ hv => jobsListed_arbitrate hv) h hs

/-- Settles O55: by the moves of each event; a reserved position is held by the DERIVE that reserved it until its job ends. -/
theorem stepKeepsBatchCountersInAgreement : Obligations.StepKeepsBatchCountersInAgreement := by
  refine ⟨fun s t hs h => step_keeps Turn.keeps_batchesAgree (fun _ _ hv => batchesAgree_arbitrate hv) h hs,
    fun s t hs hl h => ?_⟩
  exact (step_keeps (I := fun s => s.jobsListed ∧ s.positionsHeld)
    (fun ht hu => ⟨ht.keeps_jobsListed hu.1, ht.keeps_positionsHeld hu.1 hu.2⟩)
    (fun _ _ hv => ⟨jobsListed_arbitrate hv.1, positionsHeld_arbitrate hv.2⟩) h ⟨hl, hs⟩).2

/-- Settles O56: the deficits within the stronger bounds of R108, by the moves of each event. -/
theorem stepKeepsDeficitsBounded : Obligations.StepKeepsDeficitsBounded := by
  intro s t hs h
  have ht : t.deficitsFit := step_keeps_of_alive Turn.keeps_deficitsFit (fun hu he => by
    rw [← Bool.not_eq_false]
    exact fun hoff => he (hu.2 hoff).1) h hs
  refine ⟨ht, fun l => (ht.1 l).trans ?_⟩
  split <;> omega

/-- Settles O57: no admission makes a job where the part has no work, by the moves of each event. -/
theorem stepKeepsZeroisingWithoutWork : Obligations.StepKeepsZeroisingWithoutWork := by
  intro s t hs h
  exact step_keeps_of_alive Turn.keeps_zeroisingIdle alive_of_busy h hs

theorem zeroisingIdle_of_keysOk (h : s.keysOk) : s.zeroisingIdle := (keysOk_iff.1 h).1

/-- Settles O58: by the moves of each event; a job's holds are counted at its cells from its admission to its end. -/
theorem stepKeepsKeyEntriesConsistent : Obligations.StepKeepsKeyEntriesConsistent := by
  refine ⟨fun s t hs h => step_keeps_of_alive Turn.keeps_keysOk (fun hu => alive_of_busy (zeroisingIdle_of_keysOk hu)) h hs,
    fun s t hs hl h => ?_⟩
  exact (step_keeps_of_alive (I := fun s => s.jobsListed ∧ s.countsAgree)
    (fun ht hu => ⟨ht.keeps_jobsListed hu.1, ht.keeps_countsAgree hu.1 hu.2⟩)
    (fun hu => alive_of_busy (zeroisingIdle_of_keysOk (countsAgree_iff.1 hu.2).1)) h ⟨hl, hs⟩).2

/-- The engine freed of its grant takes the next one (R106 steps 3 and 4). -/
theorem grantAgrees_freed (hu : Freed s u) (hs : s.grantAgrees) : u.arbitrate.grantAgrees := by
  obtain ⟨hjobs, _⟩ := grantAgrees_iff.1 hs
  have hu' : u.grantAgrees :=
    grantAgrees_iff.2 ⟨hu.turns.keeps (fun ht hv => ht.keeps_jobsAgree hv) hjobs, linkAgrees_idle hu.free (hu.idle hs)⟩
  exact (Move.arbitrate (linked := True) rfl (hu.alive.trans (alive_of_busy hjobs.zeroisingIdle hu.busy))).keeps_grantAgrees hu'

theorem step_keeps_grantAgrees (h : step s = .next t) (hs : s.grantAgrees) : t.grantAgrees := by
  unfold step at h
  split at h
  · cases h; exact Turn.pass.keeps_grantAgrees hs
  · next c rest _ =>
    have hs' : State.grantAgrees { s with pending := rest } := (turn_taken rest).keeps_grantAgrees hs
    obtain ⟨hjobs, hl⟩ := grantAgrees_iff.1 hs'
    rcases exec_cases (linked := True) (fun _ => ⟨hjobs.listed, hl⟩) h with ht | ⟨u, hu, rfl⟩
    · exact ht.keeps Turn.keeps_grantAgrees hs'
    · exact grantAgrees_freed hu hs'

/-- Settles O59: the live-job lists by the moves of each event; the grant, its job and its working copy by the moves that leave
the job of the grant its passes, and by the grant end and the port reset, behind which no job is IN_GRANT. -/
theorem stepKeepsJobListsAndQuotas : Obligations.StepKeepsJobListsAndQuotas :=
  ⟨fun _ _ hs h => step_keeps_jobsListed h hs, fun _ _ hs h => step_keeps_grantAgrees h hs⟩

/-- Settles O60: by the moves of each event. -/
theorem stepKeepsStreamsWithinTheirCount : Obligations.StepKeepsStreamsWithinTheirCount :=
  fun _ _ hs h => step_keeps Turn.keeps_streamsFit (fun _ _ hv => streamsFit_arbitrate hv) h hs

end Sys2Proof.Machine
end

/-! PROOF. The step itself, the events of the supplies, the battery and the store, and a tamper event that is only recorded. -/

section
namespace Sys2Proof.Machine

variable {s : State}

/-- Settles O1: by the definition of the step. -/
theorem stepRunsTheFrontCommand : Obligations.StepRunsTheFrontCommand := fun _ _ => rfl

theorem step_of_empty (h : s.pending = []) : step s = .next s.finishPass := by
  unfold step; rw [h]

theorem finishPass_of_work {g : Grant} {j : Job} (hg : s.engine = some g) (hj : s.job g.slot = some j)
    (hlt : g.held.length + 1 < g.size) :
    s.finishPass = { s with engine := some { g with
      held := g.held ++ [g.work.result], work := s.passInput (s.recordAll j (g.held ++ [g.work.result])) } } := by
  unfold State.finishPass
  rw [hg]
  dsimp only
  rw [hj]
  dsimp only
  rw [if_pos hlt]

theorem finishPass_of_last {g : Grant} {j : Job} (hg : s.engine = some g) (hj : s.job g.slot = some j)
    (hle : g.size ≤ g.held.length + 1) : s.finishPass = s := by
  unfold State.finishPass
  rw [hg]
  dsimp only
  rw [hj]
  dsimp only
  rw [if_neg (by omega)]

/-- Settles O2: by the cases of `State.finishPass`. -/
theorem emptyQueueStepFinishesOnePass : Obligations.EmptyQueueStepFinishesOnePass := by
  intro s hp
  rw [step_of_empty hp]
  refine ⟨fun he => by rw [finishPass_idle he], fun g j hg hj => ⟨fun hlt => ?_, fun hle => by rw [finishPass_of_last hg hj hle]⟩⟩
  rw [finishPass_of_work hg hj hlt]
  rfl

/-! ### Main power and the main reset line -/

/-- Settles O45: by the cases of the two commands. -/
theorem powerOnAndReleaseBeginTheSweep : Obligations.PowerOnAndReleaseBeginTheSweep := by
  intro s
  have hon : exec .mainPowerOn s = execMainPowerOn s := rfl
  have hrel : exec .mainResetRelease s = execMainResetRelease s := rfl
  rw [hon, hrel]
  refine ⟨fun hp hr => ?_, fun hp hr => ?_⟩
  · unfold execMainPowerOn State.beginSweep
    simp only [hp, hr, Bool.false_eq_true, if_false]
    exact ⟨fun hz => by simp [hz], fun hz => by simp [Option.isSome_iff_ne_none, hz]⟩
  · unfold execMainResetRelease State.beginSweep
    simp only [hp, hr, if_true]
    exact ⟨fun hz => by simp [hz], fun hz => by simp [Option.isSome_iff_ne_none, hz]⟩

theorem loseVolatile_quiet (power held : Bool) (h : s.heldTamper = []) :
    s.loseVolatile power held = s.volatileLost power held := by
  have hmode : storedMode s.mode = if s.mode = .failed then .zeroising else s.mode := by cases s.mode <;> rfl
  unfold State.loseVolatile State.volatileLost
  rw [h, hmode]
  rfl

/-- Settles O44: with no tamper event held, the loss is the one assignment of `State.volatileLost`. -/
theorem powerLossAndMainResetTakeVolatileState : Obligations.PowerLossAndMainResetTakeVolatileState := by
  intro s hp hh
  have hloss : exec .mainPowerLoss s = execMainPowerLoss s := rfl
  have hreset : exec .mainReset s = execMainReset s := rfl
  rw [hloss, hreset]
  unfold execMainPowerLoss execMainReset
  simp only [hp, if_true]
  refine ⟨by rw [loseVolatile_quiet _ _ hh], fun hr => ?_, fun hr => by rw [if_pos hr]⟩
  rw [if_neg (by simp [hr]), loseVolatile_quiet _ _ hh]

/-! ### The battery and the store -/

theorem exec_batteryStateChange (low : Bool) (s : State) :
    exec (.batteryStateChange low) s = .next
      (if s.alive && s.sweep == .idle then
          State.measureBattery { s with batteryBelow := low, holdingLost := s.holdingLost && low }
        else { s with batteryBelow := low, holdingLost := s.holdingLost && low }) := rfl

theorem lostMode_ne_failed (n : Nat) : lostMode n ≠ .failed := by
  unfold lostMode
  rcases Config.lostMode n with _ | _ | k <;> simp

theorem exec_storeHoldingLost (s : State) :
    exec .storeHoldingLost s = .next (if s.mainPower || s.holdingLost then s
      else { s.loseStore with zeroRun := none, batteryBelow := true, holdingLost := true }) := rfl

/-- A line that becomes active without a watch is a level alone (R157). -/
theorem exec_tamperEvent_unwatched {l : TamperLine} (hpin : s.tamperPins.get l = false) (hp : s.mainPower = false)
    (hl : s.holdingLost = true) : exec (.tamperEvent l) s = .next { s with tamperPins := s.tamperPins.set l true } := by
  have h : exec (.tamperEvent l) s = execTamperEvent l s := rfl
  rw [h]
  unfold execTamperEvent State.watched
  simp [hpin, hp, hl]

/-- Settles O43: by the cases of the two commands; a lost store reads a mode of the three that a store holds. -/
theorem batteryAndStoreLevelsActOnTheirState : Obligations.BatteryAndStoreLevelsActOnTheirState := by
  intro s
  simp only [exec_batteryStateChange, exec_storeHoldingLost]
  refine ⟨fun ha hs => ?_, fun hoff => ?_, fun hp => by simp [hp], fun hp => ⟨fun hl => ?_, fun hl => by simp [hl], ?_⟩⟩
  · have hm : (s.alive && s.sweep == .idle) = true := by simp [ha, hs]
    simp only [hm, if_true]
    unfold State.measureBattery
    exact ⟨fun hg => by simp [hg], fun hlow => by simp [hlow], by simp⟩
  · have hm : (s.alive && s.sweep == .idle) = false := by
      rcases hoff with h | h <;> simp [h]
    simp [hm]
  · simp only [hp, hl, Bool.false_or, Bool.false_eq_true, if_false]
    refine ⟨_, rfl, ?_, lostMode_ne_failed _, ?_⟩
    · simp only [State.mk.injEq]
      trivial
    show (lostMode s.choices == PartMode.zeroising) = true ↔ _
    rw [beq_iff_eq]
    rfl
  · exact fun l hl hpin => exec_tamperEvent_unwatched hpin hp hl

/-! ### A tamper event that is only recorded -/

/-- The line is active at its pin. -/
def State.lineActive (s : State) (l : TamperLine) : State := { s with tamperPins := s.tamperPins.set l true }

theorem exec_tamperEvent (l : TamperLine) (s : State) :
    exec (.tamperEvent l) s = .next (if s.tamperPins.get l then s
      else if s.mainPower || !s.holdingLost then (s.lineActive l).holdOrTakeTamper l else s.lineActive l) := rfl

/-- With no sweep at work an event is taken at once (R168). -/
theorem holdOrTakeTamper_taken {l : TamperLine} (h : s.sweep = .idle ∨ ∃ c, s.sweep = .due c) :
    s.holdOrTakeTamper l = s.takeTamper l := by
  unfold State.holdOrTakeTamper
  rcases h with h | ⟨c, h⟩ <;> rw [h]

/-- In ZEROISING and FAILED an event is recorded, with its notice (R157). -/
theorem takeTamper_recorded {l : TamperLine} (h : s.mode = .zeroising ∨ s.mode = .failed) :
    s.takeTamper l = (s.addCause (.line l)).tamperNotice l := by
  unfold State.takeTamper
  rcases h with h | h <;> simp [h]

theorem alive_of_supplied (hp : s.mainPower = false ∧ s.holdingLost = false ∨ s.mainPower = true ∧ s.resetHeld = true) :
    s.alive = false ∧ (s.mainPower || !s.holdingLost) = true := by
  rcases hp with ⟨h1, h2⟩ | ⟨h1, h2⟩ <;> simp [State.alive, h1, h2]

theorem exec_tamperEvent_active {l : TamperLine} (hpin : s.tamperPins.get l = true) : exec (.tamperEvent l) s = .next s := by
  rw [exec_tamperEvent, if_pos hpin]

theorem exec_tamperEvent_watched {l : TamperLine} (hpin : s.tamperPins.get l = false)
    (hw : (s.mainPower || !s.holdingLost) = true) :
    exec (.tamperEvent l) s = .next ((s.lineActive l).holdOrTakeTamper l) := by
  rw [exec_tamperEvent, if_neg (by simp [hpin]), if_pos hw]

theorem tamperNotice_alive (l : TamperLine) (h : s.alive = true) : s.tamperNotice l = s.notice (.tamper l) 0 := by
  unfold State.tamperNotice; rw [if_pos h]

theorem tamperNotice_off (l : TamperLine) (h : s.alive = false) : s.tamperNotice l = s := by
  unfold State.tamperNotice; simp [h]

theorem mainPower_of_alive (h : s.alive = true) : s.mainPower = true := by
  unfold State.alive at h
  simp only [Bool.and_eq_true] at h
  exact h.1

/-- Settles O41: by the cases of the command; no mode but OPERATING and LOCKOUT is left by a tamper event. -/
theorem tamperEventIsOnlyRecordedInZeroising : Obligations.TamperEventIsOnlyRecordedInZeroising := by
  intro s l
  refine ⟨exec_tamperEvent_active, fun hpin hsweep hmode => ?_, rfl⟩
  have htaken : (s.mainPower || !s.holdingLost) = true →
      exec (.tamperEvent l) s = .next (((s.lineActive l).addCause (.line l)).tamperNotice l) := fun hw => by
    rw [exec_tamperEvent_watched hpin hw, holdOrTakeTamper_taken (s := s.lineActive l) hsweep,
      takeTamper_recorded (s := s.lineActive l) hmode]
  refine ⟨fun ha => ?_, fun hp => ?_⟩
  · rw [htaken (by simp [mainPower_of_alive ha]), tamperNotice_alive (s := (s.lineActive l).addCause (.line l)) l ha]
    rfl
  · obtain ⟨hoff, hw⟩ := alive_of_supplied hp
    rw [htaken hw, tamperNotice_off (s := (s.lineActive l).addCause (.line l)) l hoff]
    rfl

end Sys2Proof.Machine
end

/-! PROOF. The reset state (log 3): its values, and that it meets the relations every step keeps. -/

section
namespace Sys2Proof.Machine

/-! ### What reset leaves in each table -/

theorem entry_reset (n : Nat) : State.reset.entry n = .empty := entry_emptied rfl rfl n

theorem batch_reset (n : Nat) : State.reset.batch n = unusedBatch := batch_emptied rfl rfl n

theorem job_reset (n : Nat) : State.reset.job n = none := vector_replicate_job rfl n

theorem liveOf_reset (p : Port) : State.reset.liveOf p = [] := liveOf_empty rfl p

theorem deficit_reset (l : LinePort) : State.reset.deficit l = 0 := deficit_zero rfl l

theorem binding_reset (l : LinePort) : State.reset.binding l = defaultBinding := by cases l <;> rfl

theorem port_reset (p : Port) : State.reset.port p = freshUnit := by
  cases p with
  | cp => rfl
  | line l => cases l <;> rfl

theorem seq_reset (n : Nat) : State.reset.seq n = 0 := by
  unfold State.seq
  split
  · simp [State.reset]
  · rfl

/-- Settles O3: by the value of each table after reset. -/
theorem resetIsAPartAfterStoreLoss : Obligations.ResetIsAPartAfterStoreLoss := by
  refine ⟨entry_reset, fun l => binding_reset l, fun n => batch_reset n, rfl, rfl, rfl, rfl, rfl, job_reset, liveOf_reset, rfl,
    seq_reset, rfl, rfl, deficit_reset, rfl, fun p => ?_, rfl, rfl, rfl⟩
  have hp := port_reset p
  refine ⟨by rw [hp]; rfl, by rw [hp]; rfl, by rw [hp]; rfl, by rw [hp]; rfl, by rw [hp]; rfl, by rw [hp]; rfl, ?_, ?_, ?_⟩
  · unfold State.ready State.linkTakes
    rw [hp]
    rfl
  · unfold State.attnHigh State.linkTakes
    rw [hp]
    simp [freshUnit, defaultAttn, State.condHolds, State.reset, State.alive]
  · unfold State.dataOut
    rw [hp]
    rfl

theorem idleWork_reset : State.reset.idleWork := ⟨job_reset, rfl, rfl⟩

theorem zeroisingIdle_reset : State.reset.zeroisingIdle :=
  ⟨⟨by simp [State.reset, storedMode], by simp [State.reset]⟩, fun _ => idleWork_reset⟩

theorem keysOk_reset : State.reset.keysOk :=
  keysOk_iff.2 ⟨zeroisingIdle_reset, fun n => by rw [entry_reset]; exact Entry.empty_ok, fun _ h => by cases h⟩

theorem batchesAgree_reset : State.reset.batchesAgree := fun n => by rw [batch_reset]; exact unusedBatch_agrees

theorem jobsListed_reset : State.reset.jobsListed := jobsListed_without_jobs job_reset liveOf_reset

theorem positionsHeld_reset : State.reset.positionsHeld := by
  refine ⟨batchesAgree_reset, fun n => by rw [batch_reset]; exact unusedBatch_fits, fun _ _ =>
    ⟨fun n j _ hj => ?_, fun b pos h => ?_,
    fun m n b pos ⟨j, _, hj, _⟩ => ?_⟩⟩
  · rw [job_reset] at hj; cases hj
  · rw [batch_reset] at h; simp [unusedBatch] at h
  · rw [job_reset] at hj; cases hj

theorem countsAgree_reset : State.reset.countsAgree :=
  countsAgree_iff.2 ⟨keysOk_reset, fun n => by rw [entry_reset]; exact Entry.empty_usesFit,
    fun _ _ => countsMatch_without_jobs job_reset fun n c => by rw [entry_reset]; rfl⟩

theorem grantAgrees_reset : State.reset.grantAgrees :=
  grantAgrees_iff.2 ⟨⟨countsAgree_reset, positionsHeld_reset, jobsListed_reset, fun n j hj => by rw [job_reset] at hj; cases hj⟩,
    linkAgrees_idleWork idleWork_reset⟩

/-- Settles O4: the tables are empty and no job is live. -/
theorem resetMeetsTheInvariants : Obligations.ResetMeetsTheInvariants := by
  refine ⟨fun p => ?_, ⟨List.nodup_nil, by simp [State.reset]⟩, batchesAgree_reset, ⟨fun l => ?_, fun h => by cases h⟩,
    keysOk_reset, jobsListed_reset, fun n j c hj => ?_, positionsHeld_reset, countsAgree_reset, grantAgrees_reset⟩
  · rw [port_reset]; decide
  · rw [deficit_reset]; exact Nat.zero_le _
  · rw [job_reset] at hj; cases hj

end Sys2Proof.Machine
end

/-! PROOF. Frames: their starts, timeouts and fetches (R140 to R148). -/

section
namespace Sys2Proof.Machine

variable {s : State} {p : Port}

theorem tries_cleared (h : s.tries = []) : { s with tries := [] } = s := congrArg (fun ts => { s with tries := ts }) h.symm

/-- With no head listed for a try the event is over. -/
theorem runTries_of_tries {now : Bool} (h : s.tries = []) : s.runTries now = s := by
  rw [runTries_done now s (triesDue_of_tries s h), tries_cleared h]

/-! ### Timeouts (R143) -/

theorem exec_frameTimeout (p : Port) (s : State) : exec (.frameTimeout p []) s = .next ((s.timesOut p).runTries true) := rfl

/-- Settles O8: by the frame in progress. -/
theorem frameTimeoutEndsTheFrame : Obligations.FrameTimeoutEndsTheFrame := by
  intro s p ht ends
  have hends : ∀ u : PortUnit, (s.setPort p u).runTries true = s.setPort p u := fun u =>
    runTries_of_tries (by rw [State.setPort_tries, ht])
  simp only [exec_frameTimeout, State.timesOut]
  refine ⟨fun got hf => ?_, fun h r n hf => ?_, fun hf => ?_, fun hf => ?_, fun hf => ?_⟩
  all_goals rw [hf]
  · simp [ends, hends, PortUnit.recordFault]
  · simp [ends, hends, PortUnit.recordFault]
  · simp [ends, hends, PortUnit.recordFault]
  · simp [hends]
  · dsimp only
    have hsame : ({ s.port p with frame := .none } : PortUnit) = s.port p := by rw [← hf]
    rw [hsame, State.setPort_self, runTries_of_tries ht]

/-! ### Starts (R141) -/

theorem selectFalls_placing (hl : s.linkTakes p = true) (hs : (s.port p).selectLow = false) (hf : (s.port p).frame = .none)
    (h : (s.port p).requests.length < 8) :
    s.selectFalls p = s.setPort p { s.port p with selectLow := true, frame := .placing [] } := by
  unfold State.selectFalls
  simp [hs, hl, hf, PortUnit.entryFree, PortUnit.entriesTaken, Config.requestEntries, h]

theorem selectFalls_unplaced (hl : s.linkTakes p = true) (hs : (s.port p).selectLow = false) (hf : (s.port p).frame = .none)
    (h : (s.port p).requests.length = 8) :
    s.selectFalls p = s.setPort p { s.port p with selectLow := true, frame := .unplaced } := by
  unfold State.selectFalls
  simp [hs, hl, hf, PortUnit.entryFree, PortUnit.entriesTaken, Config.requestEntries, h]

/-- The code byte 0x0F makes a frame without a byte yet a fetch frame (R141). -/
theorem clockByte_fetch {f : Frame} (hf : f = .placing [] ∨ f = .unplaced) :
    State.clockByte p (s.setPort p { s.port p with selectLow := true, frame := f }) 0x0F =
      s.setPort p { s.port p with
        selectLow := true, fetched := []
        frame := .fetching (s.statusHeader p) (((s.port p).occupied.head?.map Response.bytes).getD []) 0 } := by
  unfold State.clockByte
  rcases hf with rfl | rfl <;> simp [State.startFetch, State.statusHeader, State.shownMode]

theorem exec_frameStart_of_clocked {bytes : List Byte} {u : PortUnit} (ht : s.tries = [])
    (h : (s.selectFalls p).clockBytes p bytes = s.setPort p u) : exec (.frameStart p bytes) s = .next (s.setPort p u) := by
  have hexec : exec (.frameStart p bytes) s = .next (((s.selectFalls p).clockBytes p bytes).runTries true) := rfl
  rw [hexec, h, runTries_of_tries (by rw [State.setPort_tries, ht])]

theorem alive_setPort (s : State) (p : Port) (u : PortUnit) : (s.setPort p u).alive = s.alive := rfl

theorem dataOut_setPort_low (u : PortUnit) (h : ∀ header response n, u.frame ≠ .fetching header response (n + 1)) :
    (s.setPort p u).dataOut p = 0 := dataOut_low _ p (by rw [State.port_setPort_same]; exact h)

/-- Settles O5: the frame by the placed requests, and by its first byte. -/
theorem frameStartReservesAnEntry : Obligations.FrameStartReservesAnEntry := by
  intro s p hl ht hs hf becomes
  have hl : s.linkTakes p = true := hl
  refine ⟨fun hlt => ?_, fun heq => ?_, fun hle => ?_⟩
  · have hfalls := selectFalls_placing hl hs hf hlt
    refine ⟨⟨exec_frameStart_of_clocked ht hfalls, dataOut_setPort_low _ (by simp)⟩, ?_, fun b hb =>
      ⟨exec_frameStart_of_clocked ht ?_, dataOut_setPort_low _ (by simp)⟩⟩
    · have hlink : (s.setPort p { s.port p with selectLow := true, frame := .placing [] }).linkTakes p = true := by
        simpa [State.linkTakes, alive_setPort] using hl
      simp [State.ready, hlink, PortUnit.entryFree, PortUnit.entriesTaken, Config.requestEntries]
    · rw [hfalls, clockBytes_start _ p b [] { s.port p with selectLow := true } (by simp) hb]
      simp
  · have hfalls := selectFalls_unplaced hl hs hf heq
    refine ⟨⟨exec_frameStart_of_clocked ht hfalls, dataOut_setPort_low _ (by simp)⟩, fun b hb =>
      ⟨exec_frameStart_of_clocked ht ?_, dataOut_setPort_low _ (by simp)⟩⟩
    rw [hfalls]
    show State.clockByte p _ b = _
    unfold State.clockByte
    rw [State.port_setPort_same]
    dsimp only
    rw [if_neg hb, State.setPort_setPort]
    rfl
  · refine ⟨exec_frameStart_of_clocked ht ?_, dataOut_setPort_low _ (by simp)⟩
    rcases Nat.lt_or_eq_of_le hle with hlt | heq
    · rw [selectFalls_placing hl hs hf hlt]
      exact clockByte_fetch (.inl rfl)
    · rw [selectFalls_unplaced hl hs hf heq]
      exact clockByte_fetch (.inr rfl)

/-! ### The checks common to all requests (R90) -/

theorem exec_requestCommand (k : ReqKind) (p : Port) (flags tag : Byte) (body : List Byte) (s : State) :
    exec (requestCommand k p flags tag body) s = .next (s.deliver p k.code flags tag body) := by
  cases k <;> rfl

theorem kindOf_code (k : ReqKind) : kindOf k.code = some k := by cases k <;> rfl

theorem ReqKind.code_ne_fetch (k : ReqKind) : k.code ≠ 0x0F := by cases k <;> decide

theorem mem_knownCodes {code : Byte} {n : Nat} (h : code.toNat = n) (hn : BitVec.ofNat 8 n ∈ knownCodes) : code ∈ knownCodes := by
  have : code = BitVec.ofNat 8 n := by rw [← h]; simp
  rw [this]; exact hn

/-- A code that no request has (R151). -/
theorem kindOf_unknown {code : Byte} (h : code ∉ knownCodes) : kindOf code = none := by
  unfold kindOf
  split
  case h_27 => rfl
  all_goals
    next hcode => exact absurd (mem_knownCodes hcode (by decide)) h

theorem commonRefusal_known {k : ReqKind} {r : Request} (hk : kindOf r.code = some k) :
    s.commonRefusal p r = firstFailure [(k.allowedOn p, .notPermitted), (p == .cp || s.mode != .lockout, .lockout),
      (k.lengthOk r.body, .malformed)] := by
  unfold State.commonRefusal
  rw [hk]

/-- A known request that a common check refuses at a port at rest. -/
theorem exec_common {k : ReqKind} {flags tag : Byte} {body : List Byte} {a : Answer} (hq : s.quiet p = true)
    (hb : body.length ≤ 88)
    (h : firstFailure [(k.allowedOn p, .notPermitted), (p == .cp || s.mode != .lockout, .lockout),
      (k.lengthOk body, .malformed)] = some a) :
    exec (requestCommand k p flags tag body) s = .next (s.served p ⟨k.code, tag, a, none, .none, []⟩) := by
  rw [exec_requestCommand]
  refine congrArg Host.Outcome.next (deliver_common s p k.code flags tag body a hq hb k.code_ne_fetch ?_)
  rw [commonRefusal_known (kindOf_code k)]
  exact h

/-- Settles O9: each clause fails the next of the common checks. -/
theorem commonChecksRefuseInOrder : Obligations.CommonChecksRefuseInOrder := by
  intro s p flags tag body hq hb
  refine ⟨fun code hu hf => ?_, fun k =>
    ⟨fun hno => exec_common hq hb (by simp [hno]), fun hall hp hm => ?_, fun hall hm hl => ?_⟩⟩
  · refine congrArg Host.Outcome.next (deliver_common s p code flags tag body _ hq hb hf ?_)
    unfold State.commonRefusal
    rw [kindOf_unknown hu]
  · exact exec_common hq hb (by simp [hall, hp, hm])
  · refine exec_common hq hb ?_
    rcases hm with rfl | hm
    · simp [hall, hl]
    · simp [hall, hm, hl]

/-- Settles O10: the try of the head finds no mode in which it can be taken. -/
theorem requestsWaitInZeroisingAndFailed : Obligations.RequestsWaitInZeroisingAndFailed := by
  intro s p k flags tag body hl ht hm hs hrq hb
  rw [exec_requestCommand]
  have hadm : (s.withRequest p ⟨k.code, tag, body⟩).admitting = false := by
    have : s.admitting = false := by
      unfold State.admitting
      rcases hm with hm | hm <;> simp [hm]
    exact this
  have htry : State.tryHead true p (s.withRequest p ⟨k.code, tag, body⟩) =
      (.waits, (s.withRequest p ⟨k.code, tag, body⟩).setWait p .mode) := by
    have hreq : ((s.withRequest p ⟨k.code, tag, body⟩).port p).requests = [⟨k.code, tag, body⟩] := by simp [State.withRequest]
    unfold State.tryHead State.tryWith
    simp [hreq, hadm, State.headWaits]
  have htries : ((s.withRequest p ⟨k.code, tag, body⟩).setWait p .mode).tries = [] := by simp [State.withRequest, ht]
  rw [deliver_onlyTry s p k.code flags tag body hl ht hs hrq k.code_ne_fetch hb (by rw [htry]; exact triesDue_of_tries _ htries),
    htry]
  dsimp only
  rw [tries_cleared htries]
  simp [State.withRequest, State.setWait, hs]

end Sys2Proof.Machine
end

/-! PROOF. Fetch frames (R147, R148): what a number of clocked bytes leaves of the port. -/

section
namespace Sys2Proof.Machine

variable {s : State} {p : Port}

theorem addTryIf_setPort {w : HeadWait} {u : PortUnit} (h : u.wait = (s.port p).wait) :
    (s.addTryIf p w).setPort p u = (s.setPort p u).addTryIf p w := by
  unfold State.addTryIf
  rw [State.port_setPort_same, h]
  split <;> rfl

theorem port_addTryIf (s : State) (p q : Port) (w : HeadWait) : (s.addTryIf p w).port q = s.port q := by
  unfold State.addTryIf
  split <;> rfl

/-- A head that is listed at a port without a request is not due (R89). -/
theorem runTries_addTryIf_empty {w : HeadWait} (ht : s.tries = []) (hr : (s.port p).requests = []) :
    (s.addTryIf p w).runTries true = s := by
  unfold State.addTryIf
  split
  · rw [runTries_done true _ (triesDue_addTry_empty s p (triesDue_of_tries s ht) hr)]
    exact addTry_cleared s p ht
  · exact runTries_of_tries ht

/-- The oldest response of a port in its bytes, as a fetch frame carries it. -/
def PortUnit.oldest (u : PortUnit) : List Byte := (u.occupied.head?.map Response.bytes).getD []

theorem oldest_isEmpty (u : PortUnit) : u.oldest.isEmpty = true ↔ u.occupied = [] := by
  unfold PortUnit.oldest
  cases u.occupied <;> simp [Response.bytes]

/-- All bytes of the oldest response are among the first `n` behind the code (R148). -/
def PortUnit.clockedOut (u : PortUnit) (n : Nat) : Prop := u.occupied ≠ [] ∧ 4 + u.oldest.length ≤ n

/-- The port unit in a fetch frame that has sent `n` bytes behind its code. -/
def PortUnit.sent (u : PortUnit) (header : List Byte) (n : Nat) : PortUnit :=
  { u with
    selectLow := true
    frame := .fetching header u.oldest n
    fetched := (List.range n).map fun i => (header ++ u.oldest).getD i 0
    fault := if 4 ≤ n then .none else u.fault
    occupied := if u.occupied ≠ [] ∧ 4 + u.oldest.length ≤ n then u.occupied.tail else u.occupied }

theorem sent_zero (u : PortUnit) (header : List Byte) :
    u.sent header 0 = { u with selectLow := true, fetched := [], frame := .fetching header u.oldest 0 } := by
  simp [PortUnit.sent]

/-- The next byte of a fetch frame (R147). -/
theorem clockByte_sent {t : State} {header : List Byte} {n : Nat} (h : t.port p = (s.port p).sent header n) (b : Byte) :
    State.clockByte p t b =
      if (s.port p).occupied ≠ [] ∧ n + 1 = 4 + (s.port p).oldest.length then
        (t.setPort p ((s.port p).sent header (n + 1))).addTryIf p .entry
      else t.setPort p ((s.port p).sent header (n + 1)) := by
  have hfault : (if n + 1 = 4 then LinkFault.none else if 4 ≤ n then .none else (s.port p).fault) =
      if 4 ≤ n + 1 then .none else (s.port p).fault := by
    by_cases h3 : n = 3
    · simp [h3]
    · have : (n + 1 = 4) = False := by simp; omega
      have h4 : (4 ≤ n + 1) = (4 ≤ n) := by simp; omega
      simp only [this, if_false, h4]
  have hempty : (¬ (s.port p).oldest.isEmpty = true) ↔ (s.port p).occupied ≠ [] := not_congr (oldest_isEmpty _)
  unfold State.clockByte
  rw [h]
  simp only [PortUnit.sent, State.fetchByte, h, hempty, hfault]
  by_cases hlast : (s.port p).occupied ≠ [] ∧ n + 1 = 4 + (s.port p).oldest.length
  · obtain ⟨ho, hn⟩ := id hlast
    have hbefore : ¬ 4 + (s.port p).oldest.length ≤ n := by omega
    have hnow : 4 + (s.port p).oldest.length ≤ n + 1 := by omega
    simp only [if_pos hlast]
    simp only [ho, hbefore, hnow, ne_eq, not_false_eq_true, and_self, and_false, if_true, if_false, List.range_succ,
      List.map_append, List.map_cons, List.map_nil]
  · have hsame : ((s.port p).occupied ≠ [] ∧ 4 + (s.port p).oldest.length ≤ n + 1) =
        ((s.port p).occupied ≠ [] ∧ 4 + (s.port p).oldest.length ≤ n) := by
      refine propext (and_congr_right fun ho => ?_)
      have : n + 1 ≠ 4 + (s.port p).oldest.length := fun hn => hlast ⟨ho, hn⟩
      omega
    rw [if_neg hlast, if_neg hlast]
    simp only [hsame, List.range_succ, List.map_append, List.map_cons, List.map_nil]

theorem clockBytes_append (s : State) (p : Port) (a b : List Byte) :
    s.clockBytes p (a ++ b) = (s.clockBytes p a).clockBytes p b := List.foldl_append

/-- A fetch frame that has sent `n` bytes behind its code (R147, R148). -/
def State.fetching (s : State) (p : Port) (n : Nat) : State := s.setPort p ((s.port p).sent (s.statusHeader p) n)

open Classical in
/-- What is left once `n` bytes have been clocked: where the oldest response is among them, the head may be tried. -/
theorem clockBytes_fetching (n : Nat) :
    (s.fetching p 0).clockBytes p (List.replicate n 0) =
      if (s.port p).clockedOut n then (s.fetching p n).addTryIf p .entry else s.fetching p n := by
  induction n with
  | zero =>
    rw [if_neg (fun h => by have := h.2; omega)]
    rfl
  | succ n ih =>
    rw [List.replicate_succ', clockBytes_append, ih]
    show State.clockByte p _ 0 = _
    have hport : ∀ m, (s.fetching p m).port p = (s.port p).sent (s.statusHeader p) m := fun m => State.port_setPort_same _ _ _
    have hnext : (s.fetching p n).setPort p ((s.port p).sent (s.statusHeader p) (n + 1)) = s.fetching p (n + 1) :=
      State.setPort_setPort _ _ _ _
    by_cases hout : (s.port p).clockedOut n
    · have hbefore := hout.2
      rw [if_pos hout, if_pos ⟨hout.1, by omega⟩, clockByte_sent (n := n) ((port_addTryIf _ _ _ _).trans (hport n)),
        if_neg (fun h => by omega), addTryIf_setPort (by rw [hport]; rfl), hnext]
    · rw [if_neg hout, clockByte_sent (n := n) (hport n), hnext]
      have hiff : (s.port p).clockedOut (n + 1) ↔ (s.port p).occupied ≠ [] ∧ n + 1 = 4 + (s.port p).oldest.length := by
        refine and_congr_right fun ho => ?_
        have : ¬ 4 + (s.port p).oldest.length ≤ n := fun h => hout ⟨ho, h⟩
        omega
      by_cases hlast : (s.port p).occupied ≠ [] ∧ n + 1 = 4 + (s.port p).oldest.length
      · rw [if_pos hlast, if_pos (hiff.2 hlast)]
      · rw [if_neg hlast, if_neg (fun h => hlast (hiff.1 h))]

/-- The frame before its end, and after it. -/
theorem fetch_start (hl : s.linkTakes p = true) (hs : (s.port p).selectLow = false) (hf : (s.port p).frame = .none)
    (hr : (s.port p).requests.length ≤ 8) (n : Nat) (ended : Bool) :
    s.fetch p n ended =
      let t := (s.fetching p 0).clockBytes p (List.replicate n 0)
      if ended then t.selectRises p else t := by
  have hstart : ∀ {f : Frame}, f = .placing [] ∨ f = .unplaced →
      s.selectFalls p = s.setPort p { s.port p with selectLow := true, frame := f } →
      (s.selectFalls p).clockBytes p ([0x0F] ++ List.replicate n 0) = (s.fetching p 0).clockBytes p (List.replicate n 0) := by
    intro f hf hfalls
    rw [clockBytes_append, hfalls]
    refine congrArg (fun t => State.clockBytes t p (List.replicate n 0)) ((clockByte_fetch hf).trans ?_)
    unfold State.fetching
    rw [sent_zero]
    rfl
  unfold State.fetch
  rw [hf]
  simp only [Frame.mayFetch, if_true]
  rcases Nat.lt_or_eq_of_le hr with hlt | heq
  · have hfalls := selectFalls_placing hl hs hf hlt
    have hfr : ((s.selectFalls p).port p).frame.isFetching = false := by rw [hfalls]; simp [Frame.isFetching]
    rw [hfr, ← hstart (.inl rfl) hfalls]
    rfl
  · have hfalls := selectFalls_unplaced hl hs hf heq
    have hfr : ((s.selectFalls p).port p).frame.isFetching = false := by rw [hfalls]; simp [Frame.isFetching]
    rw [hfr, ← hstart (.inr rfl) hfalls]
    rfl

theorem selectRises_fetching {t : State} {h r : List Byte} {n : Nat} (hf : (t.port p).frame = .fetching h r n) :
    t.selectRises p = t.setPort p { t.port p with frame := .none, selectLow := false } := by
  unfold State.selectRises
  dsimp only
  rw [hf]

/-- Settles O7: by the number of bytes clocked. -/
theorem fetchFrameSendsHeaderAndOldestResponse : Obligations.FetchFrameSendsHeaderAndOldestResponse := by
  intro s p n hl ht hs hf hr response removed sent after still
  have hexec : ∀ ended, exec (.fetchFrame p n ended) s = .next ((s.fetch p n ended).runTries true) := fun _ => rfl
  have hstill : s.fetching p n = still := rfl
  have htries : ∀ u : PortUnit, (s.setPort p u).tries = [] := fun u => by rw [State.setPort_tries, ht]
  have hend : (s.fetching p n).selectRises p = after := by
    rw [selectRises_fetching (h := s.statusHeader p) (r := (s.port p).oldest) (n := n)
      (by rw [State.fetching, State.port_setPort_same]; rfl)]
    unfold State.fetching
    rw [State.port_setPort_same, State.setPort_setPort]
    rfl
  have hendTry : ((s.fetching p n).addTryIf p .entry).selectRises p = after.addTryIf p .entry := by
    rw [selectRises_fetching (h := s.statusHeader p) (r := (s.port p).oldest) (n := n)
      (by rw [port_addTryIf, State.fetching, State.port_setPort_same]; rfl), port_addTryIf,
      addTryIf_setPort (u := { (s.fetching p n).port p with frame := .none, selectLow := false }) rfl, ← hend,
      selectRises_fetching (h := s.statusHeader p) (r := (s.port p).oldest) (n := n)
      (by rw [State.fetching, State.port_setPort_same]; rfl)]
  have hafter : (s.port p).requests = [] → (after.addTryIf p .entry).runTries true = after := fun he =>
    runTries_addTryIf_empty (htries _) (by rw [State.port_setPort_same]; exact he)
  simp only [hexec, fetch_start hl hs hf hr, clockBytes_fetching, if_true, Bool.false_eq_true, if_false]
  refine ⟨fun hno => ?_, fun hyes => ?_, fun he => ?_, fun h => ?_, ?_, dataOut_setPort_low _ (by simp)⟩
  · rw [if_neg (show ¬ (s.port p).clockedOut n from hno), hend, runTries_of_tries (htries _)]
  · rw [if_pos (show (s.port p).clockedOut n from hyes), hendTry]
  · by_cases hyes : (s.port p).clockedOut n
    · rw [if_pos hyes, hendTry, hafter he]
    · rw [if_neg hyes, hend, runTries_of_tries (htries _)]
  · by_cases hyes : (s.port p).clockedOut n
    · have he := h.resolve_left fun hno => hno hyes
      rw [if_pos hyes, hstill, runTries_addTryIf_empty (htries _) (by rw [State.port_setPort_same]; exact he)]
    · rw [if_neg hyes, hstill, runTries_of_tries (htries _)]
  · unfold State.dataOut
    rw [State.port_setPort_same]
    cases n with
    | zero => rfl
    | succ n => simp

end Sys2Proof.Machine
end

/-! SUPPORT. A request frame at a port at rest, for whatever request: refused, left waiting or answered (R89 to R92); and the
fields of a body read back from the bytes that spell them (Figure 14, R171). -/

section
namespace Sys2Proof.Machine

/-! ### The tables beside a placed request -/

section Tables

variable (s : State) (p : Port) (r : Request)

@[simp] theorem State.entry_withRequest (n : Nat) : (s.withRequest p r).entry n = s.entry n := rfl
@[simp] theorem State.batch_withRequest (n : Nat) : (s.withRequest p r).batch n = s.batch n := rfl
@[simp] theorem State.job_withRequest (n : Nat) : (s.withRequest p r).job n = s.job n := rfl
@[simp] theorem State.liveOf_withRequest (q : Port) : (s.withRequest p r).liveOf q = s.liveOf q := rfl
@[simp] theorem State.binding_withRequest (l : LinePort) : (s.withRequest p r).binding l = s.binding l := rfl
@[simp] theorem State.ceremony_withRequest : (s.withRequest p r).ceremony = s.ceremony := rfl

end Tables

/-! ### A known request at a port at rest -/

section Frame

variable {s : State} {p : Port} {k : ReqKind} {flags tag : Byte} {body : List Byte} (hq : s.quiet p = true)
  (hb : body.length ≤ 88) (ha : k.allowedOn p = true) (hm : p = .cp ∨ s.mode = .operating) (hl : k.lengthOk body = true)

theorem not_lockout_of_operating (hm : p = .cp ∨ s.mode = .operating) : p = .cp ∨ s.mode ≠ .lockout :=
  hm.imp_right fun h => by simp [h]

include hq hb ha hm hl

theorem exec_refused {x : RefusalRec}
    (hv : admitKind true k p ⟨k.code, tag, body⟩ (s.withRequest p ⟨k.code, tag, body⟩) = .refuse x) :
    exec (requestCommand k p flags tag body) s = .next (s.served p ⟨k.code, tag, x.answer, x.slot, x.stage, []⟩) := by
  rw [exec_requestCommand]
  exact congrArg Host.Outcome.next <| deliver_refused s p k k.code flags tag body x hq hb (kindOf_code k) k.code_ne_fetch ha
    (not_lockout_of_operating hm) hl hv

theorem exec_waits {w : HeadWait}
    (hv : admitKind true k p ⟨k.code, tag, body⟩ (s.withRequest p ⟨k.code, tag, body⟩) = .wait w) :
    exec (requestCommand k p flags tag body) s =
      .next ((s.withRequest p ⟨k.code, tag, body⟩).headWaits p ⟨k.code, tag, body⟩ w) := by
  rw [exec_requestCommand]
  exact congrArg Host.Outcome.next <| deliver_waits s p k k.code flags tag body w hq hb (kindOf_code k) k.code_ne_fetch ha
    (not_lockout_of_operating hm) hl hv

theorem exec_accepted {t : State}
    (hv : admitKind true k p ⟨k.code, tag, body⟩ (s.withRequest p ⟨k.code, tag, body⟩) = .accept t)
    (hr : (t.port p).requests = []) (hn : t.triesDue = []) :
    exec (requestCommand k p flags tag body) s = .next { t with tries := [] } := by
  rw [exec_requestCommand]
  exact congrArg Host.Outcome.next <| deliver_accepted s t p k k.code flags tag body hq hb (kindOf_code k) k.code_ne_fetch ha
    (not_lockout_of_operating hm) hl hv hr hn

end Frame

/-! ### A request of the custody console at rest -/

section Console

variable {s : State} {k : ReqKind} {flags tag : Byte} {body : List Byte}

/-- Every request but a STREAM-CHUNK has a body of one length, which fits a frame. -/
theorem length_le_of_lengthOk (hk : k ≠ .streamChunk) (hl : k.lengthOk body = true) : body.length ≤ 88 := by
  cases k <;> simp_all [ReqKind.lengthOk]

theorem ne_streamChunk_of_allowed (ha : k.allowedOn .cp = true) : k ≠ .streamChunk := by
  rintro rfl
  exact absurd ha (by decide)

variable (hq : s.quiet .cp = true) (hl : k.lengthOk body = true)
include hq hl

theorem exec_cp_refused {x : RefusalRec} (ha : k.allowedOn .cp = true)
    (hv : admitKind true k .cp ⟨k.code, tag, body⟩ (s.withRequest .cp ⟨k.code, tag, body⟩) = .refuse x) :
    exec (requestCommand k .cp flags tag body) s = .next (s.served .cp ⟨k.code, tag, x.answer, x.slot, x.stage, []⟩) :=
  exec_refused hq (length_le_of_lengthOk (ne_streamChunk_of_allowed ha) hl) ha (.inl rfl) hl hv

/-- A request answered at its admission, whose effect leaves the port units and the list of tries alone. -/
theorem exec_cp_answered {answer : List Byte} {effect : State → State} (ha : k.allowedOn .cp = true)
    (hv : admitKind true k .cp ⟨k.code, tag, body⟩ (s.withRequest .cp ⟨k.code, tag, body⟩) =
      (s.withRequest .cp ⟨k.code, tag, body⟩).answered .cp ⟨k.code, tag, body⟩ answer effect)
    (hp : ∀ (t : State) (u : PortUnit), effect (t.setPort .cp u) = (effect t).setPort .cp u := by intros; rfl)
    (ht : (effect s).tries = s.tries := by rfl) (hr : (effect s).port .cp = s.port .cp := by rfl) :
    exec (requestCommand k .cp flags tag body) s = .next ((effect s).served .cp (plainResponse k.code tag .done answer)) := by
  obtain ⟨_, htries, _⟩ := (State.quiet_iff s .cp).1 hq
  rw [exec_requestCommand]
  exact congrArg Host.Outcome.next <| deliver_answered s .cp k k.code flags tag body answer effect hq
    (length_le_of_lengthOk (ne_streamChunk_of_allowed ha) hl) (kindOf_code k) k.code_ne_fetch ha (.inl rfl) hl hv hp
    (fun _ => rfl) (ht.trans htries) hr

end Console

/-! ### Refusals that name a slot (R12, R40) -/

theorem named_of_le {a : Answer} {slot : Nat} (h : slot ≤ 127) : named a slot = ⟨a, some slot, .none⟩ := by
  simp [named, slotNamed, h]

theorem named_of_lt {a : Answer} {slot : Nat} (h : 127 < slot) : named a slot = bare a := by
  simp [named, slotNamed, bare, Nat.not_le.2 h]

/-! ### Fields of a body -/

@[simp] theorem field_cons_zero (b : Byte) (bs : List Byte) : field (b :: bs) 0 = b.toNat := rfl

@[simp] theorem field_cons_succ (b : Byte) (bs : List Byte) (i : Nat) : field (b :: bs) (i + 1) = field bs i := rfl

theorem field_lt (body : List Byte) (i : Nat) : field body i < 256 := (body.getD i 0).isLt

theorem field_append_right {xs : List Byte} {i : Nat} (h : xs.length ≤ i) (ys : List Byte) :
    field (xs ++ ys) i = field ys (i - xs.length) := by
  unfold field
  rw [List.getD_append_right _ _ _ _ h]

theorem slice_append_right {xs : List Byte} {i : Nat} (h : xs.length ≤ i) (ys : List Byte) (n : Nat) :
    slice (xs ++ ys) i n = slice ys (i - xs.length) n := by
  unfold slice
  rw [List.drop_append, List.drop_eq_nil_of_le h, List.nil_append]

/-- A part of a body that stands at its front. -/
theorem slice_zero {xs : List Byte} {n : Nat} (h : xs.length = n) (ys : List Byte) : slice (xs ++ ys) 0 n = xs := by
  unfold slice
  rw [List.drop_zero, List.take_left' h]

theorem slice_zero_self {xs : List Byte} {n : Nat} (h : xs.length = n) : slice xs 0 n = xs := by
  simpa using slice_zero h []

@[simp] theorem slice_cons_succ (b : Byte) (bs : List Byte) (i n : Nat) : slice (b :: bs) (i + 1) n = slice bs i n := rfl

theorem slice_length {body : List Byte} {i n : Nat} (h : i + n ≤ body.length) : (slice body i n).length = n := by
  simp [slice]; omega

/-- A byte is spelt from the number it is. -/
theorem byte_field (body : List Byte) (i : Nat) : byte (field body i) = body.getD i 0 := by simp [byte, field]

theorem drop_eq_field_cons {body : List Byte} {i : Nat} (h : i < body.length) :
    body.drop i = byte (field body i) :: body.drop (i + 1) := by
  rw [byte_field, List.drop_eq_getElem_cons h, List.getD_eq_getElem _ _ h]

theorem drop_eq_slice_append (body : List Byte) (i n : Nat) : body.drop i = slice body i n ++ body.drop (i + n) := by
  rw [slice, ← List.drop_drop, List.take_append_drop]

/-! ### Codes read back (Figure 17, R171) -/

theorem cellOf_code (c : CellId) : cellOf c.code.toNat = some c := by cases c <;> rfl

/-- A byte that names no cell. -/
theorem cellOf_other {c : Byte} (ha : c ≠ 0x00) (hb : c ≠ 0x01) : cellOf c.toNat = none := by
  have h0 : c.toNat ≠ 0 := fun h => ha (BitVec.eq_of_toNat_eq h)
  have h1 : c.toNat ≠ 1 := fun h => hb (BitVec.eq_of_toNat_eq h)
  unfold cellOf
  split
  · exact absurd ‹_› h0
  · exact absurd ‹_› h1
  · rfl

theorem classOf_code (c : KeyClass) : classOf c.code.toNat = some c := by cases c <;> rfl

theorem toNat_of_classOf {n : Nat} {c : KeyClass} (h : classOf n = some c) : c.code.toNat = n := by
  unfold classOf at h
  split at h <;> cases h <;> rfl

theorem lineOf_code (l : LinePort) : lineOf (lineCode l).toNat = some l := by cases l <;> rfl

theorem toNat_of_lineOf {n : Nat} {l : LinePort} (h : lineOf n = some l) : (lineCode l).toNat = n := by
  unfold lineOf at h
  split at h <;> cases h <;> rfl

/-- An optional number below 0xFF is read back from its byte. -/
theorem domainOf_optByte {d : Option Nat} (h : ∀ x ∈ d, x < 255) : domainOf (optByte d).toNat = d := by
  cases d with
  | none => rfl
  | some x =>
    have hx : x < 255 := h x rfl
    have hb : (optByte (some x)).toNat = x := byte_toNat x (by omega)
    rw [hb, domainOf, if_neg (by omega)]

theorem optByte_domainOf {n : Nat} (h : n < 256) : (optByte (domainOf n)).toNat = n := by
  unfold domainOf
  split
  · subst n; rfl
  · exact byte_toNat n h

/-! ### Sets (R171) -/

/-- The members that bytes of 0x00 and 0x01 spell; `readSet_of_ok` ties it to `readSet`. -/
def readMembers {α : Type} (all : List α) (bytes : List Byte) : List α :=
  (all.zip bytes).filterMap fun m => if m.2 == 1 then some m.1 else none

section Members

variable {α : Type} {all : List α} {bytes : List Byte}

theorem readSet_of_ok (h : bytes.all (fun b => b == 0 || b == 1) = true) : readSet all bytes = some (readMembers all bytes) :=
  if_pos h

theorem readSet_eq_none_iff (all : List α) (bytes : List Byte) :
    readSet all bytes = none ↔ ∃ b ∈ bytes, b ≠ 0x00 ∧ b ≠ 0x01 := by
  simp [readSet]

theorem mem_of_mem_readMembers {a : α} (h : a ∈ readMembers all bytes) : a ∈ all := by
  obtain ⟨m, hm, ha⟩ := List.mem_filterMap.1 h
  split at ha
  · cases ha
    exact (List.of_mem_zip (show (m.1, m.2) ∈ _ from hm)).1
  · cases ha

@[simp] theorem readMembers_zero (a : α) (all : List α) (bytes : List Byte) :
    readMembers (a :: all) (0 :: bytes) = readMembers all bytes := rfl

@[simp] theorem readMembers_one (a : α) (all : List α) (bytes : List Byte) :
    readMembers (a :: all) (1 :: bytes) = a :: readMembers all bytes := rfl

end Members

theorem setBytes_cons {α : Type} [BEq α] (a : α) (all set : List α) :
    setBytes (a :: all) set = (if set.contains a then 1 else 0) :: setBytes all set := rfl

section Sets

variable {α : Type} [BEq α] [LawfulBEq α] {all set : List α} {bytes : List Byte}

/-- A member that is not spelt changes no byte of the others. -/
theorem setBytes_cons_other {a : α} (ha : a ∉ all) (set : List α) : setBytes all (a :: set) = setBytes all set := by
  refine List.map_congr_left fun x hx => ?_
  have hxa : x ≠ a := fun h => ha (h ▸ hx)
  simp [hxa]

/-- The members read, spelt again, give the bytes they were read from. -/
theorem setBytes_readMembers (hlen : bytes.length = all.length) (hn : all.Nodup)
    (hok : bytes.all (fun b => b == 0 || b == 1) = true) : setBytes all (readMembers all bytes) = bytes := by
  induction all generalizing bytes with
  | nil => exact (List.eq_nil_of_length_eq_zero hlen).symm
  | cons a all ih =>
    cases bytes with
    | nil => cases hlen
    | cons b bytes =>
      obtain ⟨ha, hn⟩ := List.nodup_cons.1 hn
      simp only [List.all_cons, Bool.and_eq_true, Bool.or_eq_true, beq_iff_eq] at hok
      have htail := ih (by simpa using hlen) hn hok.2
      rcases hok.1 with rfl | rfl
      · have hnot : a ∉ readMembers all bytes := fun h => ha (mem_of_mem_readMembers h)
        rw [readMembers_zero, setBytes_cons, htail, if_neg (by simpa using hnot)]
      · rw [readMembers_one, setBytes_cons, setBytes_cons_other ha, htail, if_pos (by simp)]

/-- A set that bytes spell: they are its membership bytes, and it stands in member order. -/
theorem readSet_spelt (hlen : bytes.length = all.length) (hn : all.Nodup) (h : readSet all bytes = some set) :
    setBytes all set = bytes ∧ set = all.filter set.contains := by
  by_cases hok : bytes.all (fun b => b == 0 || b == 1) = true
  · have hset := Option.some.inj ((readSet_of_ok hok).symm.trans h)
    have hbytes : setBytes all set = bytes := by rw [← hset]; exact setBytes_readMembers hlen hn hok
    have hread := readSet_setBytes all set
    rw [hbytes, h] at hread
    exact ⟨hbytes, Option.some.inj hread⟩
  · rw [readSet, if_neg hok] at h
    cases h

end Sets

end Sys2Proof.Machine
end

/-! PROOF. Requests of a port answered at their admission: the enable set, the reading requests, and the entries and cells given
up or put into service (R14, R16, R18, R19, R69, R70, R150). -/

section
namespace Sys2Proof.Machine

/-! ### SET-ATTN and the ATTN line (R149, R150) -/

section SetAttn

variable {s : State} {p : Port} {flags tag : Byte} {body : List Byte} {conds : List AttnCond}

theorem admitSetAttn_unreadable {r : Request} (h : readSet allConds r.body = none) :
    admitSetAttn p r s = .refuse (bare .range) := by
  simp only [admitSetAttn, h]

theorem admitSetAttn_notice {r : Request} (h : readSet allConds r.body = some conds) (hp : p ≠ .cp)
    (hn : AttnCond.notice ∈ conds) : admitSetAttn p r s = .refuse (bare .range) := by
  have : (conds.contains .notice && p != .cp) = true := by simp [hn, hp]
  simp only [admitSetAttn, h, this, if_true]

theorem admitSetAttn_answered {r : Request} (h : readSet allConds r.body = some conds)
    (hp : p = .cp ∨ AttnCond.notice ∉ conds) :
    admitSetAttn p r s =
      s.answered p r (setBytes allConds conds) fun t => t.setPort p { t.port p with attn := conds } := by
  have : ¬ (conds.contains .notice && p != .cp) = true := by rcases hp with hp | hp <;> simp [hp]
  simp only [admitSetAttn, h, if_neg this]

/-- The only request of a port at rest answered, with the enable set replaced. -/
theorem answered_attn (hq : s.quiet p = true) (r : Request) (answer : List Byte) :
    (s.withRequest p r).answered p r answer (fun t => t.setPort p { t.port p with attn := conds }) =
      .accept ((s.setPort p { s.port p with
        frame := .none, wait := .none, attn := conds
        occupied := (s.port p).occupied ++ [plainResponse r.code r.tag .done answer] }).leaveWaitList p) := by
  obtain ⟨_, _, _, hsel, hrq, _⟩ := (State.quiet_iff s p).1 hq
  unfold State.answered State.answer State.respond
  simp [State.withRequest, State.beginAdmission, hsel, hrq]
  cases p <;> simp [State.leaveWaitList, State.setPort]

theorem lengthOk_setAttn (h : body.length = 5) : ReqKind.setAttn.lengthOk body = true := by simp [ReqKind.lengthOk, h]

theorem exec_setAttn_refused (hq : s.quiet p = true) (hm : p = .cp ∨ s.mode = .operating) (hlen : body.length = 5)
    (h : admitSetAttn p ⟨0x09, tag, body⟩ (s.withRequest p ⟨0x09, tag, body⟩) = .refuse (bare .range)) :
    exec (.setAttn p flags tag body) s = .next (s.served p ⟨0x09, tag, .range, none, .none, []⟩) :=
  exec_refused (k := .setAttn) hq (by omega) rfl hm (lengthOk_setAttn hlen) h

end SetAttn

theorem condHolds_requestSpace (s : State) (p : Port) :
    s.condHolds p .requestSpace = true ↔
      (∃ got, (s.port p).frame = .placing got) ∧ (s.port p).requests.length + 1 < 8 ∨
        (∀ got, (s.port p).frame ≠ .placing got) ∧ (s.port p).requests.length < 8 := by
  unfold State.condHolds PortUnit.entryFree PortUnit.entriesTaken
  rw [decide_eq_true_iff]
  cases (s.port p).frame <;> simp [Config.requestEntries]

/-- Settles O12: the body by whether it spells a set, the set by whether it names NOTICE, and ATTN by its conditions. -/
theorem setAttnReplacesTheEnableSet : Obligations.SetAttnReplacesTheEnableSet := by
  refine ⟨fun s p flags tag conds hq hm hset => ⟨fun hp => ?_, fun hp hn => ?_⟩, fun s p flags tag body hq hm hlen hbad => ?_,
    fun s p => ?_⟩
  · have hq : s.quiet p = true := hq
    have hread : readSet allConds (setBytes allConds conds) = some conds := by rw [readSet_setBytes, ← hset]
    obtain ⟨_, htries, _, _, hrq, _⟩ := (State.quiet_iff s p).1 hq
    refine (exec_accepted (k := .setAttn) hq (by simp [allConds]) rfl hm (lengthOk_setAttn (by simp [allConds]))
      ((admitSetAttn_answered hread hp).trans (answered_attn hq _ _)) (by simp [hrq])
      (triesDue_of_tries _ (by simp [htries]))).trans ?_
    rw [tries_cleared (by simp [htries])]
    rfl
  · have hread : readSet allConds (setBytes allConds conds) = some conds := by rw [readSet_setBytes, ← hset]
    exact exec_setAttn_refused hq hm (by simp [allConds]) (admitSetAttn_notice hread hp hn)
  · exact exec_setAttn_refused hq hm hlen (admitSetAttn_unreadable ((readSet_eq_none_iff _ _).2 hbad))
  · unfold State.attnHigh State.linkTakes State.alive
    simp only [Bool.and_eq_true, Bool.not_eq_true', List.any_eq_true, and_assoc]
    refine and_congr_right fun _ => and_congr_right fun _ => and_congr_right fun _ => exists_congr fun c =>
      and_congr_right fun _ => ?_
    cases c with
    | requestSpace => exact condHolds_requestSpace s p
    | _ => simp [State.condHolds]

/-! ### READ-ENTRY, QUERY-BATCH and READ-MAP (R19, R69, R70) -/

section Reading

variable {s : State} {p : Port} {r : Request}

theorem inReach_iff {b : Batch} : s.inReach p b = true ↔ p = .cp ∨ ∃ l, p = .line l ∧ b.domain ∈ (s.binding l).domains := by
  cases p with
  | cp => simp [State.inReach]
  | line l => simp [State.inReach]

/-- The body of a QUERY-BATCH's DONE (R70, Figure 15); `admitQueryBatch_answered` ties it to the model. -/
def queryBody (n : Nat) (b : Batch) : List Byte :=
  [byte n, b.state.code, byte b.domain] ++ beBytes 4 b.first ++ beBytes 2 b.quantity ++ beBytes 2 b.derived ++
    [byte b.reissued, byte b.allowance, byte b.freshRes, byte b.reissueRes, byte b.level]

section Fields

variable {n : Nat} (hn : field r.body 0 = n)
include hn

theorem admitReadEntry_range (h : 127 < n) : admitReadEntry p r s = .refuse (bare .range) := by
  subst hn
  rw [admitReadEntry, if_pos (by omega), named_of_lt h]

theorem admitReadEntry_answered (h : n ≤ 127) : admitReadEntry p r s = s.answered p r (entryBody n (s.entry n)) id := by
  subst hn
  rw [admitReadEntry, if_neg (by omega)]

theorem admitQueryBatch_range (h : 31 < n) : admitQueryBatch p r s = .refuse (bare .range) := by
  subst hn
  simp [admitQueryBatch, Nat.not_le.2 h]

theorem admitQueryBatch_domain (h : n ≤ 31) (hr : s.inReach p (s.batch n) = false) :
    admitQueryBatch p r s = .refuse (bare .domain) := by
  subst hn
  simp [admitQueryBatch, h, hr]

theorem admitQueryBatch_answered (h : n ≤ 31) (hr : s.inReach p (s.batch n) = true) :
    admitQueryBatch p r s = s.answered p r (queryBody n (s.batch n)) id := by
  subst hn
  simp [admitQueryBatch, h, hr, queryBody]

theorem admitReadMap_range (h : 31 < n) : admitReadMap p r s = .refuse (bare .range) := by
  subst hn
  simp [admitReadMap, Nat.not_le.2 h]

theorem admitReadMap_unused (h : n ≤ 31) (hu : (s.batch n).state = .unused) :
    admitReadMap p r s = .refuse (bare .batchState) := by
  subst hn
  simp [admitReadMap, h, hu]

variable {p0 : Nat} (hp0 : beNat (slice r.body 1 2) = p0)
include hp0

theorem admitReadMap_position (h : n ≤ 31) (hu : (s.batch n).state ≠ .unused) (hp : (s.batch n).quantity ≤ p0) :
    admitReadMap p r s = .refuse (bare .range) := by
  subst hn hp0
  simp [admitReadMap, h, hu, Nat.not_lt.2 hp]

theorem admitReadMap_answered (h : n ≤ 31) (hu : (s.batch n).state ≠ .unused) (hp : p0 < (s.batch n).quantity) :
    admitReadMap p r s = s.answered p r
      ([byte n] ++ (s.batch n).label ++ beBytes 2 p0 ++ [byte (min 64 ((s.batch n).quantity - p0))] ++
        (((s.batch n).map.drop p0).take (min 64 ((s.batch n).quantity - p0))).map PosState.code) id := by
  subst hn hp0
  simp [admitReadMap, h, hu, hp, Config.mapRun]

end Fields

theorem slice_position (b : Byte) {p0 : Nat} (h : p0 < 65536) : beNat (slice ([b] ++ beBytes 2 p0) 1 2) = p0 := by
  rw [List.singleton_append, slice_cons_succ, slice_zero_self (beBytes_length 2 p0), beNat_beBytes 2 p0 h]

end Reading

section QueryBatch

variable {s : State} {p : Port} {flags tag : Byte} {n : Nat} (hq : s.quiet p = true) (hm : p = .cp ∨ s.mode = .operating)
include hq hm

theorem exec_queryBatch_refused {x : RefusalRec}
    (h : admitQueryBatch p ⟨0x0A, tag, [byte n]⟩ (s.withRequest p ⟨0x0A, tag, [byte n]⟩) = .refuse x) :
    exec (.queryBatch p flags tag [byte n]) s = .next (s.served p ⟨0x0A, tag, x.answer, x.slot, x.stage, []⟩) :=
  exec_refused (k := .queryBatch) hq (by simp) rfl hm rfl h

theorem exec_queryBatch_answered {answer : List Byte}
    (h : admitQueryBatch p ⟨0x0A, tag, [byte n]⟩ (s.withRequest p ⟨0x0A, tag, [byte n]⟩) =
      (s.withRequest p ⟨0x0A, tag, [byte n]⟩).answered p ⟨0x0A, tag, [byte n]⟩ answer id) :
    exec (.queryBatch p flags tag [byte n]) s = .next (s.served p (plainResponse 0x0A tag .done answer)) := by
  obtain ⟨_, htries, _⟩ := (State.quiet_iff s p).1 hq
  exact congrArg Host.Outcome.next <| deliver_answered s p .queryBatch _ flags tag _ answer id hq (by simp) rfl (by decide) rfl
    (not_lockout_of_operating hm) rfl h (fun _ _ => rfl) (fun _ => rfl) htries rfl

end QueryBatch

/-- Settles O13: each request by the range of its fields, then by the batch or entry they name. -/
theorem readingRequestsReturnTheTables : Obligations.ReadingRequestsReturnTheTables := by
  intro s flags tag refusal
  refine ⟨fun slot hq hlt hle => ?readRange, fun p n hq hn hm => ⟨fun hlt => ?queryRange, fun hle hout => ?queryReach⟩,
    fun n p0 hq hn hp0 => ⟨fun hlt => ?mapRange, fun hle hu => ?mapUnused, fun hle hu hpos => ?mapPosition⟩,
    fun slot hq hle => ?readEntry, fun p n hq hle hreach => ?query, fun n p0 hq hle hu hpos hp0 => ?readMap⟩
  case readRange =>
    exact exec_cp_refused (k := .readEntry) hq rfl rfl (admitReadEntry_range (field_zero slot (by omega) _) hlt)
  case queryRange =>
    exact exec_queryBatch_refused hq hm (admitQueryBatch_range (field_zero n (by omega) _) hlt)
  case queryReach =>
    obtain ⟨l, rfl, hout⟩ := hout
    have hnot : s.inReach (.line l) (s.batch n) = false := Bool.eq_false_iff.2 fun h => hout (by simpa [inReach_iff] using h)
    exact exec_queryBatch_refused hq hm (admitQueryBatch_domain (field_zero n (by omega) _) hle hnot)
  case mapRange =>
    exact exec_cp_refused (k := .readMap) hq (by simp [ReqKind.lengthOk]) rfl
      (admitReadMap_range (field_zero n (by omega) _) hlt)
  case mapUnused =>
    exact exec_cp_refused (k := .readMap) hq (by simp [ReqKind.lengthOk]) rfl
      (admitReadMap_unused (field_zero n (by omega) _) hle hu)
  case mapPosition =>
    exact exec_cp_refused (k := .readMap) hq (by simp [ReqKind.lengthOk]) rfl
      (admitReadMap_position (field_zero n (by omega) _) (slice_position _ hp0) hle hu hpos)
  case readEntry =>
    have hanswer : exec (.readEntry .cp flags tag [byte slot]) s =
        .next (s.served .cp (plainResponse 0x14 tag .done (entryBody slot (s.entry slot)))) :=
      exec_cp_answered (k := .readEntry) (effect := id) hq rfl rfl (admitReadEntry_answered (field_zero slot (by omega) _) hle)
    rw [hanswer]
    refine ⟨fun he => ?_, fun k he => ?_, fun g he => ?_⟩
    all_goals
      rw [he]
      simp [entryBody, Entry.kindCode, Cell.bytes]
  case query =>
    have hm : p = .cp ∨ s.mode = .operating := hreach.imp_right fun h => h.1
    have hin : s.inReach p (s.batch n) = true := inReach_iff.2 (hreach.imp_right fun h => h.2)
    exact exec_queryBatch_answered hq hm (admitQueryBatch_answered (field_zero n (by omega) _) hle hin)
  case readMap =>
    exact exec_cp_answered (k := .readMap) (effect := id) hq (by simp [ReqKind.lengthOk]) rfl
      (admitReadMap_answered (field_zero n (by omega) _) (slice_position _ hp0) hle hu hpos)

end Sys2Proof.Machine
end

/-! PROOF. REMOVE-ENTRY, DISCARD-CELL and SWAP-CELL: by the entry in the slot and the states of its cells (R14, R16, R18). -/

section
namespace Sys2Proof.Machine

section Rules

variable {s : State} {p : Port} {r : Request} {slot : Nat} (hn : field r.body 0 = slot)
include hn

/-! ### REMOVE-ENTRY (R14) -/

theorem admitRemoveEntry_range (h : 127 < slot) : admitRemoveEntry p r s = .refuse (bare .range) := by
  subst hn
  simp [admitRemoveEntry, Nat.not_le.2 h, named_of_lt h]

theorem admitRemoveEntry_absent (h : slot ≤ 127) (he : s.entry slot = .empty) :
    admitRemoveEntry p r s = .refuse ⟨.absent, some slot, .none⟩ := by
  subst hn
  simp [admitRemoveEntry, h, he, named_of_le h]

theorem admitRemoveEntry_cellState (h : slot ≤ 127) {k : KeyEntry} (he : s.entry slot = .key k)
    (hc : k.cellA.state ≠ .blank ∨ k.cellB.state ≠ .blank) :
    admitRemoveEntry p r s = .refuse ⟨.cellState, some slot, .none⟩ := by
  subst hn
  have hnot : (Entry.key k).removable = false := by
    rcases hc with hc | hc <;> simp [Entry.removable, hc]
  simp [admitRemoveEntry, h, he, hnot, named_of_le h]

theorem admitRemoveEntry_answered (h : slot ≤ 127) (he : s.entry slot ≠ .empty) (hr : (s.entry slot).removable = true) :
    admitRemoveEntry p r s =
      s.answered p r [byte slot, (s.entry slot).kindCode] fun t => t.setEntry slot .empty := by
  subst hn
  simp [admitRemoveEntry, h, he, hr]

/-! ### DISCARD-CELL (R18) -/

theorem admitDiscardCell_noCell (hc : cellOf (field r.body 1) = none) :
    admitDiscardCell p r s = .refuse (named .range slot) := by
  subst hn
  simp only [admitDiscardCell, hc]

theorem admitDiscardCell_range (h : 127 < slot) : admitDiscardCell p r s = .refuse (bare .range) := by
  subst hn
  simp only [admitDiscardCell, if_pos (Nat.not_le.2 h), named_of_lt h]
  cases cellOf (field r.body 1) <;> rfl

section Cell

variable {c : CellId} (hc : cellOf (field r.body 1) = some c) (h : slot ≤ 127)
include hc h

theorem admitDiscardCell_noKey (he : ∀ k, s.entry slot ≠ .key k) :
    admitDiscardCell p r s = .refuse ⟨.cellState, some slot, .none⟩ := by
  subst hn
  simp only [admitDiscardCell, hc, if_neg (not_not.2 h), named_of_le h]

theorem admitDiscardCell_key {k : KeyEntry} (he : s.entry slot = .key k) :
    admitDiscardCell p r s =
      match (k.cell c).state with
      | .ready =>
        s.answered p r ([byte slot, c.code] ++ checkBytes ((k.cell c).check.getD 0)) fun t =>
          t.setEntry slot (.key (k.setCell c ⟨.blank, none, none, 0⟩))
      | .draining => .refuse ⟨.busy, some slot, .none⟩
      | .forming => .refuse ⟨.ceremonyState, some slot, .none⟩
      | .serving => .refuse ⟨.cellState, some slot, .none⟩
      | .blank => .refuse ⟨.cellState, some slot, .none⟩ := by
  subst hn
  simp only [admitDiscardCell, hc, if_neg (not_not.2 h), he, named_of_le h]
  cases (k.cell c).state <;> rfl

end Cell

/-! ### SWAP-CELL (R16) -/

theorem admitSwapCell_range (h : 127 < slot) : admitSwapCell p r s = .refuse (bare .range) := by
  subst hn
  simp only [admitSwapCell, if_pos (Nat.not_le.2 h), named_of_lt h]

theorem admitSwapCell_noKey (h : slot ≤ 127) (he : ∀ k, s.entry slot ≠ .key k) :
    admitSwapCell p r s = .refuse ⟨.cellState, some slot, .none⟩ := by
  subst hn
  simp only [admitSwapCell, if_neg (not_not.2 h), named_of_le h]

theorem admitSwapCell_none (h : slot ≤ 127) {k : KeyEntry} (he : s.entry slot = .key k) (hk : k.swapTo = none) :
    admitSwapCell p r s = .refuse ⟨.cellState, some slot, .none⟩ := by
  subst hn
  simp only [admitSwapCell, if_neg (not_not.2 h), he, hk, named_of_le h]

theorem admitSwapCell_answered (h : slot ≤ 127) {k : KeyEntry} (he : s.entry slot = .key k) {y : CellId}
    (hk : k.swapTo = some y) :
    admitSwapCell p r s = s.answered p r (swapBody slot (k.swapped y) y) fun t => t.setEntry slot (.key (k.swapped y)) := by
  subst hn
  simp only [admitSwapCell, if_neg (not_not.2 h), he, hk]

end Rules

/-- Settles O15: REMOVE-ENTRY by the entry, DISCARD-CELL by the state of the cell. -/
theorem entriesAndCellsAreGivenUp : Obligations.EntriesAndCellsAreGivenUp := by
  intro s flags tag slot hq
  refine ⟨fun hlt hle => ?_, fun hle => ?_⟩
  · exact ⟨exec_cp_refused (k := .removeEntry) hq rfl rfl (admitRemoveEntry_range (field_zero slot (by omega) _) hlt), fun c =>
      exec_cp_refused (k := .discardCell) hq rfl rfl (admitDiscardCell_range (field_zero slot (by omega) _) hlt)⟩
  · intro refusal
    have hfield : ∀ rest, field (byte slot :: rest) 0 = slot := field_zero slot (by omega)
    have hcell : ∀ c : CellId, cellOf (field [byte slot, c.code] 1) = some c := cellOf_code
    refine ⟨fun c ha hb => ?_, fun he c => ?_, fun he => ?_, fun g he => ?_, fun k he =>
      ⟨fun ha hb => ?_, fun hc => ?_, fun c => ?_⟩⟩
    · have hc : cellOf (field [byte slot, c] 1) = none := cellOf_other ha hb
      have hv := admitDiscardCell_noCell (p := .cp) (s := s.withRequest .cp ⟨0x13, tag, [byte slot, c]⟩)
        (r := ⟨0x13, tag, [byte slot, c]⟩) (hfield _) hc
      rw [named_of_le hle] at hv
      exact exec_cp_refused (k := .discardCell) hq rfl rfl hv
    · exact exec_cp_refused (k := .discardCell) hq rfl rfl (admitDiscardCell_noKey (hfield _) (hcell c) hle he)
    · exact exec_cp_refused (k := .removeEntry) hq rfl rfl (admitRemoveEntry_absent (hfield _) hle he)
    · have hv := admitRemoveEntry_answered (p := .cp) (s := s.withRequest .cp ⟨0x11, tag, [byte slot]⟩)
        (r := ⟨0x11, tag, [byte slot]⟩) (hfield _) hle
      rw [State.entry_withRequest, he] at hv
      exact exec_cp_answered (k := .removeEntry) hq rfl rfl (hv (by simp) rfl)
    · have hv := admitRemoveEntry_answered (p := .cp) (s := s.withRequest .cp ⟨0x11, tag, [byte slot]⟩)
        (r := ⟨0x11, tag, [byte slot]⟩) (hfield _) hle
      rw [State.entry_withRequest, he] at hv
      exact exec_cp_answered (k := .removeEntry) hq rfl rfl (hv (by simp) (by simp [Entry.removable, ha, hb]))
    · exact exec_cp_refused (k := .removeEntry) hq rfl rfl (admitRemoveEntry_cellState (hfield _) hle he hc)
    · have hv := admitDiscardCell_key (p := .cp) (s := s.withRequest .cp ⟨0x13, tag, [byte slot, c.code]⟩)
        (r := ⟨0x13, tag, [byte slot, c.code]⟩) (hfield _) (hcell c) hle he
      refine ⟨fun hst => ?_, fun hst => ?_, fun hst => ?_, fun hst => ?_⟩
      · rw [hst] at hv
        exact exec_cp_answered (k := .discardCell) hq rfl rfl hv
      · rw [hst] at hv
        exact exec_cp_refused (k := .discardCell) hq rfl rfl hv
      · rw [hst] at hv
        exact exec_cp_refused (k := .discardCell) hq rfl rfl hv
      · rcases hst with hst | hst
        all_goals
          rw [hst] at hv
          exact exec_cp_refused (k := .discardCell) hq rfl rfl hv

/-! ### The cells of a swap (R16) -/

section Swap

variable {k : KeyEntry}

theorem KeyEntry.swapTo_of_serving {x : CellId} (hs : k.serving = some x) (h : (k.cell x.other).state = .ready) :
    k.swapTo = some x.other := by
  simp [KeyEntry.swapTo, hs, h]

theorem KeyEntry.swapTo_of_not_serving {y : CellId} (hs : k.serving = none) (h : (k.cell y).state = .ready)
    (hy : y = .b → k.cellA.state ≠ .ready) : k.swapTo = some y := by
  cases y with
  | a => simp [KeyEntry.swapTo, hs, show k.cellA.state = .ready from h]
  | b => simp [KeyEntry.swapTo, hs, hy rfl, show k.cellB.state = .ready from h]

theorem KeyEntry.swapTo_none (hx : ∀ x, k.serving = some x → (k.cell x.other).state ≠ .ready)
    (hn : k.serving = none → k.cellA.state ≠ .ready ∧ k.cellB.state ≠ .ready) : k.swapTo = none := by
  cases hs : k.serving with
  | none => simp [KeyEntry.swapTo, hs, hn hs]
  | some x => simp [KeyEntry.swapTo, hs, hx x hs]

/-- The cell that served leaves service (R16). -/
theorem KeyEntry.swapped_of_serving {x : CellId} (hs : k.serving = some x) :
    k.swapped x.other = { (k.setCell x.other { k.cell x.other with state := .serving }).setCell x
      { k.cell x with state := if (k.cell x).inFlight = 0 then .ready else .draining } with serving := some x.other } := by
  simp [KeyEntry.swapped, hs, CellId.other_other, leavesService]

theorem KeyEntry.swapped_of_not_serving {y : CellId} (hs : k.serving = none) :
    k.swapped y = { k.setCell y { k.cell y with state := .serving } with serving := some y } := by
  simp [KeyEntry.swapped, hs]

end Swap

/-- Settles O16: by the cell that serves, if any, and the one that is READY to serve. -/
theorem swapCellPutsAReadyCellIntoService : Obligations.SwapCellPutsAReadyCellIntoService := by
  intro s flags tag slot hq hmax
  have hfield : ∀ rest, field (byte slot :: rest) 0 = slot := field_zero slot (by omega)
  refine ⟨fun hlt => exec_cp_refused (k := .swapCell) hq rfl rfl (admitSwapCell_range (hfield _) hlt), fun hle he =>
    exec_cp_refused (k := .swapCell) hq rfl rfl (admitSwapCell_noKey (hfield _) hle he), fun k hle he =>
    ⟨fun x hs hready => ?_, fun y hs hready hy => ?_, fun hx hn => ?_⟩⟩
  · intro old
    have hv := admitSwapCell_answered (p := .cp) (s := s.withRequest .cp ⟨0x12, tag, [byte slot]⟩)
      (r := ⟨0x12, tag, [byte slot]⟩) (hfield _) hle he (KeyEntry.swapTo_of_serving hs hready)
    rw [swapBody, KeyEntry.swapped_of_serving hs] at hv
    refine (exec_cp_answered (k := .swapCell) hq rfl rfl hv).trans ?_
    cases x <;> rfl
  · have hv := admitSwapCell_answered (p := .cp) (s := s.withRequest .cp ⟨0x12, tag, [byte slot]⟩)
      (r := ⟨0x12, tag, [byte slot]⟩) (hfield _) hle he (KeyEntry.swapTo_of_not_serving hs hready hy)
    rw [swapBody, KeyEntry.swapped_of_not_serving hs] at hv
    refine (exec_cp_answered (k := .swapCell) hq rfl rfl hv).trans ?_
    cases y <;> rfl
  · exact exec_cp_refused (k := .swapCell) hq rfl rfl (admitSwapCell_none (hfield _) hle he (KeyEntry.swapTo_none hx hn))

end Sys2Proof.Machine
end

/-! PROOF. CREATE-KEY-ENTRY, CREATE-GATE and BIND-PORT for every body of their length: the fields it spells, or none in range
(R13, R28, R34). -/

section
namespace Sys2Proof.Machine

theorem eq_byte_of_toNat {b : Byte} {n : Nat} (h : b.toNat = n) : byte n = b := by
  subst h
  simp [byte]

theorem eq_of_field {b : Byte} {body : List Byte} {i : Nat} (h : b.toNat = field body i) : byte (field body i) = b :=
  eq_byte_of_toNat h

theorem optByte_eq_byte {n : Nat} (h : n < 256) : optByte (domainOf n) = byte n :=
  BitVec.eq_of_toNat_eq ((optByte_domainOf h).trans (byte_toNat n h).symm)

theorem all_le_iff {d : Option Nat} {n : Nat} : d.all (· ≤ n) = true ↔ ∀ x ∈ d, x ≤ n := by cases d <;> simp

/-! ### CREATE-KEY-ENTRY (R13) -/

/-- The fields of a KEY entry in range, spelt by a body (R13). -/
def KeyFields (body label : List Byte) (cls : KeyClass) (uses : List KeyUse) (rank : Nat) (domain : Option Nat) : Prop :=
  field body 0 ≤ 127 ∧ label.length = 8 ∧ uses ≠ [] ∧ uses = allUses.filter uses.contains ∧ (∀ u ∈ uses, u ∈ cls.permitted) ∧
    rank ≤ 3 ∧ (∀ d ∈ domain, d ≤ 15) ∧ (domain.isSome ∨ cls = .transport) ∧
    body = keyEntryBody (field body 0) label cls uses rank domain

theorem keyBody_split {body : List Byte} (h : body.length = 16) :
    body = byte (field body 0) :: (slice body 1 8 ++ byte (field body 9) :: (slice body 10 4 ++
      [byte (field body 14), byte (field body 15)])) :=
  calc body = body.drop 0 := rfl
    _ = _ := by
      rw [drop_eq_field_cons (by omega), drop_eq_slice_append body 1 8, drop_eq_field_cons (by omega),
        drop_eq_slice_append body 10 4, drop_eq_field_cons (by omega), drop_eq_field_cons (by omega),
        List.drop_eq_nil_of_le (by omega)]

theorem usesFit_iff {cls : KeyClass} {uses : List KeyUse} :
    usesFit cls uses = true ↔ uses ≠ [] ∧ ∀ u ∈ uses, u ∈ cls.permitted := by
  simp [usesFit]

section KeyEntryRule

variable {s : State} {p : Port} {r : Request}

/-- A body that spells no KEY entry in range. -/
theorem admitCreateKeyEntry_range (hlen : r.body.length = 16)
    (h : ∀ label cls uses rank domain, ¬ KeyFields r.body label cls uses rank domain) :
    admitCreateKeyEntry p r s = .refuse (named .range (field r.body 0)) := by
  unfold admitCreateKeyEntry
  by_cases hslot : field r.body 0 ≤ 127
  · rw [if_neg (not_not.2 hslot)]
    cases hcls : classOf (field r.body 9) with
    | none => rfl
    | some cls =>
      cases huses : readSet allUses (slice r.body 10 4) with
      | none => rfl
      | some uses =>
        dsimp only
        by_cases hfit : usesFit cls uses = true
        case neg => simp [hfit]
        by_cases hrank : field r.body 14 ≤ 3
        case neg => simp [hfit, hrank]
        by_cases hdom : (domainOf (field r.body 15)).all (· ≤ 15) = true
        case neg => simp [hfit, hrank, hdom]
        by_cases hsome : ((domainOf (field r.body 15)).isSome || cls == .transport) = true
        case neg => simp [hfit, hrank, hdom, hsome]
        obtain ⟨hne, hper⟩ := usesFit_iff.1 hfit
        obtain ⟨hbytes, horder⟩ := readSet_spelt (show _ = 4 from slice_length (by omega)) (by decide) huses
        refine absurd ⟨hslot, slice_length (by omega), hne, horder, hper, hrank, all_le_iff.1 hdom, by simpa using hsome, ?_⟩
          (h (slice r.body 1 8) cls uses (field r.body 14) (domainOf (field r.body 15)))
        calc r.body = _ := keyBody_split hlen
          _ = _ := by
            rw [keyEntryBody, hbytes, eq_of_field (toNat_of_classOf hcls), optByte_eq_byte (field_lt _ _)]
            simp
  · rw [if_pos hslot]

/-- A body that spells a KEY entry in range: the slot decides. -/
theorem admitCreateKeyEntry_fields {label : List Byte} {cls : KeyClass} {uses : List KeyUse} {rank : Nat} {domain : Option Nat}
    (h : KeyFields r.body label cls uses rank domain) :
    admitCreateKeyEntry p r s =
      if s.entry (field r.body 0) = .empty then
        s.answered p r [byte (field r.body 0)] fun t =>
          t.setEntry (field r.body 0) (.key (newKeyEntry label cls uses rank domain))
      else .refuse (named .occupied (field r.body 0)) := by
  obtain ⟨hslot, hlabel, hne, horder, hper, hrank, hdom, hsome, hbody⟩ := h
  generalize hslot' : field r.body 0 = slot at hslot hbody
  have hsplit : r.body = byte slot :: (label ++ (cls.code :: (setBytes allUses uses ++ [byte rank, optByte domain]))) := by
    rw [hbody, keyEntryBody]
    simp
  have hl : slice r.body 1 8 = label := by rw [hsplit, slice_cons_succ, slice_zero hlabel]
  have hc : classOf (field r.body 9) = some cls := by
    rw [hsplit, field_cons_succ, field_append_right (by omega), hlabel]
    exact classOf_code cls
  have hu : readSet allUses (slice r.body 10 4) = some uses := by
    rw [hsplit, slice_cons_succ, slice_append_right (by omega), hlabel, slice_cons_succ, slice_zero (by simp [allUses]),
      readSet_setBytes, ← horder]
  have hr : field r.body 14 = rank := by
    rw [hsplit, field_cons_succ, field_append_right (by omega), hlabel, field_cons_succ,
      field_append_right (by simp [allUses])]
    simpa [allUses] using byte_toNat rank (by omega)
  have hd : domainOf (field r.body 15) = domain := by
    rw [hsplit, field_cons_succ, field_append_right (by omega), hlabel, field_cons_succ,
      field_append_right (by simp [allUses])]
    simpa [allUses] using domainOf_optByte fun x hx => by have := hdom x hx; omega
  have hall : domain.all (· ≤ 15) = true := all_le_iff.2 hdom
  have hany : (domain.isSome || cls == .transport) = true := by simpa using hsome
  simp only [admitCreateKeyEntry, hslot', hl, hc, hu, hr, hd, firstFailure_cons, firstFailure_nil, usesFit_iff.2 ⟨hne, hper⟩,
    hrank, hall, hany, decide_true, if_true, if_neg (not_not.2 hslot), beq_iff_eq]
  split_ifs <;> rfl

end KeyEntryRule

/-! ### CREATE-GATE (R34) -/

/-- The fields of a gate in range, spelt by a body (R34). -/
def GateFields (body label : List Byte) (target reach : Nat) (uses : List KeyUse) (batch : Option Nat) : Prop :=
  field body 0 ≤ 127 ∧ label.length = 8 ∧ target ≤ 127 ∧ reach ≤ 3 ∧ uses ≠ [] ∧ uses = allUses.filter uses.contains ∧
    (∀ b ∈ batch, b ≤ 31) ∧ body = gateBody (field body 0) label target reach uses batch

theorem gateBody_split {body : List Byte} (h : body.length = 16) :
    body = byte (field body 0) :: (slice body 1 8 ++ byte (field body 9) :: byte (field body 10) :: (slice body 11 4 ++
      [byte (field body 15)])) :=
  calc body = body.drop 0 := rfl
    _ = _ := by
      rw [drop_eq_field_cons (by omega), drop_eq_slice_append body 1 8, drop_eq_field_cons (by omega),
        drop_eq_field_cons (by omega), drop_eq_slice_append body 11 4, drop_eq_field_cons (by omega),
        List.drop_eq_nil_of_le (by omega)]

section GateRule

variable {s : State} {p : Port} {r : Request}

/-- A body that spells no gate in range. -/
theorem admitCreateGate_range (hlen : r.body.length = 16)
    (h : ∀ label target reach uses batch, ¬ GateFields r.body label target reach uses batch) :
    admitCreateGate p r s = .refuse (named .range (field r.body 0)) := by
  unfold admitCreateGate
  cases huses : readSet allUses (slice r.body 11 4) with
  | none => rfl
  | some uses =>
    dsimp only
    by_cases hok : (decide (field r.body 0 ≤ 127) && decide (field r.body 9 ≤ 127) && decide (field r.body 10 ≤ 3) &&
        !uses.isEmpty && (domainOf (field r.body 15)).all (· ≤ 31)) = true
    case neg => simp only [firstFailure_cons, if_neg hok]
    simp only [Bool.and_eq_true, decide_eq_true_eq, Bool.not_eq_true', List.isEmpty_eq_false_iff] at hok
    obtain ⟨⟨⟨⟨hslot, htarget⟩, hreach⟩, hne⟩, hbatch⟩ := hok
    obtain ⟨hbytes, horder⟩ := readSet_spelt (show _ = 4 from slice_length (by omega)) (by decide) huses
    refine absurd ⟨hslot, slice_length (by omega), htarget, hreach, hne, horder, all_le_iff.1 hbatch, ?_⟩
      (h (slice r.body 1 8) (field r.body 9) (field r.body 10) uses (domainOf (field r.body 15)))
    calc r.body = _ := gateBody_split hlen
      _ = _ := by
        rw [gateBody, hbytes, optByte_eq_byte (field_lt _ _)]
        simp

/-- A body that spells a gate in range: the slot and then the target decide. -/
theorem admitCreateGate_fields {label : List Byte} {target reach : Nat} {uses : List KeyUse} {batch : Option Nat}
    (h : GateFields r.body label target reach uses batch) :
    admitCreateGate p r s =
      if s.entry (field r.body 0) = .empty then
        match s.entry target with
        | .key _ =>
          s.answered p r [byte (field r.body 0), byte target] fun t =>
            t.setEntry (field r.body 0) (.gate ⟨label, target, reach, uses, batch⟩)
        | _ => .refuse ⟨.gateTarget, some target, .none⟩
      else .refuse (named .occupied (field r.body 0)) := by
  obtain ⟨hslot, hlabel, htarget, hreach, hne, horder, hbatch, hbody⟩ := h
  generalize hslot' : field r.body 0 = slot at hslot hbody
  have hsplit : r.body = byte slot :: (label ++ (byte target :: byte reach :: (setBytes allUses uses ++ [optByte batch]))) := by
    rw [hbody, gateBody]
    simp
  have hl : slice r.body 1 8 = label := by rw [hsplit, slice_cons_succ, slice_zero hlabel]
  have ht : field r.body 9 = target := by
    rw [hsplit, field_cons_succ, field_append_right (by omega), hlabel]
    exact byte_toNat target (by omega)
  have hr : field r.body 10 = reach := by
    rw [hsplit, field_cons_succ, field_append_right (by omega), hlabel, field_cons_succ]
    exact byte_toNat reach (by omega)
  have hu : readSet allUses (slice r.body 11 4) = some uses := by
    rw [hsplit, slice_cons_succ, slice_append_right (by omega), hlabel, slice_cons_succ, slice_cons_succ,
      slice_zero (by simp [allUses]), readSet_setBytes, ← horder]
  have hb : domainOf (field r.body 15) = batch := by
    rw [hsplit, field_cons_succ, field_append_right (by omega), hlabel, field_cons_succ, field_cons_succ,
      field_append_right (by simp [allUses])]
    simpa [allUses] using domainOf_optByte fun x hx => by have := hbatch x hx; omega
  have hok : (decide (slot ≤ 127) && decide (target ≤ 127) && decide (reach ≤ 3) && !uses.isEmpty &&
      batch.all (· ≤ 31)) = true := by
    simp [hslot, htarget, hreach, hne, all_le_iff.2 hbatch]
  simp only [admitCreateGate, hslot', hl, hu, ht, hr, hb, firstFailure_cons, firstFailure_nil, hok, if_true, beq_iff_eq,
    named_of_le htarget]
  split_ifs <;> rfl

end GateRule

/-! ### The two together -/

/-- Settles O14: the body by whether it spells fields in range, then the slot, then a gate's target. -/
theorem entriesAreCreatedInEmptySlots : Obligations.EntriesAreCreatedInEmptySlots := by
  intro s flags tag body hq hlen slot refused named keyFields gateFields
  have hkey : ReqKind.createKeyEntry.lengthOk body = true := by simp [ReqKind.lengthOk, hlen]
  have hgate : ReqKind.createGate.lengthOk body = true := by simp [ReqKind.lengthOk, hlen]
  refine ⟨fun hno => exec_cp_refused (k := .createKeyEntry) hq hkey rfl (admitCreateKeyEntry_range hlen ?keyFields),
    fun label cls uses rank domain h => ?key, fun hno => ?noGate, fun label target reach uses batch h => ?gate⟩
  case keyFields =>
    rintro label cls uses rank domain ⟨hslot, hlabel, hne, horder, hper, hrest⟩
    exact hno label cls uses rank domain ⟨hslot, hlabel, hne, horder, by cases cls <;> exact hper, hrest⟩
  case key =>
    obtain ⟨hslot, hlabel, hne, horder, hper, hrest⟩ := h
    have hfields : KeyFields body label cls uses rank domain :=
      ⟨hslot, hlabel, hne, horder, by cases cls <;> exact hper, hrest⟩
    have hv := admitCreateKeyEntry_fields (s := s.withRequest .cp ⟨0x10, tag, body⟩) (p := .cp) (r := ⟨0x10, tag, body⟩) hfields
    exact ⟨fun he => exec_cp_refused (k := .createKeyEntry) hq hkey rfl (hv.trans (if_neg he)), fun he =>
      exec_cp_answered (k := .createKeyEntry) hq hkey rfl (hv.trans (if_pos he))⟩
  case noGate => exact exec_cp_refused (k := .createGate) hq hgate rfl (admitCreateGate_range hlen hno)
  case gate =>
    have hfields : GateFields body label target reach uses batch := h
    have hv := admitCreateGate_fields (s := s.withRequest .cp ⟨0x15, tag, body⟩) (p := .cp) (r := ⟨0x15, tag, body⟩) hfields
    refine ⟨fun he => exec_cp_refused (k := .createGate) hq hgate rfl (hv.trans (if_neg he)), fun he => ?_⟩
    replace hv := hv.trans (if_pos he)
    refine ⟨fun ht => ?_, fun ht => ?_⟩
    · obtain ⟨k, hk⟩ := ht
      rw [State.entry_withRequest, hk] at hv
      exact exec_cp_answered (k := .createGate) hq hgate rfl hv
    · cases ht' : s.entry target with
      | key k => exact absurd ht' (ht k)
      | empty | gate =>
        rw [State.entry_withRequest, ht'] at hv
        exact exec_cp_refused (k := .createGate) hq hgate rfl hv

/-! ### BIND-PORT (R28, R30) -/

/-- The fields of a binding in range, spelt by a body (R28). -/
def BindFields (body : List Byte) (l : LinePort) (b : Binding) : Prop :=
  1 ≤ b.rank ∧ b.rank ≤ 3 ∧ b.domains = allDomains.filter b.domains.contains ∧ b.base ≤ 127 ∧ b.count ≤ 128 ∧
    b.base + b.count ≤ 128 ∧ 1 ≤ b.weight ∧ b.weight ≤ 8 ∧ b.idleLimit ≤ 255 ∧ body = bindBody l b

theorem bindBody_split {body : List Byte} (h : body.length = 22) :
    body = byte (field body 0) :: byte (field body 1) :: (slice body 2 16 ++
      [byte (field body 18), byte (field body 19), byte (field body 20), byte (field body 21)]) :=
  calc body = body.drop 0 := rfl
    _ = _ := by
      rw [drop_eq_field_cons (by omega), drop_eq_field_cons (by omega), drop_eq_slice_append body 2 16,
        drop_eq_field_cons (by omega), drop_eq_field_cons (by omega), drop_eq_field_cons (by omega),
        drop_eq_field_cons (by omega), List.drop_eq_nil_of_le (by omega)]

/-- A binding that a body's fields spell is in range, and the body is its body. -/
theorem bindFields_of_read {body : List Byte} (hlen : body.length = 22) {l : LinePort} {b : Binding}
    (hl : lineOf (field body 0) = some l) (hb : readBinding body = some b) : BindFields body l b := by
  unfold readBinding at hb
  split at hb
  · cases hb
  · rename_i domains hread
    dsimp only at hb
    split at hb
    case isFalse => cases hb
    case isTrue hok =>
      obtain ⟨hrank, hrank', hbase, hcount, hsum, hweight, hweight'⟩ := hok
      obtain ⟨hbytes, horder⟩ := readSet_spelt (show _ = 16 from slice_length (by omega)) (by decide) hread
      obtain rfl := Option.some.inj hb
      refine ⟨hrank, hrank', horder, hbase, hcount, hsum, hweight, hweight', Nat.le_of_lt_succ (field_lt _ _), ?_⟩
      calc body = _ := bindBody_split hlen
        _ = _ := by
          rw [bindBody, hbytes, eq_of_field (toNat_of_lineOf hl)]
          simp

/-- A body that spells a binding in range is read back. -/
theorem read_of_bindFields {body : List Byte} {l : LinePort} {b : Binding} (h : BindFields body l b) :
    lineOf (field body 0) = some l ∧ readBinding body = some b := by
  obtain ⟨hrank, hrank', horder, hbase, hcount, hsum, hweight, hweight', hidle, rfl⟩ := h
  have hsplit : bindBody l b = lineCode l :: byte b.rank :: (setBytes allDomains b.domains ++
      [byte b.base, byte b.count, byte b.weight, byte b.idleLimit]) := by simp [bindBody]
  have hset : (setBytes allDomains b.domains).length = 16 := setBytes_length _ _
  have hd : readSet allDomains (slice (bindBody l b) 2 16) = some b.domains := by
    rw [hsplit, slice_cons_succ, slice_cons_succ, slice_zero hset, readSet_setBytes, ← horder]
  have htail : ∀ i, field (bindBody l b) (18 + i) = field [byte b.base, byte b.count, byte b.weight, byte b.idleLimit] i := by
    intro i
    rw [hsplit, show 18 + i = (16 + i) + 1 + 1 by omega, field_cons_succ, field_cons_succ, field_append_right (by omega), hset,
      Nat.add_sub_cancel_left]
  have hr : field (bindBody l b) 1 = b.rank := by
    rw [hsplit, field_cons_succ]
    exact byte_toNat _ (by omega)
  have hbase' : field (bindBody l b) 18 = b.base := (htail 0).trans (byte_toNat _ (by omega))
  have hcount' : field (bindBody l b) 19 = b.count := (htail 1).trans (byte_toNat _ (by omega))
  have hw : field (bindBody l b) 20 = b.weight := (htail 2).trans (byte_toNat _ (by omega))
  have hi : field (bindBody l b) 21 = b.idleLimit := (htail 3).trans (byte_toNat _ (by omega))
  refine ⟨by rw [hsplit]; exact lineOf_code l, ?_⟩
  simp only [readBinding, hd, hr, hbase', hcount', hw, hi]
  rw [if_pos ⟨hrank, hrank', hbase, hcount, hsum, hweight, hweight'⟩]

section BindRule

variable {s : State} {p : Port} {r : Request}

theorem admitBindPort_range (h : ∀ l b, ¬ (lineOf (field r.body 0) = some l ∧ readBinding r.body = some b)) :
    admitBindPort p r s = .refuse (bare .range) := by
  unfold admitBindPort
  split
  · exact absurd ⟨‹_›, ‹_›⟩ (h _ _)
  · rfl

theorem admitBindPort_answered {l : LinePort} {b : Binding} (hl : lineOf (field r.body 0) = some l)
    (hb : readBinding r.body = some b) :
    admitBindPort p r s =
      s.answered p r (bindBody l b ++ [byte (min (s.deficit l) (4 * b.weight + 3))]) fun t => t.bind l b := by
  simp only [admitBindPort, hl, hb]
  rfl

end BindRule

/-- Settles O17: the body by whether it spells a binding in range. -/
theorem bindPortReplacesBindingAndClampsDeficit : Obligations.BindPortReplacesBindingAndClampsDeficit := by
  intro s flags tag body hq hlen fields
  have hok : ReqKind.bindPort.lengthOk body = true := by simp [ReqKind.lengthOk, hlen]
  refine ⟨fun hno => exec_cp_refused (k := .bindPort) hq hok rfl (admitBindPort_range fun l b h =>
    hno l b (bindFields_of_read hlen h.1 h.2)), fun l b h => ?_⟩
  obtain ⟨hl, hb⟩ := read_of_bindFields h
  have hbody : body = bindBody l b := by
    obtain ⟨_, _, _, _, _, _, _, _, _, hbody⟩ := h
    exact hbody
  have hv := admitBindPort_answered (s := s.withRequest .cp ⟨0x16, tag, body⟩) (p := .cp) (r := ⟨0x16, tag, body⟩) hl hb
  rw [← hbody] at hv
  exact exec_cp_answered (k := .bindPort) hq hok rfl hv

end Sys2Proof.Machine
end

/-! PROOF. BEGIN-CEREMONY, the batch requests of the custody console, STATUS and CLEAR-LOCKOUT (R45, R64 to R67, R153, R165). -/

section
namespace Sys2Proof.Machine

/-! ### BEGIN-CEREMONY (R45) -/

section BeginCeremony

variable {s : State} {p : Port} {r : Request} {slot : Nat} (hn : field r.body 0 = slot)
include hn

theorem admitBeginCeremony_range (h : 127 < slot ∨ cellOf (field r.body 1) = none) :
    admitBeginCeremony p r s = .refuse (named .range slot) := by
  subst hn
  unfold admitBeginCeremony
  cases hc : cellOf (field r.body 1) with
  | none => rfl
  | some c =>
    have hlt : ¬ field r.body 0 ≤ 127 := by
      rcases h with h | h
      · omega
      · simp [hc] at h
    simp [hlt]

variable {c : CellId} (hc : cellOf (field r.body 1) = some c) (h : slot ≤ 127)
include hc h

theorem admitBeginCeremony_open (hcer : s.ceremony ≠ none) : admitBeginCeremony p r s = .refuse (named .ceremonyState slot) := by
  subst hn
  simp [admitBeginCeremony, hc, h, hcer]

variable (hcer : s.ceremony = none)
include hcer

theorem admitBeginCeremony_absent (he : ∀ k, s.entry slot ≠ .key k) :
    admitBeginCeremony p r s = .refuse (named .absent slot) := by
  subst hn
  cases hk : s.entry (field r.body 0) with
  | key k => exact absurd hk (he k)
  | empty | gate => simp [admitBeginCeremony, hc, h, hcer, hk]

variable {k : KeyEntry} (he : s.entry slot = .key k)
include he

theorem admitBeginCeremony_cellState (hb : (k.cell c).state ≠ .blank) :
    admitBeginCeremony p r s = .refuse (named .cellState slot) := by
  subst hn
  simp [admitBeginCeremony, hc, h, hcer, he, hb]

variable (hb : (k.cell c).state = .blank) {m : Nat} (hm : field r.body 2 = m)
include hb hm

theorem admitBeginCeremony_required (hout : m < 2 ∨ 5 < m) : admitBeginCeremony p r s = .refuse (named .range slot) := by
  subst hn hm
  have hnot : ¬ (2 ≤ field r.body 2 ∧ field r.body 2 ≤ 5) := by omega
  simp [admitBeginCeremony, hc, h, hcer, he, hb, hnot]

variable (hm2 : 2 ≤ m) (hm5 : m ≤ 5)
include hm2 hm5

theorem admitBeginCeremony_presence (hx : expectedOf r.body = none) :
    admitBeginCeremony p r s = .refuse (named .range slot) := by
  subst hn hm
  simp [admitBeginCeremony, hc, h, hcer, he, hb, hm2, hm5, hx]

theorem admitBeginCeremony_answered {expected : Option Check} (hx : expectedOf r.body = some expected) :
    admitBeginCeremony p r s =
      s.answered p r [byte slot, c.code, byte m, if expected.isSome then 0x01 else 0x00] fun t =>
        (t.setEntry slot (.key (k.setCell c ⟨.forming, none, none, 0⟩))).setCeremony (newCeremony slot c m expected) := by
  subst hn hm
  simp [admitBeginCeremony, hc, h, hcer, he, hb, hm2, hm5, hx, blankCell]

end BeginCeremony

theorem expectedOf_absent {body : List Byte} (h : field body 3 = 0) : expectedOf body = some none := by
  simp [expectedOf, h]

/-- The expected check value that a body carries (R45, R171). -/
theorem expectedOf_present {body : List Byte} (h : field body 3 = 1) {v : Check} (hv : slice body 4 3 = checkBytes v) :
    expectedOf body = some (some v) := by
  have hlt := v.isLt
  simp [expectedOf, h, hv, checkBytes, beNat_beBytes 3 v.toNat (by omega)]

theorem expectedOf_other {body : List Byte} (h0 : field body 3 ≠ 0) (h1 : field body 3 ≠ 1) : expectedOf body = none := by
  unfold expectedOf
  split
  · exact absurd ‹_› h0
  · exact absurd ‹_› h1
  · rfl

theorem toNat_ne {b : Byte} {n : Nat} (h : b ≠ BitVec.ofNat 8 n) : b.toNat ≠ n :=
  fun hb => h (eq_byte_of_toNat hb).symm

/-- The body of a BEGIN-CEREMONY, whatever its cell and presence bytes (Figure 14). -/
def beginBytes (slot m : Nat) (cell given : Byte) (check : List Byte) : List Byte :=
  [byte slot, cell, byte m, given] ++ check

section BeginFrame

variable {s : State} {flags tag : Byte} {slot m : Nat} {cell given : Byte} {check : List Byte} (hq : s.quiet .cp = true)
  (hcheck : check.length = 3)
include hcheck

theorem lengthOk_beginBytes : ReqKind.beginCeremony.lengthOk (beginBytes slot m cell given check) = true := by
  simp [ReqKind.lengthOk, beginBytes, hcheck]

include hq

theorem exec_beginCeremony_refused {a : Answer}
    (hv : admitBeginCeremony .cp ⟨0x20, tag, beginBytes slot m cell given check⟩
      (s.withRequest .cp ⟨0x20, tag, beginBytes slot m cell given check⟩) = .refuse (named a slot)) :
    exec (.beginCeremony .cp flags tag (beginBytes slot m cell given check)) s =
      .next (s.served .cp ⟨0x20, tag, a, slotNamed slot, .none, []⟩) :=
  exec_cp_refused (k := .beginCeremony) hq (lengthOk_beginBytes hcheck) rfl hv

end BeginFrame

/-- Settles O18: each clause adds the next check of R45 to those that the clauses before it passed. -/
theorem beginCeremonyFormsTheCell : Obligations.BeginCeremonyFormsTheCell := by
  intro s flags tag slot m cell given check hq hslot hm hcheck answers refused
  have h0 : field (beginBytes slot m cell given check) 0 = slot := byte_toNat slot (by omega)
  have h2 : field (beginBytes slot m cell given check) 2 = m := byte_toNat m (by omega)
  have hpart : slice (beginBytes slot m cell given check) 4 3 = check := slice_zero_self hcheck
  have refusedBy : ∀ {a}, admitBeginCeremony .cp ⟨0x20, tag, beginBytes slot m cell given check⟩
      (s.withRequest .cp ⟨0x20, tag, beginBytes slot m cell given check⟩) = .refuse (named a slot) → refused a :=
    fun hv => exec_beginCeremony_refused hq hcheck hv
  refine ⟨fun hout => refusedBy (admitBeginCeremony_range h0 (hout.imp_right fun ⟨ha, hb⟩ => cellOf_other ha hb)),
    fun c hle hcell => ?_⟩
  have hc : cellOf (field (beginBytes slot m cell given check) 1) = some c := by rw [hcell]; exact cellOf_code c
  refine ⟨fun hcer => refusedBy (admitBeginCeremony_open h0 hc hle hcer), fun hcer =>
    ⟨fun he => refusedBy (admitBeginCeremony_absent h0 hc hle hcer he), fun k he =>
      ⟨fun hb => refusedBy (admitBeginCeremony_cellState h0 hc hle hcer he hb), fun hb =>
        ⟨fun hout => refusedBy (admitBeginCeremony_required h0 hc hle hcer he hb h2 hout), fun hm2 hm5 =>
          ⟨fun hg0 hg1 => ?presence, fun expected hx => ?opens⟩⟩⟩⟩⟩
  case presence =>
    exact refusedBy (admitBeginCeremony_presence h0 hc hle hcer he hb h2 hm2 hm5
      (expectedOf_other (toNat_ne hg0) (toNat_ne hg1)))
  case opens =>
    have hexpected : expectedOf (beginBytes slot m cell given check) = some expected ∧
        given = if expected.isSome then 0x01 else 0x00 := by
      rcases hx with ⟨rfl, rfl⟩ | ⟨v, rfl, hv, rfl⟩
      · exact ⟨expectedOf_absent rfl, rfl⟩
      · exact ⟨expectedOf_present rfl (hpart.trans hv.symm), rfl⟩
    obtain ⟨hread, hgiven⟩ := hexpected
    have hv := admitBeginCeremony_answered (p := .cp) (r := ⟨0x20, tag, beginBytes slot m cell given check⟩)
      (s := s.withRequest .cp ⟨0x20, tag, beginBytes slot m cell given check⟩) h0 hc hle hcer he hb h2 hm2 hm5 hread
    rw [← hgiven] at hv
    exact exec_cp_answered (k := .beginCeremony) hq (lengthOk_beginBytes hcheck) rfl hv

/-! ### OPEN-BATCH (R64) -/

section OpenBatch

/-- The checks of R64 in its order; `admitOpenBatch_eq` ties them to the model. -/
def State.openTests (s : State) (n domain first quantity allowance : Nat) : List (Bool × Answer) :=
  [(n ≤ 31, .range), ((s.batch n).state == .unused || (s.batch n).state == .closed, .batchState), (domain ≤ 15, .range),
    (1 ≤ quantity && quantity ≤ 8192, .range), (allowance ≤ 255, .range), (first + quantity ≤ maxSerial + 1, .range)]

theorem State.openTests_withRequest (s : State) (p : Port) (r : Request) :
    (s.withRequest p r).openTests = s.openTests := rfl

variable {s : State} {p : Port} {code tag : Byte} {n domain first quantity allowance : Nat} {label : List Byte}
  (hn : n ≤ 255) (hd : domain ≤ 255) (hf : first ≤ 4294967295) (hq : quantity ≤ 65535) (ha : allowance ≤ 255)
  (hl : label.length = 12)
include hn hd hf hq ha hl

theorem openBatchBody_fields :
    field (openBatchBody n domain label first quantity allowance) 0 = n ∧
    field (openBatchBody n domain label first quantity allowance) 1 = domain ∧
    slice (openBatchBody n domain label first quantity allowance) 2 12 = label ∧
    beNat (slice (openBatchBody n domain label first quantity allowance) 14 4) = first ∧
    beNat (slice (openBatchBody n domain label first quantity allowance) 18 2) = quantity ∧
    field (openBatchBody n domain label first quantity allowance) 20 = allowance := by
  have hbody : openBatchBody n domain label first quantity allowance = byte n :: byte domain ::
      (label ++ (beBytes 4 first ++ (beBytes 2 quantity ++ [byte allowance]))) := by simp [openBatchBody]
  rw [hbody]
  refine ⟨byte_toNat n (by omega), byte_toNat domain (by omega), slice_zero hl _, ?_, ?_, ?_⟩
  · rw [slice_cons_succ, slice_cons_succ, slice_append_right (by omega), hl, slice_zero (beBytes_length 4 first)]
    exact beNat_beBytes 4 first (by omega)
  · rw [slice_cons_succ, slice_cons_succ, slice_append_right (by omega), hl, slice_append_right (by simp), beBytes_length,
      slice_zero (beBytes_length 2 quantity)]
    exact beNat_beBytes 2 quantity (by omega)
  · rw [field_cons_succ, field_cons_succ, field_append_right (by omega), hl, field_append_right (by simp), beBytes_length,
      field_append_right (by simp), beBytes_length]
    exact byte_toNat allowance (by omega)

theorem admitOpenBatch_eq :
    admitOpenBatch p ⟨code, tag, openBatchBody n domain label first quantity allowance⟩ s =
      match firstFailure (s.openTests n domain first quantity allowance) with
      | some a => .refuse (bare a)
      | none =>
        s.answered p ⟨code, tag, openBatchBody n domain label first quantity allowance⟩
          ([byte n, 0x01] ++ beBytes 4 first ++ beBytes 2 quantity ++ beBytes 4 (first + quantity - 1) ++ [byte allowance])
          fun t => t.setBatch n (newRun domain label first quantity allowance) := by
  obtain ⟨h0, h1, h2, h14, h18, h20⟩ := openBatchBody_fields hn hd hf hq ha hl
  simp only [admitOpenBatch, h0, h1, h2, h14, h18, h20]
  rfl

end OpenBatch

/-- Settles O19: each clause fails the next of the checks of R64, or passes them all. -/
theorem openBatchBeginsANewRun : Obligations.OpenBatchBeginsANewRun := by
  intro s flags tag n domain first quantity allowance label hq hn hd hf hqu ha hl answers refused
  have hlen : ReqKind.openBatch.lengthOk (openBatchBody n domain label first quantity allowance) = true := by
    simp [ReqKind.lengthOk, openBatchBody, hl]
  have hrule := admitOpenBatch_eq (s := s.withRequest .cp ⟨0x28, tag, openBatchBody n domain label first quantity allowance⟩)
    (p := .cp) (code := 0x28) (tag := tag) hn hd hf hqu ha hl
  have refusedBy : ∀ {a}, firstFailure (s.openTests n domain first quantity allowance) = some a → refused a := fun hfail => by
    have hv := hrule
    rw [State.openTests_withRequest, hfail] at hv
    exact exec_cp_refused (k := .openBatch) hq hlen rfl hv
  refine ⟨fun hout => refusedBy ?_, fun hle hu hc => refusedBy ?_, fun hle hst =>
    ⟨fun hout => refusedBy ?_, fun hdom hq1 hq2 hlast => ?_⟩⟩
  · simp [State.openTests, Nat.not_le.2 hout]
  · simp [State.openTests, hle, hu, hc]
  · have hstate : ((s.batch n).state == .unused || (s.batch n).state == .closed) = true := by simpa using hst
    by_cases hdom : domain ≤ 15
    case neg => simp [State.openTests, hle, hstate, hdom]
    by_cases hquantity : 1 ≤ quantity ∧ quantity ≤ 8192
    case neg => simp [State.openTests, hle, hstate, hdom, hquantity]
    have hserial : ¬ first + quantity ≤ maxSerial + 1 := by unfold maxSerial; omega
    simp [State.openTests, hle, hstate, hdom, hquantity, ha, hserial]
  · have hpass : firstFailure (s.openTests n domain first quantity allowance) = none := by
      have hstate : ((s.batch n).state == .unused || (s.batch n).state == .closed) = true := by simpa using hst
      have hserial : first + quantity ≤ maxSerial + 1 := by unfold maxSerial; omega
      simp [State.openTests, hle, hstate, hdom, hq1, hq2, ha, hserial]
    rw [State.openTests_withRequest, hpass] at hrule
    exact exec_cp_answered (k := .openBatch) hq hlen rfl hrule

/-! ### PAUSE-BATCH, RESUME-BATCH and CLOSE-BATCH (R65 to R67) -/

section BatchState

variable {s : State} {p : Port} {r : Request} {n : Nat} (hn : field r.body 0 = n)
include hn

theorem admitPauseBatch_range (h : 31 < n) : admitPauseBatch p r s = .refuse (bare .range) := by
  subst hn
  simp [admitPauseBatch, Nat.not_le.2 h]

theorem admitResumeBatch_range (h : 31 < n) : admitResumeBatch p r s = .refuse (bare .range) := by
  subst hn
  simp [admitResumeBatch, Nat.not_le.2 h]

theorem admitCloseBatch_range (h : 31 < n) : admitCloseBatch p r s = .refuse (bare .range) := by
  subst hn
  simp [admitCloseBatch, Nat.not_le.2 h]

variable (h : n ≤ 31)
include h

theorem admitPauseBatch_state (hs : (s.batch n).state ≠ .opened) : admitPauseBatch p r s = .refuse (bare .batchState) := by
  subst hn
  simp [admitPauseBatch, h, hs]

theorem admitPauseBatch_answered (hs : (s.batch n).state = .opened) :
    admitPauseBatch p r s = s.answered p r [byte n, 0x02, byte (s.batch n).freshRes, byte (s.batch n).reissueRes] fun t =>
      t.setBatch n { s.batch n with state := .paused } := by
  subst hn
  simp [admitPauseBatch, h, hs, BatchState.code]

theorem admitResumeBatch_state (hp : (s.batch n).state ≠ .paused) (hs : (s.batch n).state ≠ .suspended) :
    admitResumeBatch p r s = .refuse (bare .batchState) := by
  subst hn
  simp [admitResumeBatch, h, hp, hs]

theorem admitResumeBatch_answered (hs : (s.batch n).state = .paused ∨ (s.batch n).state = .suspended) :
    admitResumeBatch p r s = s.answered p r [byte n, 0x01] fun t => t.setBatch n { s.batch n with state := .opened } := by
  subst hn
  simp [admitResumeBatch, h, hs, BatchState.code]

theorem admitCloseBatch_state (hs : (s.batch n).state = .unused ∨ (s.batch n).state = .closing ∨ (s.batch n).state = .closed) :
    admitCloseBatch p r s = .refuse (bare .batchState) := by
  subst hn
  rcases hs with hs | hs | hs <;> simp [admitCloseBatch, h, hs]

variable (hs : (s.batch n).state = .opened ∨ (s.batch n).state = .paused ∨ (s.batch n).state = .suspended)
include hs

theorem admitCloseBatch_closing (hres : 0 < (s.batch n).freshRes + (s.batch n).reissueRes) :
    admitCloseBatch p r s = s.answered p r [byte n, 0x03, byte (s.batch n).freshRes, byte (s.batch n).reissueRes] fun t =>
      t.setBatch n { s.batch n with state := .closing } := by
  subst hn
  have hopen : ((s.batch (field r.body 0)).state == .opened || (s.batch (field r.body 0)).state == .paused ||
      (s.batch (field r.body 0)).state == .suspended) = true := by simpa [or_assoc] using hs
  simp only [admitCloseBatch, firstFailure_cons, firstFailure_nil, h, hopen, decide_true, if_true, if_pos hres]
  rfl

theorem admitCloseBatch_closed (hres : (s.batch n).freshRes + (s.batch n).reissueRes = 0) :
    admitCloseBatch p r s = s.answered p r [byte n, 0x04, 0, 0] fun t =>
      (t.setBatch n { s.batch n with state := .closed }).notice (.batchClosed n) 0 := by
  subst hn
  have hopen : ((s.batch (field r.body 0)).state == .opened || (s.batch (field r.body 0)).state == .paused ||
      (s.batch (field r.body 0)).state == .suspended) = true := by simpa [or_assoc] using hs
  have hfresh : (s.batch (field r.body 0)).freshRes = 0 := by omega
  have hreissue : (s.batch (field r.body 0)).reissueRes = 0 := by omega
  simp only [admitCloseBatch, firstFailure_cons, firstFailure_nil, h, hopen, decide_true, if_true, hfresh, hreissue]
  rfl

end BatchState

/-- Settles O20: by the state of the batch. -/
theorem batchStatesFollowTheCustodyRequests : Obligations.BatchStatesFollowTheCustodyRequests := by
  intro s flags tag n hq
  have hfield : ∀ {n}, n ≤ 255 → ∀ rest, field (byte n :: rest) 0 = n := fun hn => field_zero _ (by omega)
  refine ⟨fun hlt hle => ⟨exec_cp_refused (k := .pauseBatch) hq rfl rfl (admitPauseBatch_range (hfield hle _) hlt),
    exec_cp_refused (k := .resumeBatch) hq rfl rfl (admitResumeBatch_range (hfield hle _) hlt),
    exec_cp_refused (k := .closeBatch) hq rfl rfl (admitCloseBatch_range (hfield hle _) hlt)⟩, fun hle => ?_⟩
  intro b refusal
  have hn : ∀ rest, field (byte n :: rest) 0 = n := hfield (by omega)
  exact ⟨fun hs => exec_cp_answered (k := .pauseBatch) hq rfl rfl (admitPauseBatch_answered (hn _) hle hs),
    fun hs => exec_cp_refused (k := .pauseBatch) hq rfl rfl (admitPauseBatch_state (hn _) hle hs),
    fun hs => exec_cp_answered (k := .resumeBatch) hq rfl rfl (admitResumeBatch_answered (hn _) hle hs),
    fun hp hs => exec_cp_refused (k := .resumeBatch) hq rfl rfl (admitResumeBatch_state (hn _) hle hp hs),
    fun hs => ⟨fun hres => exec_cp_answered (k := .closeBatch) hq rfl rfl (admitCloseBatch_closing (hn _) hle hs hres),
      fun hres => exec_cp_answered (k := .closeBatch) hq rfl rfl (admitCloseBatch_closed (hn _) hle hs hres)⟩,
    fun hs => exec_cp_refused (k := .closeBatch) hq rfl rfl (admitCloseBatch_state (hn _) hle hs)⟩

/-! ### STATUS (R153) -/

/-- Settles O21: the rule of STATUS is its own answer. -/
theorem statusReturnsAndRemovesNotices : Obligations.StatusReturnsAndRemovesNotices := by
  intro s flags tag hq
  have hv : ∀ t : State, admitStatus .cp ⟨0x32, tag, []⟩ t = t.answered .cp ⟨0x32, tag, []⟩
      ([t.mode.code] ++ setBytes allCauses t.causes ++ [(t.firstCause.map Cause.code).getD 0xFF, t.battery.code] ++
        beBytes 2 t.notices.length ++ [byte (min 12 t.notices.length)] ++ (t.notices.take 12).flatMap Notice.bytes)
      fun t => { t with notices := t.notices.drop 12 } := fun t => by
    simp [admitStatus, Config.statusNotices]
  exact exec_cp_answered (k := .status) hq rfl rfl (hv _)

/-! ### CLEAR-LOCKOUT (R165) -/

theorem anyLineActive_iff {s : State} : s.anyLineActive = true ↔ ∃ l, s.tamperPins.get l = true := by
  unfold State.anyLineActive allTamperLines
  simp only [List.any_eq_true]
  refine ⟨fun ⟨l, _, h⟩ => ⟨l, h⟩, fun ⟨l, h⟩ => ⟨l, ?_, h⟩⟩
  cases l <;> simp

theorem admitClearLockout_busy {s : State} {p : Port} {r : Request} (h : s.mode = .operating) :
    admitClearLockout p r s = .refuse (bare .busy) := by
  simp [admitClearLockout, h]

/-- The tamper record emptied and the mode OPERATING (R165); `admitClearLockout_accepted` ties it to the model. -/
def State.unlocked (s : State) : State := { s with causes := [], firstCause := none, mode := .operating }

section Lockout

variable {s : State} {p : Port} {r : Request} (h : s.mode = .lockout)
include h

theorem admitClearLockout_active (ha : s.anyLineActive = true) : admitClearLockout p r s = .refuse (bare .tamperActive) := by
  simp [admitClearLockout, h, ha]

theorem admitClearLockout_accepted {t : State} (ha : s.anyLineActive = false)
    (ht : s.answered p r [0x01] State.unlocked = .accept t) : admitClearLockout p r s = .accept (t.addTries allPorts) := by
  have ht' : (s.answered p r [PartMode.operating.code] fun t => { t with causes := [], firstCause := none, mode := .operating }) =
      .accept t := ht
  simp only [admitClearLockout, h, ha, ht']
  rfl

end Lockout

theorem noHeads_iff {s : State} : s.noHeads = true ↔ ∀ p, (s.port p).requests = [] := by
  simp only [State.noHeads, List.all_eq_true, List.isEmpty_iff]
  refine ⟨fun h p => h p ?_, fun h p _ => h p⟩
  rcases p with l | _
  · cases l <;> simp [allPorts]
  · simp [allPorts]

/-- With no request placed no head is due for a try, whatever ports are listed. -/
theorem triesDue_of_noHeads {s : State} (h : ∀ p, (s.port p).requests = []) : s.triesDue = [] := by
  simp [State.triesDue, h]

theorem requests_addTries (s : State) (ps : List Port) (q : Port) : ((s.addTries ps).port q).requests = (s.port q).requests := by
  obtain ⟨tries, h⟩ := addTries_touches ps s
  rw [h]
  rfl

theorem addTries_cleared {s : State} (h : s.tries = []) (ps : List Port) : { s.addTries ps with tries := [] } = s := by
  obtain ⟨tries, ht⟩ := addTries_touches ps s
  rw [ht]
  exact tries_cleared h

theorem requests_served (s : State) (p q : Port) (r : Response) : ((s.served p r).port q).requests = (s.port q).requests := by
  rw [State.served, State.port_leaveWaitList]
  by_cases h : q = p
  · subst q
    rw [State.port_setPort_same]
  · rw [State.port_setPort_ne _ _ h]

theorem tries_served (s : State) (p : Port) (r : Response) : (s.served p r).tries = s.tries := by simp [State.served]

/-- Settles O22: by the mode and the tamper lines. -/
theorem clearLockoutReturnsToOperating : Obligations.ClearLockoutReturnsToOperating := by
  intro s flags tag hq
  refine ⟨fun hm hpins hheads => ?_, fun hm hpins => ?_, fun hm => ?_⟩
  · obtain ⟨_, htries, _⟩ := (State.quiet_iff s .cp).1 hq
    have hinactive : s.anyLineActive = false := Bool.eq_false_iff.2 fun h => by
      obtain ⟨l, hl⟩ := anyLineActive_iff.1 h
      simp [hpins l] at hl
    have hans : (s.withRequest .cp ⟨0x31, tag, []⟩).answered .cp ⟨0x31, tag, []⟩ [0x01] State.unlocked =
        .accept (s.unlocked.served .cp (plainResponse 0x31 tag .done [0x01])) :=
      answered_withRequest s .cp ⟨0x31, tag, []⟩ [0x01] State.unlocked hq (fun _ _ => rfl) (fun _ => rfl) rfl
    have hempty : ∀ r : Response, ∀ q, (((s.unlocked.served .cp r).addTries allPorts).port q).requests = [] := fun r q => by
      rw [requests_addTries, requests_served]
      exact noHeads_iff.1 hheads q
    have hexec : exec (requestCommand .clearLockout .cp flags tag []) s = .next _ :=
      exec_accepted hq (by simp) rfl (.inl rfl) rfl
        (admitClearLockout_accepted (s := s.withRequest .cp ⟨0x31, tag, []⟩) hm hinactive hans) (hempty _ _)
        (triesDue_of_noHeads (hempty _))
    exact hexec.trans (congrArg Host.Outcome.next (addTries_cleared ((tries_served s.unlocked _ _).trans htries) allPorts))
  · exact exec_cp_refused (k := .clearLockout) hq rfl rfl (admitClearLockout_active hm (anyLineActive_iff.2 hpins))
  · exact exec_cp_refused (k := .clearLockout) hq rfl rfl (admitClearLockout_busy hm)

end Sys2Proof.Machine
end

/-! PROOF. The arbiter's decision (R104, R108), the life of a position (R72 to R75, R68) and the release of a cell (R10, R11). -/

section
namespace Sys2Proof.Machine

variable {s : State}

/-! ### The arbiter (R108) -/

/-- A grant that has started for job `j` of a slot (R104, R103). -/
def State.granted (t s : State) (slot : Nat) (j : Job) : State :=
  { t.setJob slot (some { j with state := .inGrant }) with engine := some ⟨slot, j.grantSize, [], s.passInput j⟩ }

theorem startGrant_custody {slot : Nat} {j : Job} (hj : s.job slot = some j) (ho : j.owner = .cp) :
    s.startGrant slot = s.granted s slot j := by
  unfold State.startGrant
  rw [hj]
  dsimp only
  split
  · rfl
  · next h => rw [ho] at h; cases h

theorem startGrant_line {l : LinePort} {slot : Nat} {j : Job} (hj : s.job slot = some j) (ho : j.owner = .line l) :
    s.startGrant slot = (s.setDeficit l (s.deficit l - j.grantSize)).granted s slot j := by
  unfold State.startGrant
  rw [hj]
  dsimp only
  split
  · next h => rw [ho] at h; cases h
  · next m h =>
    rw [ho] at h
    cases h
    rfl

theorem waitingAt_of_job {slot : Nat} {j : Job} (hj : s.job slot = some j) (hw : j.state = .waiting) :
    s.waitingAt slot = true := waitingAt_iff.2 ⟨j, hj, hw⟩

theorem arbitrate_custody {j : Job} (he : s.engine = none) (hj : s.job 15 = some j) (hw : j.state = .waiting) :
    s.arbitrate = s.startGrant 15 := by
  unfold State.arbitrate
  rw [he]
  dsimp only
  rw [if_pos (waitingAt_of_job (slot := Config.custodySlot) hj hw)]
  rfl

theorem arbitrate_line (he : s.engine = none) (hc : ∀ j, s.job 15 = some j → j.state ≠ .waiting) :
    s.arbitrate = s.decideLine := by
  have hw : ¬ s.waitingAt Config.custodySlot = true := fun h => by
    obtain ⟨j, hj, hw⟩ := waitingAt_iff.1 h
    exact hc j hj hw
  unfold State.arbitrate
  rw [he]
  dsimp only
  rw [if_neg hw]

theorem coveredJob_eq {l : LinePort} {slot : Nat} {j : Job} (ho : s.oldestWaiting (.line l) = some slot)
    (hj : s.job slot = some j) : s.coveredJob l = if j.grantSize ≤ s.deficit l then some slot else none := by
  simp only [State.coveredJob, ho, hj]

theorem coveredJob_uncovered {l : LinePort}
    (h : ∀ x y, s.oldestWaiting (.line l) = some x → s.job x = some y → s.deficit l < y.grantSize) : s.coveredJob l = none := by
  cases hc : s.coveredJob l with
  | none => rfl
  | some slot =>
    obtain ⟨ho, j, hj, _, hsize⟩ := coveredJob_some hc
    have := h slot j ho hj
    omega

theorem decideLine_covered {slot : Nat} (h : s.coveredJob s.pointer = some slot) : s.decideLine = s.startGrant slot := by
  simp only [State.decideLine, h]

theorem decideLine_uncovered {slot : Nat} (h : s.coveredJob s.pointer = none)
    (hv : s.endVisit.coveredJob s.endVisit.pointer = some slot) : s.decideLine = s.endVisit.startGrant slot := by
  simp only [State.decideLine, h, hv]

/-- What is left of the deficit of the port whose visit ends (R108 step 3). -/
def State.visitLeft (s : State) : Nat := if (s.oldestWaiting (.line s.pointer)).isSome then s.deficit s.pointer else 0

theorem setDeficit_self (s : State) (l : LinePort) : s.setDeficit l (s.deficit l) = s := by cases l <;> rfl

/-- The end of a visit when port `l` is the next with a WAITING job (R108 step 3). -/
theorem endVisit_of_find {l : LinePort}
    (h : (rotationFrom s.pointer).find? (fun x => (s.oldestWaiting (.line x)).isSome) = some l) :
    s.endVisit = { (s.setDeficit s.pointer s.visitLeft).setDeficit l
      ((if l = s.pointer then s.visitLeft else s.deficit l) + 4 * (s.binding l).weight) with pointer := l } := by
  have hleft : (if (s.oldestWaiting (.line s.pointer)).isSome then s else s.setDeficit s.pointer 0) =
      s.setDeficit s.pointer s.visitLeft := by
    unfold State.visitLeft
    split
    · rw [setDeficit_self]
    · rfl
  have hd : (s.setDeficit s.pointer s.visitLeft).deficit l = if l = s.pointer then s.visitLeft else s.deficit l := by
    by_cases hl : l = s.pointer
    · subst hl; simp
    · simp [hl]
  unfold State.endVisit
  rw [h]
  dsimp only
  rw [hleft, hd]
  rfl

theorem setDeficit_setDeficit (s : State) (l : LinePort) (a b : Nat) : (s.setDeficit l a).setDeficit l b = s.setDeficit l b := by
  cases l <;> rfl

/-- Settles O33: custody work first, then the port under visit, then the next of the rotation, whose new deficit covers a
grant. -/
theorem arbiterDecidesByRotation : Obligations.ArbiterDecidesByRotation := by
  intro s he started
  refine ⟨fun j hj hw ho => (arbitrate_custody he hj hw).trans (startGrant_custody hj ho), fun hc => ?_⟩
  have hline := arbitrate_line he hc
  refine ⟨fun hnone => ?_, fun slot j ho hj hown hsize => ?_, fun l slot j hun hfind ho hj hown hweight => ?_⟩
  · refine arbitrate_idle (Bool.eq_false_iff.2 fun h => ?_) hnone
    obtain ⟨j, hj, hw⟩ := waitingAt_iff.1 h
    exact hc j hj hw
  · rw [hline, decideLine_covered ((coveredJob_eq ho hj).trans (if_pos hsize)), startGrant_line hj hown]
    rfl
  · intro left before
    have hvisit := endVisit_of_find hfind
    have ho' : s.endVisit.oldestWaiting (.line l) = some slot := by rw [hvisit]; exact ho
    have hj' : s.endVisit.job slot = some j := by rw [hvisit]; exact hj
    have hp : s.endVisit.pointer = l := by rw [hvisit]
    have hd : s.endVisit.deficit l = before + 4 * (s.binding l).weight := by
      rw [hvisit]
      show (State.setDeficit _ l _).deficit l = _
      rw [State.deficit_setDeficit_same]
      rfl
    have hcover : s.endVisit.coveredJob s.endVisit.pointer = some slot := by
      have hsize := j.grantSize_four_or_one
      rw [hp, coveredJob_eq ho' hj', if_pos (by omega)]
    rw [hline, decideLine_uncovered (coveredJob_uncovered hun) hcover, startGrant_line hj' hown, hd, hvisit]
    show State.granted { State.setDeficit (State.setDeficit _ _ _) _ _ with pointer := l } s slot j = _
    rw [setDeficit_setDeficit]
    rfl

/-! ### Positions (R72 to R75, R68) -/

section Positions

variable {n : Nat} (hn : n < 32)

theorem setBatch_setBatch (s : State) (n : Nat) (b c : Batch) : (s.setBatch n b).setBatch n c = s.setBatch n c := by
  unfold State.setBatch
  split <;> simp

theorem notice_setBatch (s : State) (k : NoticeKey) (c n : Nat) (b : Batch) :
    (s.notice k c).setBatch n b = (s.setBatch n b).notice k c := rfl

include hn

/-- A record written that is CLOSING and holds no reservation closes (R68). -/
theorem closeIfDrained_setBatch_closes {b : Batch} (h : b.state = .closing) (hr : b.freshRes + b.reissueRes = 0) :
    (s.setBatch n b).closeIfDrained n = (s.setBatch n { b with state := .closed }).notice (.batchClosed n) 0 := by
  unfold State.closeIfDrained
  rw [State.batch_setBatch_same _ _ _ hn]
  dsimp only
  rw [if_pos ⟨h, hr⟩, setBatch_setBatch]

theorem closeIfDrained_setBatch_stays {b : Batch} (h : ¬ (b.state = .closing ∧ b.freshRes + b.reissueRes = 0)) :
    (s.setBatch n b).closeIfDrained n = s.setBatch n b := by
  unfold State.closeIfDrained
  rw [State.batch_setBatch_same _ _ _ hn]
  exact if_neg h

theorem testLevel_setBatch_rises {b : Batch} {k : Nat} (hk : levelReached b.quantity b.derived = k) (h : b.level < k) :
    (s.setBatch n b).testLevel n = (s.setBatch n { b with level := k }).notice (.batchProgress n) k := by
  subst hk
  unfold State.testLevel
  rw [State.batch_setBatch_same _ _ _ hn]
  dsimp only
  rw [if_pos h, setBatch_setBatch]

theorem testLevel_setBatch_stays {b : Batch} (h : levelReached b.quantity b.derived ≤ b.level) :
    (s.setBatch n b).testLevel n = s.setBatch n b := by
  unfold State.testLevel
  rw [State.batch_setBatch_same _ _ _ hn]
  exact if_neg (Nat.not_lt.2 h)

theorem closeIfDrained_notice_setBatch_closes {b : Batch} (k : NoticeKey) (c : Nat) (h : b.state = .closing)
    (hr : b.freshRes + b.reissueRes = 0) :
    ((s.setBatch n b).notice k c).closeIfDrained n =
      ((s.setBatch n { b with state := .closed }).notice k c).notice (.batchClosed n) 0 := by
  rw [← notice_setBatch, closeIfDrained_setBatch_closes hn h hr, notice_setBatch]

theorem closeIfDrained_notice_setBatch_stays {b : Batch} (k : NoticeKey) (c : Nat)
    (h : ¬ (b.state = .closing ∧ b.freshRes + b.reissueRes = 0)) :
    ((s.setBatch n b).notice k c).closeIfDrained n = (s.setBatch n b).notice k c := by
  rw [← notice_setBatch, closeIfDrained_setBatch_stays hn h]

end Positions

/-- The level as the largest k of 0 to 4 whose threshold is reached (R75). -/
theorem levelReached_eq (q d : Nat) :
    levelReached q d = (List.range 5).foldl (fun top k => if (k * q + 3) / 4 ≤ d then k else top) 0 := by
  show levelReached q d =
    if (4 * q + 3) / 4 ≤ d then 4 else if (3 * q + 3) / 4 ≤ d then 3 else if (2 * q + 3) / 4 ≤ d then 2 else
      if (1 * q + 3) / 4 ≤ d then 1 else if (0 * q + 3) / 4 ≤ d then 0 else 0
  rw [ite_self]
  rfl

/-- Settles O50: the position by its state, the close by what is left reserved, and the level by the count of derived. -/
theorem positionsAreReservedCommittedAndReleased : Obligations.PositionsAreReservedCommittedAndReleased := by
  refine ⟨fun b pos st hst => ⟨?_, ?_, ?_, ?_⟩, fun s n pos hn => ?_⟩
  · rintro rfl
    simp [Batch.reserveTest, hst]
  · rintro rfl h
    simp [Batch.reserveTest, hst, h]
  · rintro rfl h
    simp [Batch.reserveTest, hst, Nat.not_lt.2 h]
  · rintro (rfl | rfl | rfl) <;> simp [Batch.reserveTest, hst]
  intro b closes level
  refine ⟨fun hpos hres => ?_, fun hpos hres => ?_⟩
  · have hlevel : levelReached b.quantity (b.derived + 1) = level := levelReached_eq _ _
    have hstays : ¬ closes → ¬ (b.state = .closing ∧ b.freshRes - 1 + b.reissueRes = 0) := fun hc ⟨hst, hz⟩ =>
      hc ⟨hst, by omega⟩
    have hzero : closes → b.freshRes - 1 + b.reissueRes = 0 := fun ⟨_, h1⟩ => by omega
    have hrel : s.releasePos n pos =
        (s.setBatch n { b with map := b.map.set pos .fresh, freshRes := b.freshRes - 1 }).closeIfDrained n := by
      simp only [State.releasePos, hpos, b]
    have hcom : s.commitPos n pos = ((s.setBatch n { b with
        map := b.map.set pos .issued, freshRes := b.freshRes - 1, derived := b.derived + 1 }).testLevel n).closeIfDrained n := by
      simp only [State.commitPos, hpos, b]
    rw [hrel, hcom]
    refine ⟨fun hc => closeIfDrained_setBatch_stays hn (hstays hc), fun hc => closeIfDrained_setBatch_closes hn hc.1 (hzero hc),
      fun hc hle => ?_, fun hc hlt => ?_, fun hc hle => ?_, fun hc hlt => ?_⟩
    · rw [testLevel_setBatch_stays hn (by exact hlevel.trans_le hle)]
      exact closeIfDrained_setBatch_stays hn (hstays hc)
    · rw [testLevel_setBatch_rises (b := { b with
        map := b.map.set pos .issued, freshRes := b.freshRes - 1, derived := b.derived + 1 }) hn hlevel hlt]
      exact closeIfDrained_notice_setBatch_stays hn _ _ (hstays hc)
    · rw [testLevel_setBatch_stays hn (by exact hlevel.trans_le hle)]
      exact closeIfDrained_setBatch_closes hn hc.1 (hzero hc)
    · rw [testLevel_setBatch_rises (b := { b with
        map := b.map.set pos .issued, freshRes := b.freshRes - 1, derived := b.derived + 1 }) hn hlevel hlt]
      exact closeIfDrained_notice_setBatch_closes hn _ _ hc.1 (hzero hc)
  · have hstays : ¬ closes → ¬ (b.state = .closing ∧ b.freshRes + (b.reissueRes - 1) = 0) := fun hc ⟨hst, hz⟩ =>
      hc ⟨hst, by omega⟩
    have hzero : closes → b.freshRes + (b.reissueRes - 1) = 0 := fun ⟨_, h1⟩ => by omega
    have hrel : s.releasePos n pos =
        (s.setBatch n { b with map := b.map.set pos .spoilt, reissueRes := b.reissueRes - 1 }).closeIfDrained n := by
      simp only [State.releasePos, hpos, b]
    have hcom : s.commitPos n pos = (s.setBatch n { b with
        map := b.map.set pos .issued, reissueRes := b.reissueRes - 1, reissued := b.reissued + 1 }).closeIfDrained n := by
      simp only [State.commitPos, hpos, b]
    rw [hrel, hcom]
    exact ⟨fun hc => closeIfDrained_setBatch_stays hn (hstays hc), fun hc => closeIfDrained_setBatch_closes hn hc.1 (hzero hc),
      fun hc => closeIfDrained_setBatch_stays hn (hstays hc), fun hc => closeIfDrained_setBatch_closes hn hc.1 (hzero hc)⟩

/-! ### The release of a cell (R10, R11) -/

/-- Settles O51: by the state of the cell and the count. -/
theorem releaseLowersTheCountAndEndsDrains : Obligations.ReleaseLowersTheCountAndEndsDrains := by
  intro s slot c k loud he x become
  have hrel : ∀ loud, s.releaseCell loud (slot, c) =
      if loud && drainEnds x then (become (releasedCell x)).notice (.cellDrained slot c) 0 else become (releasedCell x) :=
    fun loud => by simp only [State.releaseCell, he, x, become]
  refine ⟨fun hst => ?_, fun hst hn => ?_, fun hst hn => ⟨?_, ?_⟩⟩
  · rw [hrel]
    simp [drainEnds, releasedCell, hst]
  · have hne : ¬ x.inFlight ≤ 1 := by omega
    rw [hrel]
    simp [drainEnds, releasedCell, hst, hne]
  · rw [hrel]
    simp [drainEnds, releasedCell, hst, hn]
  · rw [hrel]
    simp [releasedCell, hst, hn]

end Sys2Proof.Machine
end

/-! PROOF. Decipherment inverts encipherment (R102): each step of a round has its inverse, and the rounds are undone from the
last. -/

section
namespace Sys2Proof.Machine

/-! ### Bytes and the numbers they spell -/

theorem foldl_beNat (bs : List Byte) (acc : Nat) :
    bs.foldl (fun acc b => acc * 256 + b.toNat) acc = acc * 256 ^ bs.length + beNat bs := by
  unfold beNat
  induction bs generalizing acc with
  | nil => simp
  | cons b bs ih =>
    rw [List.foldl_cons, List.foldl_cons, ih, ih (0 * 256 + b.toNat), List.length_cons, Nat.pow_succ]
    ring

theorem beNat_cons (b : Byte) (bs : List Byte) : beNat (b :: bs) = b.toNat * 256 ^ bs.length + beNat bs := by
  have h := foldl_beNat bs b.toNat
  rw [← h]
  simp [beNat]

theorem beNat_lt (bs : List Byte) : beNat bs < 256 ^ bs.length := by
  induction bs with
  | nil => simp [beNat]
  | cons b bs ih =>
    have hb : b.toNat + 1 ≤ 256 := b.isLt
    rw [beNat_cons, List.length_cons]
    calc b.toNat * 256 ^ bs.length + beNat bs < (b.toNat + 1) * 256 ^ bs.length := by rw [Nat.add_mul, Nat.one_mul]; omega
      _ ≤ 256 * 256 ^ bs.length := Nat.mul_le_mul_right _ hb
      _ = 256 ^ (bs.length + 1) := by rw [Nat.pow_succ, Nat.mul_comm]

/-- What stands above `k` bytes changes none of them. -/
theorem beBytes_add (k a n : Nat) : beBytes k (a * 256 ^ k + n) = beBytes k n := by
  induction k generalizing a with
  | zero => rfl
  | succ k ih =>
    have hshift : a * 256 ^ (k + 1) = a * 256 * 256 ^ k := by rw [Nat.pow_succ]; ring
    have hdiv : (a * 256 * 256 ^ k + n) / 256 ^ k = a * 256 + n / 256 ^ k := by
      rw [Nat.add_comm, Nat.add_mul_div_right _ _ (Nat.pow_pos (by omega)), Nat.add_comm]
    rw [hshift, beBytes, beBytes, ih, hdiv]
    congr 1
    apply BitVec.eq_of_toNat_eq
    simp only [BitVec.toNat_ofNat]
    omega

theorem beBytes_beNat (bs : List Byte) : beBytes bs.length (beNat bs) = bs := by
  induction bs with
  | nil => rfl
  | cons b bs ih =>
    have hdiv : (b.toNat * 256 ^ bs.length + beNat bs) / 256 ^ bs.length = b.toNat := by
      rw [Nat.add_comm, Nat.add_mul_div_right _ _ (Nat.pow_pos (by omega)), Nat.div_eq_of_lt (beNat_lt bs), Nat.zero_add]
    rw [List.length_cons, beNat_cons, beBytes, beBytes_add, ih, hdiv]
    simp

/-! ### Blocks and their bytes -/

theorem blockBytes_blockOf {bs : List Byte} (h : bs.length = 16) : blockBytes (blockOf bs) = bs := by
  have hlt := beNat_lt bs
  have hbytes := beBytes_beNat bs
  rw [h] at hlt hbytes
  rw [blockBytes_eq, blockOf_toNat, Nat.mod_eq_of_lt (by simpa using hlt), hbytes]

theorem byteAt_blockFrom (f : Nat → Byte) {i : Nat} (hi : i < 16) : byteAt (blockFrom f) i = f i := by
  have h : blockBytes (blockFrom f) = (List.range 16).map f := blockBytes_blockOf (by simp)
  have hget := congrArg (fun l => l[i]?) h
  simpa [blockBytes, hi] using hget

/-- A block is its 16 bytes. -/
theorem blockFrom_byteAt (b : Block) : blockFrom (byteAt b) = b := blockOf_blockBytes b

theorem blockFrom_congr {f g : Nat → Byte} (h : ∀ i < 16, f i = g i) : blockFrom f = blockFrom g := by
  unfold blockFrom
  rw [List.map_congr_left fun i hi => h i (List.mem_range.1 hi)]

/-- A block made byte by byte is `b` if each byte is. -/
theorem blockFrom_eq {f : Nat → Byte} {b : Block} (h : ∀ i < 16, f i = byteAt b i) : blockFrom f = b :=
  (blockFrom_congr h).trans (blockFrom_byteAt b)

/-! ### The substitution -/

theorem invSbox_sbox_table : ∀ i < 16, ∀ j < 16, invSbox (sbox (BitVec.ofNat 8 (16 * i + j))) = BitVec.ofNat 8 (16 * i + j) := by
  decide

/-- A byte by its row and column. -/
theorem byte_eq_row_column (b : Byte) : b = BitVec.ofNat 8 (16 * (b.toNat / 16) + b.toNat % 16) := by
  rw [Nat.div_add_mod]
  simp

theorem row_lt (b : Byte) : b.toNat / 16 < 16 := by
  have := b.isLt
  omega

theorem invSbox_sbox (b : Byte) : invSbox (sbox b) = b := by
  rw [byte_eq_row_column b]
  exact invSbox_sbox_table _ (row_lt b) _ (Nat.mod_lt _ (by omega))

theorem invSubBytes_subBytes (s : Block) : invSubBytes (subBytes s) = s :=
  blockFrom_eq fun i hi => by rw [subBytes, byteAt_blockFrom _ hi, invSbox_sbox]

/-! ### The shift of the rows -/

theorem invShiftRows_shiftRows (s : Block) : invShiftRows (shiftRows s) = s :=
  blockFrom_eq fun i hi => by
    rw [shiftRows, byteAt_blockFrom _ (Nat.mod_lt _ (by omega))]
    congr 1
    omega

/-! ### The mix of the columns -/

theorem xor_left_comm (a b c : Byte) : a ^^^ (b ^^^ c) = b ^^^ (a ^^^ c) := by ac_rfl

theorem xor_cancel_left (a b : Byte) : a ^^^ (a ^^^ b) = b := by rw [← BitVec.xor_assoc, BitVec.xor_self, BitVec.zero_xor]

theorem xtime_xor (a b : Byte) : xtime (a ^^^ b) = xtime a ^^^ xtime b := by
  unfold xtime
  rw [BitVec.shiftLeft_xor_distrib, BitVec.msb_xor]
  cases a.msb <;> cases b.msb <;> simp [BitVec.xor_assoc, xor_left_comm, BitVec.xor_comm]

/-- One byte of a mixed column: 2a + 3b + c + d. -/
def mixByte (a b c d : Byte) : Byte := xtime a ^^^ (xtime b ^^^ b) ^^^ c ^^^ d

/-- One byte of a column mixed back: 14a + 11b + 13c + 9d. -/
def unmixByte (a b c d : Byte) : Byte := mul14 a ^^^ mul11 b ^^^ mul13 c ^^^ mul9 d

theorem mixByte_eq (a b c d : Byte) : mixByte a b c d = xtime (a ^^^ b) ^^^ (b ^^^ (c ^^^ d)) := by
  rw [mixByte, xtime_xor]
  ac_rfl

/-- A byte mixed back, by powers of x. -/
theorem unmixByte_eq (a b c d : Byte) :
    unmixByte a b c d = xtime (xtime (xtime (a ^^^ (b ^^^ (c ^^^ d)))) ^^^ (xtime (a ^^^ c) ^^^ (a ^^^ b))) ^^^
      (b ^^^ (c ^^^ d)) := by
  simp only [unmixByte, mul9, mul11, mul13, mul14, xtime_xor]
  ac_rfl

section Column

variable (a b c d : Byte)

theorem mixByte_sum : mixByte a b c d ^^^ (mixByte b c d a ^^^ (mixByte c d a b ^^^ mixByte d a b c)) =
    a ^^^ (b ^^^ (c ^^^ d)) := by
  simp only [mixByte, BitVec.xor_assoc, xor_left_comm, BitVec.xor_comm, xor_cancel_left, BitVec.xor_self, BitVec.xor_zero]

theorem mixByte_opposite : mixByte a b c d ^^^ mixByte c d a b = xtime (a ^^^ (b ^^^ (c ^^^ d))) ^^^ (a ^^^ c) := by
  simp only [mixByte, xtime_xor, BitVec.xor_assoc, xor_left_comm, BitVec.xor_comm, xor_cancel_left]

theorem mixByte_next : mixByte a b c d ^^^ mixByte b c d a = xtime (a ^^^ c) ^^^ (a ^^^ b) := by
  simp only [mixByte, xtime_xor, BitVec.xor_assoc, xor_left_comm, BitVec.xor_comm, xor_cancel_left]

/-- The other three bytes of a mixed column. -/
theorem mixByte_others : mixByte b c d a ^^^ (mixByte c d a b ^^^ mixByte d a b c) = xtime (a ^^^ b) ^^^ a := by
  have h := mixByte_sum a b c d
  rw [← xor_cancel_left (mixByte a b c d) (mixByte b c d a ^^^ _), h, mixByte_eq]
  simp only [BitVec.xor_assoc, xor_left_comm, BitVec.xor_comm, xor_cancel_left]

theorem unmixByte_mixByte :
    unmixByte (mixByte a b c d) (mixByte b c d a) (mixByte c d a b) (mixByte d a b c) = a := by
  rw [unmixByte_eq, mixByte_sum, mixByte_opposite, mixByte_next, mixByte_others]
  simp only [xtime_xor, BitVec.xor_assoc, xor_left_comm, BitVec.xor_comm, xor_cancel_left, BitVec.xor_self, BitVec.xor_zero]

end Column

theorem columnByte_mod (s : Block) (i k : Nat) : columnByte s i k = columnByte s i (k % 4) := by
  unfold columnByte
  congr 1
  omega

/-- A byte of the mixed block, counted down the column of byte `i`. -/
theorem columnByte_mixColumns (s : Block) {i : Nat} (hi : i < 16) (k : Nat) :
    columnByte (mixColumns s) i k =
      mixByte (columnByte s i k) (columnByte s i (k + 1)) (columnByte s i (k + 2)) (columnByte s i (k + 3)) := by
  have hcol : ∀ m, columnByte s (4 * (i / 4) + (i + k) % 4) m = columnByte s i (k + m) := fun m => by
    unfold columnByte
    congr 1
    omega
  show byteAt (mixColumns s) _ = _
  rw [mixColumns, byteAt_blockFrom _ (by omega)]
  simp only [hcol]
  rfl

theorem invMixColumns_mixColumns (s : Block) : invMixColumns (mixColumns s) = s :=
  blockFrom_eq fun i hi => by
    have hturn : ∀ k, columnByte s i (k + 4) = columnByte s i k := fun k => by
      rw [columnByte_mod, columnByte_mod s i k, Nat.add_mod_right]
    have h := unmixByte_mixByte (columnByte s i 0) (columnByte s i 1) (columnByte s i 2) (columnByte s i 3)
    have hbyte : columnByte s i 0 = byteAt s i := by
      unfold columnByte
      congr 1
      omega
    simp only [columnByte_mixColumns s hi, Nat.zero_add, Nat.reduceAdd]
    rw [hturn 0, hturn 1, hturn 2]
    exact h.trans hbyte

/-! ### Rounds and the cipher -/

theorem xor_xor_block (a k : Block) : a ^^^ k ^^^ k = a := by
  rw [BitVec.xor_assoc, BitVec.xor_self, BitVec.xor_zero]

theorem decRound_encRound (s k : Block) : decRound (encRound s k) k = s := by
  rw [decRound, encRound, xor_xor_block, invMixColumns_mixColumns, invShiftRows_shiftRows, invSubBytes_subBytes]

theorem decLast_encLast (s k : Block) : decLast (encLast s k) k = s := by
  rw [decLast, encLast, xor_xor_block, invShiftRows_shiftRows, invSubBytes_subBytes]

/-- Rounds are undone from the last. -/
theorem foldl_decRound_encRound (ks : List Block) (s : Block) : ks.reverse.foldl decRound (ks.foldl encRound s) = s := by
  induction ks generalizing s with
  | nil => rfl
  | cons k ks ih =>
    rw [List.reverse_cons, List.foldl_append, List.foldl_cons, List.foldl_nil, List.foldl_cons, ih, decRound_encRound]

theorem decipher_encipher (key block : Block) : decipher key (encipher key block) = block := by
  rw [decipher, encipher, decLast_encLast, foldl_decRound_encRound, xor_xor_block]

/-- An inverse on one side is one on the other, because there are finitely many blocks. -/
theorem encipher_decipher (key block : Block) : encipher key (decipher key block) = block := by
  have hfinite : Finite Block := Finite.of_injective (fun b : Block => b.toFin) fun a b h => BitVec.eq_of_toFin_eq h
  have hleft : Function.LeftInverse (decipher key) (encipher key) := decipher_encipher key
  exact hleft.rightInverse_of_surjective (Finite.surjective_of_injective hleft.injective) block

/-- Settles O53. -/
theorem deciphermentInvertsEncipherment : Obligations.DeciphermentInvertsEncipherment :=
  fun key => ⟨decipher_encipher key, encipher_decipher key⟩

end Sys2Proof.Machine
end

/-! PROOF. What the passes of a unit compute (R118 to R120, R132): one pass after another, each recorded before the next is
made. -/

section
namespace Sys2Proof.Machine

variable {s : State}

/-! ### A job with its next passes made and recorded -/

/-- A job with the results of its next `n` passes recorded. -/
def State.advance (s : State) (n : Nat) (j : Job) : Job := s.recordAll j (s.passes n j)

theorem advance_zero (j : Job) : s.advance 0 j = j := rfl

theorem advance_succ (n : Nat) (j : Job) : s.advance (n + 1) j = s.advance n (s.record j (s.passInput j).result) := rfl

/-- The captured values do not depend on what the context holds. -/
theorem capturedValue_ctx (s : State) (j : Job) (x : JobCtx) (i : Nat) :
    s.capturedValue { j with ctx := x } i = s.capturedValue j i := rfl

/-! ### A DERIVE (R118 to R120) -/

/-- The card key of an index: Y xor X (R118, R119). -/
def State.cardKey (s : State) (j : Job) (c : DeriveCtx) (k : Nat) : Block :=
  let x := diversifier ((s.batch c.batch).first + c.pos) (s.batch c.batch).domain k
  encipher (s.capturedValue j 0) x ^^^ x

/-- What the three passes of an index leave in the results: card key, check value, wrapped key (R119, R120). -/
def State.cardOf (s : State) (j : Job) (c : DeriveCtx) (k : Nat) : CardKey :=
  { index := k, key := s.cardKey j c k, check := some (firstThree (encipher (s.cardKey j c k) 0))
    wrapped := some (encipher (s.capturedValue j 1) (s.cardKey j c k)) }

/-- The job with its first `m` indices done. -/
def State.derivedTo (s : State) (j : Job) (c : DeriveCtx) (m : Nat) : Job :=
  { j with ctx := .derive { c with done := 3 * m, results := (c.keys.take m).map (s.cardOf j c) } }

theorem modify_last {α : Type} (xs : List α) (x : α) (f : α → α) :
    (xs ++ [x]).modify ((xs ++ [x]).length - 1) f = xs ++ [f x] := by
  rw [List.length_append, List.length_singleton, Nat.add_sub_cancel]
  induction xs with
  | nil => rfl
  | cons y ys ih => simp [ih]

/-- The three passes of the next index: derive, check, wrap. -/
theorem advance_derive (j : Job) (c : DeriveCtx) (m n : Nat) (rs : List CardKey) :
    s.advance (n + 3) { j with ctx := .derive { c with done := 3 * m, results := rs } } =
      s.advance n { j with ctx := .derive { c with
        done := 3 * (m + 1), results := rs ++ [s.cardOf j c (c.keys.getD m 0)] } } := by
  have h0 : 3 * m % 3 = 0 := by omega
  have h1 : (3 * m + 1) % 3 = 1 := by omega
  have h2 : (3 * m + 1 + 1) % 3 = 2 := by omega
  have hm : 3 * m / 3 = m := by omega
  rw [advance_succ, advance_succ, advance_succ]
  congr 1
  simp only [State.passInput, State.derivePass, State.record, State.recordDerive, State.diversifierOf, Pass.result, h0, h1,
    h2, hm, modify_last, List.getLast?_append, List.getLast?_singleton, Option.some_or, Option.map_some, Option.getD_some]
  rfl

theorem advance_derivedTo (j : Job) (c : DeriveCtx) (m n : Nat) (h : c.keys.length = m + n) :
    s.advance (3 * n) (s.derivedTo j c m) = s.derivedTo j c c.keys.length := by
  induction n generalizing m with
  | zero => rw [h]; rfl
  | succ n ih =>
    have hnext : (c.keys.take m).map (s.cardOf j c) ++ [s.cardOf j c (c.keys.getD m 0)] =
        (c.keys.take (m + 1)).map (s.cardOf j c) := by
      rw [List.take_succ_eq_append_getElem (by omega), List.map_append, List.getD_eq_getElem _ _ (by omega)]
      rfl
    rw [show 3 * (n + 1) = 3 * n + 3 by omega, State.derivedTo, advance_derive, hnext]
    exact ih (m + 1) (by omega)

/-! ### A chunk (R132) -/

theorem getD_map_range (f : Nat → Block) {i n : Nat} (h : i < n) : ((List.range n).map f).getD i 0 = f i := by
  simp [List.getD, h]

/-- What stands before item `i` of a chain: its first value, then the items. -/
def chainBefore (first : Block) (f : Nat → Block) : Nat → Block
  | 0 => first
  | i + 1 => f i

theorem chainBefore_eq (first : Block) (f : Nat → Block) (i : Nat) :
    chainBefore first f i = if i = 0 then first else f (i - 1) := by cases i <;> rfl

/-- Plain block `i` of a chunk: the deciphered input xor the input before it. -/
def plainBlock (key first : Block) (blocks : List Block) (i : Nat) : Block :=
  decipher key (blocks.getD i 0) ^^^ chainBefore first (fun i => blocks.getD i 0) i

/-- Output block `i` of a chunk: the plain block xor the output before it, enciphered. -/
def outBlock (key first : Block) (plain : Nat → Block) : Nat → Block
  | 0 => encipher key (plain 0 ^^^ first)
  | i + 1 => encipher key (plain (i + 1) ^^^ outBlock key first plain i)

theorem outBlock_eq (key first : Block) (plain : Nat → Block) (i : Nat) :
    outBlock key first plain i = encipher key (plain i ^^^ chainBefore first (outBlock key first plain) i) := by
  cases i <;> rfl

section Chunk

variable (s) (j : Job) (c : StreamCtx) (ch : Chunk)

/-- The plain blocks of the chunk, under the first captured value. -/
def State.chunkPlain (i : Nat) : Block := plainBlock (s.capturedValue j 0) c.chainIn ch.blocks i

/-- The output blocks of the chunk, under the second. -/
def State.chunkOut (i : Nat) : Block := outBlock (s.capturedValue j 1) c.chainOut (s.chunkPlain j c ch) i

/-- The job with `i` blocks of its chunk deciphered and `k` enciphered. -/
def State.chunkAt (i k : Nat) : Job :=
  { j with ctx := .stream { c with
    chainIn := chainBefore c.chainIn (fun i => ch.blocks.getD i 0) i
    chainOut := chainBefore c.chainOut (s.chunkOut j c ch) k
    inService := some { ch with
      done := i + k, plain := (List.range i).map (s.chunkPlain j c ch), out := (List.range k).map (s.chunkOut j c ch) } } }

variable {s j c ch}

theorem record_decipherment {i : Nat} (h : i < ch.blocks.length) :
    s.record (s.chunkAt j c ch i 0) (s.passInput (s.chunkAt j c ch i 0)).result = s.chunkAt j c ch (i + 1) 0 := by
  have hlt : i + 0 < ch.blocks.length := h
  simp only [State.chunkAt, State.record, State.passInput, State.streamPass, recordStream, if_pos hlt, Pass.result, if_true,
    List.range_succ, List.map_append, List.map_singleton]
  rfl

theorem record_encipherment {k : Nat} (h : k < ch.blocks.length) :
    s.record (s.chunkAt j c ch ch.blocks.length k) (s.passInput (s.chunkAt j c ch ch.blocks.length k)).result =
      s.chunkAt j c ch ch.blocks.length (k + 1) := by
  have hge : ¬ ch.blocks.length + k < ch.blocks.length := by omega
  have hplain : ((List.range ch.blocks.length).map (s.chunkPlain j c ch)).getD (ch.blocks.length + k - ch.blocks.length) 0 =
      s.chunkPlain j c ch k := by
    rw [Nat.add_sub_cancel_left, getD_map_range _ h]
  have hout : encipher (s.capturedValue j 1) (s.chunkPlain j c ch k ^^^ chainBefore c.chainOut (s.chunkOut j c ch) k) =
      s.chunkOut j c ch k := (outBlock_eq _ _ _ k).symm
  simp only [State.chunkAt, State.record, State.passInput, State.streamPass, recordStream, if_neg hge, Pass.result, hplain,
    List.range_succ, List.map_append, List.map_singleton]
  simp only [capturedValue_ctx, Bool.false_eq_true, if_false, hout]
  rfl

theorem advance_decipherments {i m : Nat} (n : Nat) (h : i + m = ch.blocks.length) :
    s.advance (m + n) (s.chunkAt j c ch i 0) = s.advance n (s.chunkAt j c ch ch.blocks.length 0) := by
  induction m generalizing i with
  | zero => rw [Nat.zero_add, ← h, Nat.add_zero]
  | succ m ih => rw [show m + 1 + n = m + n + 1 by omega, advance_succ, record_decipherment (by omega), ih (by omega)]

theorem advance_encipherments {k m : Nat} (h : k + m = ch.blocks.length) :
    s.advance m (s.chunkAt j c ch ch.blocks.length k) = s.chunkAt j c ch ch.blocks.length ch.blocks.length := by
  induction m generalizing k with
  | zero => rw [advance_zero, ← h, Nat.add_zero]
  | succ m ih => rw [advance_succ, record_encipherment (by omega), ih (by omega)]

end Chunk

/-- Settles O52: a DERIVE index by index, a chunk by its decipherments and then its encipherments. -/
theorem passesComputeCardKeysAndChains : Obligations.PassesComputeCardKeysAndChains := by
  refine ⟨fun s j c hctx hdone h1 _ hres => ?derive, fun s j c ch hctx hch h1 _ hdone hplain hout => ?chunk⟩
  case derive =>
    intro serial x card
    have hstart : s.derivedTo j c 0 = j := by
      obtain ⟨owner, tag, st, captured, cp, ctx⟩ := j
      obtain ⟨batch, pos, prior, keys, done, results⟩ := c
      simp only at hctx hdone hres
      subst hctx hdone hres
      rfl
    have hall := advance_derivedTo (s := s) j c 0 c.keys.length (by omega)
    rw [hstart] at hall
    refine hall.trans ?_
    rw [State.derivedTo, List.take_length]
    rfl
  case chunk =>
    intro n
    have hstart : s.chunkAt j c ch 0 0 = j := by
      obtain ⟨owner, tag, st, captured, cp, ctx⟩ := j
      obtain ⟨seq, chainIn, chainOut, declared, done, inService, staged, idle, closing⟩ := c
      obtain ⟨ctag, blocks, cdone, plain, out⟩ := ch
      simp only at hctx hch hdone hplain hout
      subst hctx hch hdone hplain hout
      rfl
    have hall : s.advance (2 * n) j = s.chunkAt j c ch n n := by
      have h := advance_decipherments (s := s) (j := j) (c := c) (ch := ch) (i := 0) (m := n) n (by omega)
      rw [hstart, advance_encipherments (by omega)] at h
      rw [two_mul]
      exact h
    refine ⟨(List.range n).map (s.chunkPlain j c ch), (List.range n).map (s.chunkOut j c ch), by simp, by simp,
      fun i hi => ?_, ?_⟩
    · have hbefore : ∀ (f : Nat → Block) (first : Block),
          (if i = 0 then first else ((List.range n).map f).getD (i - 1) 0) = chainBefore first f i := fun f first => by
        rw [chainBefore_eq, getD_map_range f (show i - 1 < n by omega)]
      rw [getD_map_range _ hi, getD_map_range _ hi, hbefore, ← chainBefore_eq c.chainIn fun i => ch.blocks.getD i 0]
      exact ⟨rfl, outBlock_eq _ _ _ i⟩
    · have hne : ¬ n = 0 := by omega
      refine hall.trans ?_
      rw [State.chunkAt, chainBefore_eq, chainBefore_eq, if_neg hne, if_neg hne, getD_map_range _ (show n - 1 < n by omega),
        two_mul]

end Sys2Proof.Machine
end

/-! PROOF. DERIVE: the steps of R116 as verdicts of its rule in whatever state, what its admission leaves (R117), and from both
the whole frame at a line port at rest. -/

section
namespace Sys2Proof.Machine

variable {s : State}

/-! ### The only request of a port at rest, admitted or left waiting -/

@[simp] theorem accessCheck_withRequest (s : State) (p : Port) (r : Request) (l : LinePort) (n : Nat) (u : KeyUse)
    (b : Option Nat) : (s.withRequest p r).accessCheck l n u b = s.accessCheck l n u b := rfl

@[simp] theorem lineSlotFor_withRequest (s : State) (p : Port) (r : Request) (q : Port) :
    (s.withRequest p r).lineSlotFor q = s.lineSlotFor q := lineSlotFor_congr (fun _ => rfl) (fun _ => rfl) q

theorem beginAdmission_withRequest {p : Port} (hq : s.quiet p = true) (r : Request) :
    (s.withRequest p r).beginAdmission p = s.taken p := by
  obtain ⟨_, _, _, hsel, hrq, _⟩ := (State.quiet_iff s p).1 hq
  simp [State.withRequest, State.beginAdmission, State.taken, hsel, hrq]

theorem setWait_withRequest {p : Port} (hq : s.quiet p = true) (r : Request) (w : HeadWait) :
    (s.withRequest p r).setWait p w = s.setPort p { s.port p with frame := .none, requests := [r], wait := w } := by
  obtain ⟨_, _, _, hsel, _⟩ := (State.quiet_iff s p).1 hq
  simp [State.withRequest, State.setWait, hsel]

/-- A request admitted at a port at rest, where its admission lists no head for a try. -/
theorem exec_admitted {p : Port} {k : ReqKind} {flags tag : Byte} {body : List Byte} {t : State} (hq : s.quiet p = true)
    (hb : body.length ≤ 88) (ha : k.allowedOn p = true) (hm : p = .cp ∨ s.mode = .operating) (hl : k.lengthOk body = true)
    (hv : admitKind true k p ⟨k.code, tag, body⟩ (s.withRequest p ⟨k.code, tag, body⟩) = .accept t)
    (hr : (t.port p).requests = []) (ht : t.tries = []) : exec (requestCommand k p flags tag body) s = .next t := by
  rw [exec_accepted hq hb ha hm hl hv hr (triesDue_of_tries t ht), tries_cleared ht]

section Taken

variable (s) (p : Port)

@[simp] theorem State.tries_taken : (s.taken p).tries = s.tries := by simp [State.taken]
@[simp] theorem State.batch_taken (n : Nat) : (s.taken p).batch n = s.batch n := by simp [State.taken]
@[simp] theorem State.liveOf_taken (q : Port) : (s.taken p).liveOf q = s.liveOf q := by simp [State.taken]
@[simp] theorem State.requests_taken (q : Port) : ((s.taken p).port q).requests = (s.port q).requests := by
  rw [State.taken, State.port_leaveWaitList]
  by_cases h : q = p
  · subst q
    rw [State.port_setPort_same]
  · rw [State.port_setPort_ne _ _ h]

end Taken

theorem port_arbitrate (s : State) (p : Port) : s.arbitrate.port p = s.port p := by
  obtain ⟨_, _, _, _, h⟩ := arbitrate_touches s
  rw [h]
  rfl

theorem tries_arbitrate (s : State) : s.arbitrate.tries = s.tries := by
  obtain ⟨_, _, _, _, h⟩ := arbitrate_touches s
  rw [h]

/-! ### The quota and the pool (R84, R92) -/

theorem lineSlotFor_quota {p : Port} (h : 5 ≤ (s.liveOf p).length) : s.lineSlotFor p = .error .quota := if_pos h

theorem lineSlotFor_full {p : Port} (h : (s.liveOf p).length < 5) (hall : ∀ i, i < 15 → (s.job i).isSome) :
    s.lineSlotFor p = .error .slot := by
  have hnone : (List.range Config.lineSlots).find? (fun i => (s.job i).isNone) = none := by
    rw [List.find?_range_eq_none]
    intro i hi
    simpa using hall i hi
  have hquota : ¬ Config.lineQuota ≤ (s.liveOf p).length := Nat.not_le.2 h
  unfold State.lineSlotFor
  rw [if_neg hquota, hnone]

theorem lineSlotFor_of_slotFor {l : LinePort} {slot : Nat} (h : s.slotFor l slot) : s.lineSlotFor (.line l) = .ok slot := by
  obtain ⟨hquota, hlt, hfree, hlow⟩ := h
  have hfind : (List.range Config.lineSlots).find? (fun i => (s.job i).isNone) = some slot := by
    rw [List.find?_range_eq_some]
    refine ⟨by simp [hfree], by simpa [Config.lineSlots] using hlt, fun i hi => ?_⟩
    simpa using hlow i hi
  have hroom : ¬ Config.lineQuota ≤ (s.liveOf (.line l)).length := Nat.not_le.2 hquota
  unfold State.lineSlotFor
  rw [if_neg hroom, hfind]

/-! ### The rule of DERIVE (R116) -/

/-- The fields of a DERIVE's body. -/
structure DeriveFields (body : List Byte) (b serial m t : Nat) (keys : List Nat) : Prop where
  batch : field body 0 = b
  serial : beNat (slice body 1 4) = serial
  master : field body 5 = m
  transport : field body 6 = t
  keys : readSet allKeyIndices (slice body 7 3) = some keys

section Rule

variable {now : Bool} {l : LinePort} {r : Request} {b serial m t : Nat} {keys : List Nat}

theorem admitDerive_unreadable (h : readSet allKeyIndices (slice r.body 7 3) = none) :
    admitDerive now (.line l) r s = .refuse (bare .range) := by
  simp only [admitDerive, h]

/-- The checks of steps 4 to 7 of R116; `admitDerive_refuse` and `admitDerive_names` tie them to the model. -/
def State.deriveTests (s : State) (p : Port) (b serial m t : Nat) (keys : List Nat) : List (Bool × Answer) :=
  [(b ≤ 31 && !keys.isEmpty && m ≤ 127 && t ≤ 127, .range), (s.inReach p (s.batch b), .domain),
    ((s.batch b).state == .opened, .batchState), ((s.batch b).holds serial, .outOfBatch)]

variable (hf : DeriveFields r.body b serial m t keys)
include hf

theorem admitDerive_refuse {a : Answer} (h : firstFailure (s.deriveTests (.line l) b serial m t keys) = some a) :
    admitDerive now (.line l) r s = .refuse (bare a) := by
  obtain ⟨rfl, rfl, rfl, rfl, hk⟩ := hf
  rw [State.deriveTests] at h
  simp only [admitDerive, hk, h]

variable (h : firstFailure (s.deriveTests (.line l) b serial m t keys) = none)
include h

theorem admitDerive_master {x : RefusalRec} (hm : s.accessCheck l m .derive (some b) = .error x) :
    admitDerive now (.line l) r s = .refuse x := by
  obtain ⟨rfl, rfl, rfl, rfl, hk⟩ := hf
  rw [State.deriveTests] at h
  simp only [admitDerive, hk, h, hm]

variable {mk : Nat × CellId} (hm : s.accessCheck l m .derive (some b) = .ok mk)
include hm

theorem admitDerive_transport {x : RefusalRec} (ht : s.accessCheck l t .wrap (some b) = .error x) :
    admitDerive now (.line l) r s = .refuse x := by
  obtain ⟨rfl, rfl, rfl, rfl, hk⟩ := hf
  rw [State.deriveTests] at h
  simp only [admitDerive, hk, h, hm, ht]

variable {tk : Nat × CellId} (ht : s.accessCheck l t .wrap (some b) = .ok tk)
include ht

theorem admitDerive_position {a : Answer} (hr : (s.batch b).reserveTest (serial - (s.batch b).first) = .error a) :
    admitDerive now (.line l) r s = .refuse (bare a) := by
  obtain ⟨rfl, rfl, rfl, rfl, hk⟩ := hf
  rw [State.deriveTests] at h
  simp only [admitDerive, hk, h, hm, ht, hr]

variable {prior : PosState} (hr : (s.batch b).reserveTest (serial - (s.batch b).first) = .ok prior)
include hr

theorem admitDerive_waits {w : HeadWait} (hw : s.lineSlotFor (.line l) = .error w) :
    admitDerive now (.line l) r s = .wait w := by
  obtain ⟨rfl, rfl, rfl, rfl, hk⟩ := hf
  rw [State.deriveTests] at h
  simp only [admitDerive, hk, h, hm, ht, hr, hw]

theorem admitDerive_accept {slot : Nat} (hw : s.lineSlotFor (.line l) = .ok slot) :
    admitDerive now (.line l) r s =
      .accept (s.startDerive now (.line l) r b (serial - (s.batch b).first) prior keys mk tk slot) := by
  obtain ⟨rfl, rfl, rfl, rfl, hk⟩ := hf
  rw [State.deriveTests] at h
  simp only [admitDerive, hk, h, hm, ht, hr, hw]

end Rule

/-! ### When the tests of R116 and R72 pass -/

theorem deriveTests_pass {l : LinePort} {b serial m t : Nat} {keys : List Nat} (h : s.deriveNames l b serial m t keys) :
    firstFailure (s.deriveTests (.line l) b serial m t keys) = none := by
  obtain ⟨hb, hm, ht, _, hne, _, hdom, hst, hfirst, hlast⟩ := h
  have hholds : (s.batch b).holds serial = true := (Batch.holds_iff _ _).2 ⟨hfirst, hlast⟩
  simp [State.deriveTests, hb, hm, ht, hne, State.inReach_line, hdom, hst, hholds]

theorem reserveTest_of_position {b : Batch} {pos : Nat} {prior : PosState} (hpos : b.map[pos]? = some prior)
    (h : prior = .fresh ∨ prior = .spoilt ∧ b.reissued + b.reissueRes < b.allowance) : b.reserveTest pos = .ok prior := by
  rcases h with rfl | ⟨rfl, hlt⟩
  · simp [Batch.reserveTest, hpos]
  · simp [Batch.reserveTest, hpos, hlt]

theorem prior_of_deriveFits {l : LinePort} {b serial m t : Nat} {keys : List Nat} {mk tk : Nat × CellId} {prior : PosState}
    (h : s.deriveFits l b serial m t keys mk tk prior) : prior = .fresh ∨ prior = .spoilt := by
  obtain ⟨_, _, _, _, hprior⟩ := h
  exact hprior.imp_right fun h => h.1

/-- The body of a DERIVE spells its fields. -/
theorem deriveFields_body {b serial m t : Nat} {keys : List Nat} (h : s.deriveNames l b serial m t keys) :
    DeriveFields (deriveBody b serial m t keys) b serial m t keys := by
  obtain ⟨hb, hm, ht, hserial, _, horder, _⟩ := h
  have hbody : deriveBody b serial m t keys =
      byte b :: (beBytes 4 serial ++ byte m :: byte t :: setBytes allKeyIndices keys) := by simp [deriveBody]
  rw [hbody]
  refine ⟨byte_toNat b (by omega), ?_, ?_, ?_, ?_⟩
  · rw [slice_cons_succ, slice_zero (beBytes_length 4 serial)]
    exact beNat_beBytes 4 serial (by unfold maxSerial at hserial; omega)
  · rw [field_cons_succ, field_append_right (by simp), beBytes_length]
    exact byte_toNat m (by omega)
  · rw [field_cons_succ, field_append_right (by simp), beBytes_length]
    exact byte_toNat t (by omega)
  · rw [slice_cons_succ, slice_append_right (by simp), beBytes_length]
    have hset : slice (setBytes allKeyIndices keys) 0 3 = setBytes allKeyIndices keys := slice_zero_self (setBytes_length _ _)
    show readSet allKeyIndices (slice (setBytes allKeyIndices keys) 0 3) = some keys
    rw [hset, readSet_setBytes, ← horder]

section Fits

variable {now : Bool} {l : LinePort} {r : Request} {b serial m t : Nat} {keys : List Nat} {mk tk : Nat × CellId}
  {prior : PosState}
  (hbody : r.body = deriveBody b serial m t keys) (h : s.deriveFits l b serial m t keys mk tk prior)
include hbody h

/-- A DERIVE whose checks pass waits for what it lacks. -/
theorem admitDerive_fits_waits {w : HeadWait} (hw : s.lineSlotFor (.line l) = .error w) :
    admitDerive now (.line l) r s = .wait w := by
  obtain ⟨hnames, hm, ht, hpos, hprior⟩ := h
  exact admitDerive_waits (by rw [hbody]; exact deriveFields_body hnames) (deriveTests_pass hnames) hm ht
    (reserveTest_of_position hpos hprior) hw

/-- A DERIVE whose checks pass and which finds its slot is admitted. -/
theorem admitDerive_fits_accept {slot : Nat} (hw : s.slotFor l slot) :
    admitDerive now (.line l) r s =
      .accept (s.startDerive now (.line l) r b (serial - (s.batch b).first) prior keys mk tk slot) := by
  obtain ⟨hnames, hm, ht, hpos, hprior⟩ := h
  exact admitDerive_accept (by rw [hbody]; exact deriveFields_body hnames) (deriveTests_pass hnames) hm ht
    (reserveTest_of_position hpos hprior) (lineSlotFor_of_slotFor hw)

end Fits

/-! ### What the admission leaves (R117) -/

theorem reserve_eq {b : Batch} {pos : Nat} {prior : PosState} (h : prior = .fresh ∨ prior = .spoilt) :
    b.reserve pos prior =
      if prior = .fresh then { b with map := b.map.set pos .reservedFresh, freshRes := b.freshRes + 1 }
      else { b with map := b.map.set pos .reservedSpoilt, reissueRes := b.reissueRes + 1 } := by
  rcases h with rfl | rfl <;> rfl

theorem liveOf_captures (s : State) (x y : Nat × CellId) (p : Port) :
    ((s.capture x.1 x.2).capture y.1 y.2).liveOf p = s.liveOf p := by
  obtain ⟨_, h⟩ := captures_touch s x y
  rw [h]
  rfl

theorem startDerive_eq {now : Bool} {l : LinePort} {r : Request} {b pos : Nat} {prior : PosState} {keys : List Nat}
    {mk tk : Nat × CellId} {slot : Nat} (h : prior = .fresh ∨ prior = .spoilt) :
    s.startDerive now (.line l) r b pos prior keys mk tk slot =
      ((s.beginAdmission (.line l)).withDerive l r.tag b pos prior keys mk tk slot).arbitrateIf now := by
  unfold State.startDerive State.withDerive State.placeJob
  dsimp only
  show State.arbitrateIf (State.setLive _ _ (State.liveOf (State.capture _ _ _) _ ++ [slot])) now = _
  rw [liveOf_captures, State.liveOf_setBatch, reserve_eq h, batch_beginAdmission]

section WithDerive

variable (s) (l : LinePort) (tag : Byte) (b pos : Nat) (prior : PosState) (keys : List Nat) (mk tk : Nat × CellId) (slot : Nat)

/-- The admission of a DERIVE touches the batches, the Key Table, the slots and the lists of live jobs, besides its port. -/
theorem withDerive_touches : ∃ batches keys' slots live, s.withDerive l tag b pos prior keys mk tk slot =
    { s with batches := batches, keys := keys', slots := slots, live := live } := by
  unfold State.withDerive
  dsimp only
  obtain ⟨k, h⟩ := captures_touch (s.setBatch b (if prior = .fresh then _ else _)) mk tk
  rw [h]
  exact ⟨_, _, _, _, rfl⟩

theorem port_withDerive (p : Port) : (s.withDerive l tag b pos prior keys mk tk slot).port p = s.port p := by
  obtain ⟨_, _, _, _, h⟩ := withDerive_touches s l tag b pos prior keys mk tk slot
  rw [h]
  rfl

theorem tries_withDerive : (s.withDerive l tag b pos prior keys mk tk slot).tries = s.tries := by
  obtain ⟨_, _, _, _, h⟩ := withDerive_touches s l tag b pos prior keys mk tk slot
  rw [h]

end WithDerive

/-! ### The frame of a DERIVE at a line port at rest -/

theorem deriveBody_length (b serial m t : Nat) (keys : List Nat) : (deriveBody b serial m t keys).length = 10 := by
  simp [deriveBody, allKeyIndices]

/-- Settles O23: the rule accepts, and what it leaves is read off the admission. -/
theorem deriveAdmissionMakesAJob : Obligations.DeriveAdmissionMakesAJob := by
  intro s l flags tag b serial m t slot keys mk tk prior hq hm hfits hslot pos reserved job
  have hq : s.quiet (.line l) = true := hq
  obtain ⟨_, htries, _, _, hrq, _⟩ := (State.quiet_iff s (.line l)).1 hq
  have hv := admitDerive_fits_accept (now := true) (s := s.withRequest (.line l) ⟨0x01, tag, deriveBody b serial m t keys⟩)
    (r := ⟨0x01, tag, deriveBody b serial m t keys⟩) rfl hfits hslot
  rw [startDerive_eq (prior_of_deriveFits hfits), beginAdmission_withRequest hq] at hv
  refine (exec_admitted (k := .derive) hq (by simp [deriveBody_length]) rfl (.inr hm)
    (by simp [ReqKind.lengthOk, deriveBody_length])
    hv ?_ ?_).trans ?_
  · rw [State.arbitrateIf, if_pos rfl, port_arbitrate, port_withDerive, State.requests_taken, hrq]
  · rw [State.arbitrateIf, if_pos rfl, tries_arbitrate, tries_withDerive, State.tries_taken, htries]
  · rw [State.arbitrateIf, if_pos rfl, State.withDerive, State.batch_taken, State.liveOf_taken]
    rfl

/-! ### A DERIVE that is refused or waits (R116) -/

/-- The key indices that three bytes spell are none exactly when each byte is 0x00. -/
theorem members_eq_nil_iff {all set : List Nat} {bytes : List Byte} (hset : setBytes all set = bytes)
    (horder : set = all.filter set.contains) : set = [] ↔ ∀ x ∈ bytes, x = 0x00 := by
  subst hset
  constructor
  · rintro rfl x hx
    obtain ⟨a, _, rfl⟩ := List.mem_map.1 hx
    simp
  · intro h
    refine List.eq_nil_iff_forall_not_mem.2 fun a ha => ?_
    have hall : a ∈ all := (List.mem_filter.1 (horder ▸ ha)).1
    have hone : (if set.contains a then (1 : Byte) else 0) = 0 := h _ (List.mem_map.2 ⟨a, hall, rfl⟩)
    rw [if_pos (by simpa using ha)] at hone
    exact absurd hone (by decide)

/-- The body of a DERIVE whose key bytes are any three bytes. -/
def deriveBytes (b serial m t : Nat) (ks : List Byte) : List Byte := [byte b] ++ beBytes 4 serial ++ [byte m, byte t] ++ ks

section DeriveFrame

variable {l : LinePort} {flags tag : Byte} {b serial m t : Nat} {ks : List Byte} (hks : ks.length = 3)
include hks

theorem lengthOk_deriveBytes : ReqKind.derive.lengthOk (deriveBytes b serial m t ks) = true := by
  simp [ReqKind.lengthOk, deriveBytes, hks]

theorem deriveBytes_keys : slice (deriveBytes b serial m t ks) 7 3 = ks := by
  have hbody : deriveBytes b serial m t ks = byte b :: (beBytes 4 serial ++ byte m :: byte t :: ks) := by simp [deriveBytes]
  rw [hbody, slice_cons_succ, slice_append_right (by simp), beBytes_length]
  exact slice_zero_self hks

theorem deriveFields_bytes {keys : List Nat} (hb : b ≤ 255) (hm : m ≤ 255) (ht : t ≤ 255) (hserial : serial ≤ maxSerial)
    (hkeys : readSet allKeyIndices ks = some keys) : DeriveFields (deriveBytes b serial m t ks) b serial m t keys := by
  have hbody : deriveBytes b serial m t ks = byte b :: (beBytes 4 serial ++ byte m :: byte t :: ks) := by simp [deriveBytes]
  refine ⟨?_, ?_, ?_, ?_, by rw [deriveBytes_keys hks]; exact hkeys⟩
  · rw [hbody]
    exact byte_toNat b (by omega)
  · rw [hbody, slice_cons_succ, slice_zero (beBytes_length 4 serial)]
    exact beNat_beBytes 4 serial (by unfold maxSerial at hserial; omega)
  · rw [hbody, field_cons_succ, field_append_right (by simp), beBytes_length]
    exact byte_toNat m (by omega)
  · rw [hbody, field_cons_succ, field_append_right (by simp), beBytes_length]
    exact byte_toNat t (by omega)

variable (hq : s.quiet (.line l) = true) (hm : s.mode = .operating)
include hq hm

theorem exec_derive_refused {x : RefusalRec}
    (hv : admitDerive true (.line l) ⟨0x01, tag, deriveBytes b serial m t ks⟩
      (s.withRequest (.line l) ⟨0x01, tag, deriveBytes b serial m t ks⟩) = .refuse x) :
    exec (.derive (.line l) flags tag (deriveBytes b serial m t ks)) s =
      .next (s.served (.line l) ⟨0x01, tag, x.answer, x.slot, x.stage, []⟩) :=
  exec_refused (k := .derive) hq (by simp [deriveBytes, hks]) rfl (.inr hm) (lengthOk_deriveBytes hks) hv

theorem exec_derive_waits {w : HeadWait}
    (hv : admitDerive true (.line l) ⟨0x01, tag, deriveBytes b serial m t ks⟩
      (s.withRequest (.line l) ⟨0x01, tag, deriveBytes b serial m t ks⟩) = .wait w) :
    exec (.derive (.line l) flags tag (deriveBytes b serial m t ks)) s =
      .next ((s.withRequest (.line l) ⟨0x01, tag, deriveBytes b serial m t ks⟩).headWaits (.line l)
        ⟨0x01, tag, deriveBytes b serial m t ks⟩ w) :=
  exec_waits (k := .derive) hq (by simp [deriveBytes, hks]) rfl (.inr hm) (lengthOk_deriveBytes hks) hv

end DeriveFrame

/-- The head of a port at rest that needs a line slot and waits for its quota. -/
theorem headWaits_quota {l : LinePort} {r : Request} (hq : s.quiet (.line l) = true) (hr : needsSlot (.line l) r = true) :
    (s.withRequest (.line l) r).headWaits (.line l) r .quota =
      s.setPort (.line l) { s.port (.line l) with frame := .none, requests := [r], wait := .quota } := by
  simp only [State.headWaits, hr]
  exact setWait_withRequest hq r .quota

/-- The same head, without a line slot: its port joins the slot wait list (R93). -/
theorem headWaits_slot {l : LinePort} {r : Request} (hq : s.quiet (.line l) = true) (hr : needsSlot (.line l) r = true) :
    (s.withRequest (.line l) r).headWaits (.line l) r .slot =
      { s.setPort (.line l) { s.port (.line l) with frame := .none, requests := [r], wait := .slot } with
        waitList := if l ∈ s.waitList then s.waitList else s.waitList ++ [l] } := by
  simp only [State.headWaits, hr]
  rw [← setWait_withRequest hq r .slot]
  rfl

/-- Settles O24: each clause adds the next step of R116 to those that the clauses before it passed. -/
theorem deriveRefusedOrWaits : Obligations.DeriveRefusedOrWaits := by
  intro s l flags tag b serial m t ks hq hm hb hmb htb hserial hks body pos refused waits
  have hpart := deriveBytes_keys (b := b) (serial := serial) (m := m) (t := t) hks
  have refusedBy : ∀ {x}, admitDerive true (.line l) ⟨0x01, tag, deriveBytes b serial m t ks⟩
      (s.withRequest (.line l) ⟨0x01, tag, deriveBytes b serial m t ks⟩) = .refuse x → refused x :=
    fun hv => exec_derive_refused hks hq hm hv
  have waitsBy : ∀ {w}, admitDerive true (.line l) ⟨0x01, tag, deriveBytes b serial m t ks⟩
      (s.withRequest (.line l) ⟨0x01, tag, deriveBytes b serial m t ks⟩) = .wait w →
      exec (.derive (.line l) flags tag body) s = .next ((s.withRequest (.line l) ⟨0x01, tag, body⟩).headWaits (.line l)
        ⟨0x01, tag, body⟩ w) := fun hv => exec_derive_waits hks hq hm hv
  obtain ⟨u, hu, haccess, hbatch, hslots, htests⟩ : ∃ u : State,
      s.withRequest (.line l) ⟨0x01, tag, deriveBytes b serial m t ks⟩ = u ∧
      (∀ n use, u.accessCheck l n use (some b) = s.accessCheck l n use (some b)) ∧ u.batch b = s.batch b ∧
      u.lineSlotFor (.line l) = s.lineSlotFor (.line l) ∧
      ∀ keys, u.deriveTests (.line l) b serial m t keys = s.deriveTests (.line l) b serial m t keys :=
    ⟨_, rfl, fun _ _ => rfl, rfl, lineSlotFor_withRequest s _ _ _, fun _ => rfl⟩
  rw [hu] at refusedBy waitsBy
  cases hread : readSet allKeyIndices ks with
  | none =>
    refine ⟨fun _ => refusedBy (admitDerive_unreadable (by rw [hpart]; exact hread)), fun _ _ _ hall _ => ?_⟩
    obtain ⟨x, hx, h0, h1⟩ := (readSet_eq_none_iff _ _).1 hread
    exact absurd (hall x hx) (not_or.2 ⟨h0, h1⟩)
  | some keys =>
    obtain ⟨hspelt, horder⟩ := readSet_spelt (show ks.length = allKeyIndices.length from hks) (by decide) hread
    have hnil := members_eq_nil_iff hspelt horder
    have hf := deriveFields_bytes hks hb hmb htb hserial hread
    have refusedFirst : ∀ {a}, firstFailure (s.deriveTests (.line l) b serial m t keys) = some a → refused (bare a) :=
      fun h => refusedBy (admitDerive_refuse hf ((congrArg firstFailure (htests keys)).trans h))
    refine ⟨fun hout => refusedFirst ?range, fun hb hm' ht _ hone => ⟨fun hdom => refusedFirst ?domain, fun hdom =>
      ⟨fun hst => refusedFirst ?batchState, fun hst => ⟨fun hout => refusedFirst ?outOfBatch, fun hfirst hlast => ?position⟩⟩⟩⟩
    case range =>
      have hbad : ¬ (b ≤ 31 ∧ keys ≠ [] ∧ m ≤ 127 ∧ t ≤ 127) := by
        rintro ⟨hb', hne, hm', ht'⟩
        rcases hout with h | h | h | ⟨x, hx, h0, h1⟩ | h
        · omega
        · omega
        · omega
        · have hnone := (readSet_eq_none_iff allKeyIndices ks).2 ⟨x, hx, h0, h1⟩
          rw [hread] at hnone
          cases hnone
        · exact hne (hnil.2 h)
      have htest : (decide (b ≤ 31) && !keys.isEmpty && decide (m ≤ 127) && decide (t ≤ 127)) = false :=
        Bool.eq_false_iff.2 fun h => hbad (by simpa [and_assoc] using h)
      simp [State.deriveTests, htest]
    all_goals
      have hne : keys ≠ [] := fun h => by
        obtain ⟨x, hx, h1⟩ := hone
        exact absurd (h1.symm.trans (hnil.1 h x hx)) (by decide)
    case domain => simp [State.deriveTests, hb, hm', ht, hne, State.inReach_line, hdom]
    case batchState => simp [State.deriveTests, hb, hm', ht, hne, State.inReach_line, hdom, hst]
    case outOfBatch =>
      have hholds : ¬ (s.batch b).holds serial = true := by
        rw [Batch.holds_iff]
        omega
      simp [State.deriveTests, hb, hm', ht, hne, State.inReach_line, hdom, hst, hholds]
    case position =>
      have hpass : firstFailure (u.deriveTests (.line l) b serial m t keys) = none :=
        (congrArg firstFailure (htests keys)).trans <| deriveTests_pass
        ⟨hb, hm', ht, hserial, hne, horder, hdom, hst, hfirst, hlast⟩
      refine ⟨fun x hx => refusedBy (admitDerive_master hf hpass ((haccess _ _).trans hx)), fun mk hmk =>
        ⟨fun x hx => refusedBy (admitDerive_transport hf hpass ((haccess _ _).trans hmk) ((haccess _ _).trans hx)), fun tk htk =>
          ⟨fun st hst hother => ?_, fun hst hnone => ?_, fun hpos => ⟨fun hquota => ?_, fun hquota hall => ?_⟩⟩⟩⟩
      · refine refusedBy (admitDerive_position hf hpass ((haccess _ _).trans hmk) ((haccess _ _).trans htk) (a := .duplicate) ?_)
        rw [hbatch]
        rcases hother with rfl | rfl | rfl <;> simp [Batch.reserveTest, pos] at hst ⊢ <;> simp [hst]
      · refine refusedBy (admitDerive_position hf hpass ((haccess _ _).trans hmk) ((haccess _ _).trans htk) (a := .allowance) ?_)
        rw [hbatch]
        simp [Batch.reserveTest, pos] at hst ⊢
        simp [hst, Nat.not_lt.2 hnone]
      all_goals
        have hprior : ∃ prior, (u.batch b).reserveTest (serial - (u.batch b).first) = .ok prior := by
          rw [hbatch]
          rcases hpos with h | ⟨h, hlt⟩
          · exact ⟨_, reserveTest_of_position h (.inl rfl)⟩
          · exact ⟨_, reserveTest_of_position h (.inr ⟨rfl, hlt⟩)⟩
        obtain ⟨prior, hprior⟩ := hprior
        have hwaits : ∀ {w}, s.lineSlotFor (.line l) = .error w →
            admitDerive true (.line l) ⟨0x01, tag, deriveBytes b serial m t ks⟩ u = .wait w := fun h =>
          admitDerive_waits hf hpass ((haccess _ _).trans hmk) ((haccess _ _).trans htk) hprior (hslots.trans h)
      · rw [waitsBy (hwaits (lineSlotFor_quota hquota)), headWaits_quota hq rfl]
      · rw [waitsBy (hwaits (lineSlotFor_full hquota hall)), headWaits_slot hq rfl]

end Sys2Proof.Machine
end

/-! PROOF. STREAM-OPEN (R127, R128) and STREAM-CHUNK (R129 to R131) at a line port at rest. -/

section
namespace Sys2Proof.Machine

variable {s : State}

/-! ### A response beside the operations that leave the port units alone -/

/-- What leaves the port units alone may be done before a response or after it. -/
theorem respond_commute {f : State → State} {p : Port} (hf : ∀ (t : State) (u : PortUnit), f (t.setPort p u) = (f t).setPort p u)
    (hp : ∀ t : State, (f t).port p = t.port p) (t : State) (r : Response) : (f t).respond p r = f (t.respond p r) := by
  unfold State.respond
  dsimp only
  rw [hp]
  split
  · rfl
  · rw [hf]

theorem capture_setPort (s : State) (p : Port) (u : PortUnit) (n : Nat) (c : CellId) :
    (s.setPort p u).capture n c = (s.capture n c).setPort p u := by
  unfold State.capture State.modCell
  rw [State.entry_setPort]
  split <;> rfl

theorem port_capture (s : State) (p : Port) (n : Nat) (c : CellId) : (s.capture n c).port p = s.port p := by
  obtain ⟨_, h⟩ := capture_touches s n c
  rw [h]
  rfl

theorem port_taken (s : State) (p : Port) :
    (s.taken p).port p = { s.port p with frame := .none, wait := .none, reserved := (s.port p).reserved + 1 } := by
  simp [State.taken]

theorem setPort_leaveWaitList (s : State) (p q : Port) (u : PortUnit) :
    (s.leaveWaitList q).setPort p u = (s.setPort p u).leaveWaitList q := by cases q <;> rfl

theorem setPort_taken (s : State) (p : Port) (u : PortUnit) : (s.taken p).setPort p u = (s.setPort p u).leaveWaitList p := by
  rw [State.taken, setPort_leaveWaitList, State.setPort_setPort]

/-- A response into the entry that an admission has just reserved (R91, R146). -/
theorem respond_taken (s : State) (p : Port) (r : Response) : (s.taken p).respond p r = s.served p r := by
  rw [respond_reserved _ _ _ (by rw [port_taken]; simp), port_taken, setPort_taken]
  rfl

/-! ### STREAM-OPEN (R127, R128) -/

/-- What the admission of a STREAM-OPEN leaves, besides its port and its response (R128, R129, R136). -/
def State.withStream (s : State) (l : LinePort) (tag : Byte) (sk dk : Nat × CellId) (ivIn ivOut : Block) (n slot : Nat) : State :=
  ((((s.capture sk.1 sk.2).capture dk.1 dk.2).setJob slot (some
    { owner := .line l, tag := tag, state := .idle, captured := [sk, dk], cancelPending := false
      ctx := .stream { seq := s.seq slot + 1, chainIn := ivIn, chainOut := ivOut, declared := n, done := 0, inService := none,
                       staged := none, idle := some (s.binding l).idleLimit, closing := none } })).setLive (.line l)
    (s.liveOf (.line l) ++ [slot])).setSeq slot (s.seq slot + 1)

section WithStream

variable (s) (l : LinePort) (tag : Byte) (sk dk : Nat × CellId) (ivIn ivOut : Block) (n slot : Nat)

theorem withStream_setPort (p : Port) (u : PortUnit) :
    (s.setPort p u).withStream l tag sk dk ivIn ivOut n slot = (s.withStream l tag sk dk ivIn ivOut n slot).setPort p u := by
  unfold State.withStream
  rw [capture_setPort, capture_setPort]
  rfl

theorem port_withStream (p : Port) : (s.withStream l tag sk dk ivIn ivOut n slot).port p = s.port p := by
  show State.port (State.capture _ _ _) p = _
  rw [port_capture, port_capture]

theorem tries_withStream : (s.withStream l tag sk dk ivIn ivOut n slot).tries = s.tries := by
  obtain ⟨_, h⟩ := captures_touch s sk dk
  unfold State.withStream
  rw [h]
  rfl

theorem startStream_eq (r : Request) (htag : r.tag = tag) :
    s.startStream (.line l) l r sk dk ivIn ivOut n slot =
      ((s.beginAdmission (.line l)).withStream l tag sk dk ivIn ivOut n slot).respond (.line l)
        (plainResponse r.code r.tag .done ([byte slot, s.seq slot + 1] ++ beBytes 2 n)) := by
  obtain ⟨_, h⟩ := captures_touch (s.beginAdmission (.line l)) sk dk
  have hseq : (((s.beginAdmission (.line l)).capture sk.1 sk.2).capture dk.1 dk.2).seq slot = s.seq slot := by
    rw [h]
    rfl
  subst htag
  unfold State.startStream State.withStream State.placeJob State.answer
  dsimp only
  rw [hseq]
  show State.respond (State.setSeq (State.setLive _ _ (State.liveOf (State.capture _ _ _) _ ++ [slot])) _ _) _ _ = _
  rw [liveOf_captures]
  rfl

end WithStream

section OpenRule

variable {l : LinePort} {r : Request} {src dst n : Nat} {ivIn ivOut : Block}

/-- The fields of a STREAM-OPEN's body. -/
structure OpenFields (body : List Byte) (src dst n : Nat) (ivIn ivOut : Block) : Prop where
  source : field body 0 = src
  destination : field body 1 = dst
  count : beNat (slice body 34 2) = n
  first : blockOf (slice body 2 16) = ivIn
  second : blockOf (slice body 18 16) = ivOut

theorem openFields_body (hs : src ≤ 255) (hd : dst ≤ 255) (hn : n ≤ 65535) :
    OpenFields (streamOpenBody src dst ivIn ivOut n) src dst n ivIn ivOut := by
  have hbody : streamOpenBody src dst ivIn ivOut n =
      byte src :: byte dst :: (blockBytes ivIn ++ (blockBytes ivOut ++ beBytes 2 n)) := by simp [streamOpenBody]
  rw [hbody]
  refine ⟨byte_toNat src (by omega), byte_toNat dst (by omega), ?_, ?_, ?_⟩
  · rw [slice_cons_succ, slice_cons_succ, slice_append_right (by simp), blockBytes_length, slice_append_right (by simp),
      blockBytes_length]
    show beNat (slice (beBytes 2 n) 0 2) = n
    rw [slice_zero_self (beBytes_length 2 n)]
    exact beNat_beBytes 2 n (by omega)
  · rw [slice_cons_succ, slice_cons_succ, slice_zero (blockBytes_length ivIn), blockOf_blockBytes]
  · rw [slice_cons_succ, slice_cons_succ, slice_append_right (by simp), blockBytes_length]
    show blockOf (slice (blockBytes ivOut ++ beBytes 2 n) 0 16) = ivOut
    rw [slice_zero (blockBytes_length ivOut), blockOf_blockBytes]

variable (hf : OpenFields r.body src dst n ivIn ivOut)
include hf

theorem admitStreamOpen_range (h : ¬ (src ≤ 127 ∧ dst ≤ 127 ∧ 1 ≤ n)) :
    admitStreamOpen (.line l) r s = .refuse (bare .range) := by
  obtain ⟨rfl, rfl, rfl, rfl, rfl⟩ := hf
  have htest : (decide (field r.body 0 ≤ 127) && decide (field r.body 1 ≤ 127) && decide (1 ≤ beNat (slice r.body 34 2))) =
    false :=
    Bool.eq_false_iff.2 fun ht => h (by simpa [and_assoc] using ht)
  simp only [admitStreamOpen, firstFailure_cons, htest, Bool.false_eq_true, if_false]

variable (h : src ≤ 127 ∧ dst ≤ 127 ∧ 1 ≤ n)
include h

theorem openTest_pass : (decide (field r.body 0 ≤ 127) && decide (field r.body 1 ≤ 127) &&
    decide (1 ≤ beNat (slice r.body 34 2))) = true := by
  obtain ⟨rfl, rfl, rfl, rfl, rfl⟩ := hf
  simpa [and_assoc] using h

theorem admitStreamOpen_source {x : RefusalRec} (hs : s.accessCheck l src .decryptIn none = .error x) :
    admitStreamOpen (.line l) r s = .refuse x := by
  have htest := openTest_pass hf h
  obtain ⟨rfl, rfl, rfl, rfl, rfl⟩ := hf
  simp only [admitStreamOpen, firstFailure_cons, firstFailure_nil, htest, if_true, hs]

variable {sk : Nat × CellId} (hs : s.accessCheck l src .decryptIn none = .ok sk)
include hs

theorem admitStreamOpen_destination {x : RefusalRec} (hd : s.accessCheck l dst .encryptOut none = .error x) :
    admitStreamOpen (.line l) r s = .refuse x := by
  have htest := openTest_pass hf h
  obtain ⟨rfl, rfl, rfl, rfl, rfl⟩ := hf
  simp only [admitStreamOpen, firstFailure_cons, firstFailure_nil, htest, if_true, hs, hd]

variable {dk : Nat × CellId} (hd : s.accessCheck l dst .encryptOut none = .ok dk)
include hd

theorem admitStreamOpen_waits {w : HeadWait} (hw : s.lineSlotFor (.line l) = .error w) :
    admitStreamOpen (.line l) r s = .wait w := by
  have htest := openTest_pass hf h
  obtain ⟨rfl, rfl, rfl, rfl, rfl⟩ := hf
  simp only [admitStreamOpen, firstFailure_cons, firstFailure_nil, htest, if_true, hs, hd, hw]

theorem admitStreamOpen_accept {slot : Nat} (hw : s.lineSlotFor (.line l) = .ok slot) :
    admitStreamOpen (.line l) r s = .accept (s.startStream (.line l) l r sk dk ivIn ivOut n slot) := by
  have htest := openTest_pass hf h
  obtain ⟨rfl, rfl, rfl, rfl, rfl⟩ := hf
  simp only [admitStreamOpen, firstFailure_cons, firstFailure_nil, htest, if_true, hs, hd, hw]

end OpenRule

/-- Settles O25: each clause adds the next step of R127, and the last reads what the admission leaves. -/
theorem streamOpenMakesAnIdleStream : Obligations.StreamOpenMakesAnIdleStream := by
  intro s l flags tag src dst n ivIn ivOut hq hm hsrc hdst hn body refused waits
  have hq : s.quiet (.line l) = true := hq
  have hf : OpenFields (streamOpenBody src dst ivIn ivOut n) src dst n ivIn ivOut := openFields_body hsrc hdst hn
  have hlen : ReqKind.streamOpen.lengthOk (streamOpenBody src dst ivIn ivOut n) = true := by
    simp [ReqKind.lengthOk, streamOpenBody]
  have hfit : (streamOpenBody src dst ivIn ivOut n).length ≤ 88 := by simp [streamOpenBody]
  obtain ⟨u, hu, haccess, hslots, hseq⟩ : ∃ u : State,
      s.withRequest (.line l) ⟨0x03, tag, streamOpenBody src dst ivIn ivOut n⟩ = u ∧
      (∀ k use, u.accessCheck l k use none = s.accessCheck l k use none) ∧
      u.lineSlotFor (.line l) = s.lineSlotFor (.line l) ∧ (∀ i, u.seq i = s.seq i) :=
    ⟨_, rfl, fun _ _ => rfl, lineSlotFor_withRequest s _ _ _, fun _ => rfl⟩
  have refusedBy : ∀ {x}, admitStreamOpen (.line l) ⟨0x03, tag, streamOpenBody src dst ivIn ivOut n⟩ u = .refuse x → refused x :=
    fun hv => exec_refused (k := .streamOpen) hq hfit rfl (.inr hm) hlen (by rw [← hu] at hv; exact hv)
  have waitsBy : ∀ {w}, admitStreamOpen (.line l) ⟨0x03, tag, streamOpenBody src dst ivIn ivOut n⟩ u = .wait w →
      exec (.streamOpen (.line l) flags tag body) s = .next ((s.withRequest (.line l) ⟨0x03, tag, body⟩).headWaits (.line l)
        ⟨0x03, tag, body⟩ w) :=
    fun hv => exec_waits (k := .streamOpen) hq hfit rfl (.inr hm) hlen (by rw [← hu] at hv; exact hv)
  refine ⟨fun hout => refusedBy (admitStreamOpen_range hf (by omega)), fun hs hd h1 =>
    ⟨fun x hx => refusedBy (admitStreamOpen_source hf ⟨hs, hd, h1⟩ ((haccess _ _).trans hx)), fun sk hsk =>
      ⟨fun x hx => refusedBy (admitStreamOpen_destination hf ⟨hs, hd, h1⟩ ((haccess _ _).trans hsk) ((haccess _ _).trans hx)),
        fun dk hdk => ⟨fun hquota => ?_, fun hquota hall => ?_, fun slot hslot => ?_⟩⟩⟩⟩
  · rw [waitsBy (admitStreamOpen_waits hf ⟨hs, hd, h1⟩ ((haccess _ _).trans hsk) ((haccess _ _).trans hdk)
      (hslots.trans (lineSlotFor_quota hquota))), headWaits_quota hq rfl]
  · rw [waitsBy (admitStreamOpen_waits hf ⟨hs, hd, h1⟩ ((haccess _ _).trans hsk) ((haccess _ _).trans hdk)
      (hslots.trans (lineSlotFor_full hquota hall))), headWaits_slot hq rfl]
  · intro seq job
    obtain ⟨_, htries, _, _, hrq, _⟩ := (State.quiet_iff s (.line l)).1 hq
    have hv := admitStreamOpen_accept
      (r := ⟨0x03, tag, streamOpenBody src dst ivIn ivOut n⟩) hf ⟨hs, hd, h1⟩ ((haccess _ _).trans hsk) ((haccess _ _).trans hdk)
      (hslots.trans (lineSlotFor_of_slotFor hslot))
    rw [startStream_eq _ _ _ _ _ _ _ _ _ _ rfl, hseq, ← hu, beginAdmission_withRequest hq,
      respond_commute (fun t v => withStream_setPort t _ _ _ _ _ _ _ _ _ v) (fun t => port_withStream t _ _ _ _ _ _ _ _ _),
      respond_taken] at hv
    refine (exec_admitted (k := .streamOpen) hq hfit rfl (.inr hm) hlen hv ?_ ?_).trans ?_
    · rw [port_withStream, requests_served, hrq]
    · rw [tries_withStream, tries_served, htries]
    · rfl

/-! ### STREAM-CHUNK (R129 to R131) -/

theorem streamNamed_none {p : Port} {slot : Nat} {seq : Byte}
    (h : 15 ≤ slot ∨ ∀ j c, s.job slot = some j → j.ctx ≠ .stream c) : s.streamNamed p slot seq = none := by
  unfold State.streamNamed
  split
  · next hlt =>
    have hno : ∀ j c, s.job slot = some j → j.ctx ≠ .stream c := h.resolve_left (Nat.not_le.2 hlt)
    split
    · next j hj =>
      split
      · next c hc => exact absurd hc (hno j c hj)
      · rfl
    · rfl
  · rfl

theorem streamNamed_of_stream {p : Port} {slot : Nat} {seq : Byte} {j : Job} {c : StreamCtx} (hlt : slot < 15)
    (hj : s.job slot = some j) (hc : j.ctx = .stream c) :
    s.streamNamed p slot seq = if j.owner = p ∧ c.seq = seq then some (j, c) else none := by
  have hlt : slot < Config.lineSlots := hlt
  unfold State.streamNamed
  rw [if_pos hlt, hj]
  dsimp only
  rw [hc]

section ChunkRule

variable {now : Bool} {p : Port} {r : Request} {slot b : Nat} {seq : Byte} {blocks : List Block}

/-- The fields of a STREAM-CHUNK's body. -/
structure ChunkFields (body : List Byte) (slot : Nat) (seq : Byte) (blocks : List Block) : Prop where
  slot : field body 0 = slot
  seq : body.getD 1 0 = seq
  count : field body 2 = blocks.length
  blocks : blocksOf blocks.length (body.drop 3) = blocks

theorem chunkFields_body (hs : slot ≤ 255) (hb : blocks.length ≤ 255) :
    ChunkFields (streamChunkBody slot seq blocks) slot seq blocks :=
  ⟨byte_toNat slot (by omega), rfl, byte_toNat blocks.length (by omega), blocksOf_flatMap blocks⟩

variable (hf : ChunkFields r.body slot seq blocks)
include hf

theorem admitStreamChunk_range (h : ¬ (1 ≤ blocks.length ∧ blocks.length ≤ 4)) :
    admitStreamChunk now p r s = .refuse (bare .range) := by
  obtain ⟨_, _, hcount, _⟩ := hf
  rw [admitStreamChunk, hcount, if_neg h]

variable (h : 1 ≤ blocks.length ∧ blocks.length ≤ 4)
include h

theorem admitStreamChunk_noStream (hn : s.streamNamed p slot seq = none) :
    admitStreamChunk now p r s = .refuse (bare .streamState) := by
  obtain ⟨rfl, rfl, hcount, _⟩ := hf
  simp only [admitStreamChunk, hcount, if_pos h, hn]

variable {j : Job} {c : StreamCtx} (hn : s.streamNamed p slot seq = some (j, c))
include hn

theorem admitStreamChunk_closing (hc : j.cancelPending = true) :
    admitStreamChunk now p r s = .refuse (bare .streamState) := by
  obtain ⟨rfl, rfl, hcount, _⟩ := hf
  simp only [admitStreamChunk, hcount, if_pos h, hn, firstFailure_cons, hc, Bool.not_true, Bool.false_eq_true, if_false]

theorem admitStreamChunk_overrun (hc : j.cancelPending = false) (ho : c.declared < c.accepted + blocks.length) :
    admitStreamChunk now p r s = .refuse (bare .overrun) := by
  obtain ⟨rfl, rfl, hcount, _⟩ := hf
  simp only [admitStreamChunk, hcount, if_pos h, hn, firstFailure_cons, hc, Bool.not_false, if_true, decide_eq_true_eq,
    if_neg (Nat.not_le.2 ho)]

theorem admitStreamChunk_places (hc : j.cancelPending = false) (ho : c.accepted + blocks.length ≤ c.declared) :
    admitStreamChunk now p r s = s.placeChunk now p slot j c (newChunk r.tag blocks) := by
  obtain ⟨rfl, rfl, hcount, hblocks⟩ := hf
  simp only [admitStreamChunk, hcount, if_pos h, hn, firstFailure_cons, firstFailure_nil, hc, Bool.not_false, if_true,
    decide_eq_true_eq, if_pos ho, hblocks]

end ChunkRule

section PlaceChunk

variable {now : Bool} {p : Port} {slot : Nat} {j : Job} {c : StreamCtx} {ch : Chunk}

theorem placeChunk_idle (h : j.state = .idle) : s.placeChunk now p slot j c ch =
    .accept (((s.beginAdmission p).setJob slot (some { j with
      state := .waiting, ctx := .stream { c with inService := some ch, idle := none } })).arbitrateIf now) := if_pos h

theorem placeChunk_staged (h : j.state ≠ .idle) (hs : c.staged = none) : s.placeChunk now p slot j c ch =
    .accept ((s.beginAdmission p).setJob slot (some { j with ctx := .stream { c with staged := some ch } })) := by
  rw [State.placeChunk, if_neg h, hs]

theorem placeChunk_waits (h : j.state ≠ .idle) (hs : c.staged ≠ none) :
    s.placeChunk now p slot j c ch = .wait (.staging slot) := by
  obtain ⟨x, hx⟩ := Option.ne_none_iff_exists'.1 hs
  rw [State.placeChunk, if_neg h, hx]

end PlaceChunk

theorem streamChunkBody_length (slot : Nat) (seq : Byte) (blocks : List Block) :
    (streamChunkBody slot seq blocks).length = 3 + 16 * blocks.length := by
  simp [streamChunkBody, List.length_flatMap]
  omega

/-- The head of a port at rest that needs no line slot and waits: its port leaves the slot wait list (R93; log 22). -/
theorem headWaits_noSlot {p : Port} {r : Request} {w : HeadWait} (hq : s.quiet p = true) (hr : needsSlot p r = false)
    (hw : w ≠ .mode) : (s.withRequest p r).headWaits p r w =
      (s.setPort p { s.port p with frame := .none, requests := [r], wait := w }).leaveWaitList p := by
  unfold State.headWaits
  rw [if_neg hw, if_neg (by simp [hr]), setWait_withRequest hq]

/-- Settles O26: the fields, the stream they name, its count and its places. -/
theorem streamChunkEntersServiceOrIsStaged : Obligations.StreamChunkEntersServiceOrIsStaged := by
  intro s l flags tag seq slot blocks hq hm hslot body chunk refused
  have hq : s.quiet (.line l) = true := hq
  obtain ⟨_, htries, _, _, hrq, _⟩ := (State.quiet_iff s (.line l)).1 hq
  have hlen : blocks.length ≤ 5 → ReqKind.streamChunk.lengthOk (streamChunkBody slot seq blocks) = true := fun h => by
    have hf := chunkFields_body (slot := slot) (seq := seq) (blocks := blocks) hslot (by omega)
    simp [ReqKind.lengthOk, streamChunkBody_length, hf.count]
  have refusedBy : ∀ {a}, blocks.length ≤ 5 → admitStreamChunk true (.line l) ⟨0x04, tag, streamChunkBody slot seq blocks⟩
      (s.withRequest (.line l) ⟨0x04, tag, streamChunkBody slot seq blocks⟩) = .refuse (bare a) →
      exec (.streamChunk (.line l) flags tag body) s = refused a := fun h hv =>
    exec_refused (k := .streamChunk) hq (by rw [streamChunkBody_length]; omega) rfl (.inr hm) (hlen h) hv
  refine ⟨fun hout => ?_, fun h1 h4 hno => ?_, fun j c h1 h4 hlt hj hc =>
    ⟨fun hother => ?_, fun ho hseq hcp => ⟨fun hover => ?_, fun hroom => ?_⟩⟩⟩
  · exact refusedBy (by omega) (admitStreamChunk_range (chunkFields_body hslot (by omega)) (by omega))
  · exact refusedBy (by omega) (admitStreamChunk_noStream (chunkFields_body hslot (by omega)) ⟨h1, h4⟩ (streamNamed_none hno))
  all_goals
    have hf := chunkFields_body (slot := slot) (seq := seq) (blocks := blocks) hslot (by omega)
    have hnamed := streamNamed_of_stream (s := s.withRequest (.line l) ⟨0x04, tag, streamChunkBody slot seq blocks⟩)
      (p := .line l) (seq := seq) hlt hj hc
  · by_cases hmine : j.owner = .line l ∧ c.seq = seq
    · have hcp : j.cancelPending = true :=
        (hother.resolve_left (not_not.2 hmine.1)).resolve_left (not_not.2 hmine.2)
      exact refusedBy (by omega) (admitStreamChunk_closing hf ⟨h1, h4⟩ (hnamed.trans (if_pos hmine)) hcp)
    · exact refusedBy (by omega) (admitStreamChunk_noStream hf ⟨h1, h4⟩ (hnamed.trans (if_neg hmine)))
  · exact refusedBy (by omega) (admitStreamChunk_overrun hf ⟨h1, h4⟩ (hnamed.trans (if_pos ⟨ho, hseq⟩)) hcp hover)
  · have hplaces := admitStreamChunk_places (now := true) (r := ⟨0x04, tag, streamChunkBody slot seq blocks⟩) hf ⟨h1, h4⟩
      (hnamed.trans (if_pos ⟨ho, hseq⟩)) hcp hroom
    have hfit : (streamChunkBody slot seq blocks).length ≤ 88 := by rw [streamChunkBody_length]; omega
    refine ⟨fun hidle => ?_, fun hbusy hst => ?_, fun hbusy hst => ?_⟩
    · have hv := hplaces.trans (placeChunk_idle hidle)
      rw [beginAdmission_withRequest hq] at hv
      refine exec_admitted (k := .streamChunk) hq hfit rfl (.inr hm) (hlen (by omega)) hv ?_ ?_
      · show (State.port (State.arbitrate _) _).requests = []
        rw [port_arbitrate, State.port_setJob, State.requests_taken, hrq]
      · show (State.arbitrate _).tries = []
        rw [tries_arbitrate, State.setJob_tries, State.tries_taken, htries]
    · have hv := hplaces.trans (placeChunk_staged hbusy hst)
      rw [beginAdmission_withRequest hq] at hv
      refine exec_admitted (k := .streamChunk) hq hfit rfl (.inr hm) (hlen (by omega)) hv ?_ ?_
      · rw [State.port_setJob, State.requests_taken, hrq]
      · rw [State.setJob_tries, State.tries_taken, htries]
    · refine (exec_waits (k := .streamChunk) hq hfit rfl (.inr hm) (hlen (by omega))
        (hplaces.trans (placeChunk_waits hbusy hst))).trans ?_
      rw [headWaits_noSlot hq rfl (by simp)]
      rfl

end Sys2Proof.Machine
end

/-! SUPPORT. The end of a job beside the port units, and with no port that waits for a slot (R98, R94, R89). -/

section
namespace Sys2Proof.Machine

variable {s : State}

/-! ### What leaves the tables alone may be done before a change of one or after it -/

/-- A change of the state that neither reads nor writes the Key Table, the batches and the notice list. -/
structure Beside (f : State → State) : Prop where
  batch : ∀ s n, (f s).batch n = s.batch n
  entry : ∀ s n, (f s).entry n = s.entry n
  setBatch : ∀ s n b, (f s).setBatch n b = f (s.setBatch n b)
  setEntry : ∀ s n e, (f s).setEntry n e = f (s.setEntry n e)
  notice : ∀ s k n, (f s).notice k n = f (s.notice k n)

theorem beside_setPort (p : Port) (u : PortUnit) : Beside fun s => s.setPort p u :=
  ⟨fun _ _ => rfl, fun _ _ => rfl, fun _ _ _ => rfl, fun _ _ _ => rfl, fun _ _ _ => rfl⟩

theorem beside_setJob (slot : Nat) (o : Option Job) : Beside fun s => s.setJob slot o :=
  ⟨fun _ _ => rfl, fun _ _ => rfl, fun _ _ _ => rfl, fun _ _ _ => rfl, fun _ _ _ => rfl⟩

section Commute

variable {f : State → State} (hf : Beside f)
include hf

theorem Beside.closeIfDrained (s : State) (n : Nat) : (f s).closeIfDrained n = f (s.closeIfDrained n) := by
  unfold State.closeIfDrained
  rw [hf.batch]
  dsimp only
  rw [hf.setBatch, hf.notice]
  split <;> rfl

theorem Beside.testLevel (s : State) (n : Nat) : (f s).testLevel n = f (s.testLevel n) := by
  unfold State.testLevel
  rw [hf.batch]
  dsimp only
  rw [hf.setBatch, hf.notice]
  split <;> rfl

theorem Beside.releasePos (s : State) (n pos : Nat) : (f s).releasePos n pos = f (s.releasePos n pos) := by
  unfold State.releasePos
  rw [hf.batch]
  dsimp only
  split
  · rw [hf.setBatch, hf.closeIfDrained]
  · rw [hf.setBatch, hf.closeIfDrained]
  · rfl

theorem Beside.commitPos (s : State) (n pos : Nat) : (f s).commitPos n pos = f (s.commitPos n pos) := by
  unfold State.commitPos
  rw [hf.batch]
  dsimp only
  split
  · rw [hf.setBatch, hf.testLevel, hf.closeIfDrained]
  · rw [hf.setBatch, hf.closeIfDrained]
  · rfl

theorem Beside.settlePosition (commits : Bool) (s : State) (j : Job) :
    (f s).settlePosition commits j = f (s.settlePosition commits j) := by
  unfold State.settlePosition
  split
  · split
    · exact hf.commitPos s _ _
    · exact hf.releasePos s _ _
  · rfl

theorem Beside.releaseCell (loud : Bool) (s : State) (x : Nat × CellId) :
    State.releaseCell loud (f s) x = f (State.releaseCell loud s x) := by
  unfold State.releaseCell
  rw [hf.entry]
  split
  · dsimp only
    rw [hf.setEntry, hf.notice]
    split <;> rfl
  · rfl

theorem Beside.releaseCells (loud : Bool) (xs : List (Nat × CellId)) (s : State) :
    xs.foldl (State.releaseCell loud) (f s) = f (xs.foldl (State.releaseCell loud) s) := by
  induction xs generalizing s with
  | nil => rfl
  | cons x xs ih => rw [List.foldl_cons, hf.releaseCell, ih, List.foldl_cons]

end Commute

theorem settlePosition_setPort (commits : Bool) (s : State) (j : Job) (p : Port) (u : PortUnit) :
    (s.setPort p u).settlePosition commits j = (s.settlePosition commits j).setPort p u :=
  (beside_setPort p u).settlePosition commits s j

theorem releaseCells_setPort (loud : Bool) (p : Port) (u : PortUnit) (xs : List (Nat × CellId)) (s : State) :
    xs.foldl (State.releaseCell loud) (s.setPort p u) = (xs.foldl (State.releaseCell loud) s).setPort p u :=
  (beside_setPort p u).releaseCells loud xs s

theorem closeCeremony_setPort (s : State) (p : Port) (u : PortUnit) :
    (s.setPort p u).closeCeremony = s.closeCeremony.setPort p u := by
  unfold State.closeCeremony State.modCell
  rw [State.setPort_ceremony]
  cases s.ceremony with
  | none => rfl
  | some c =>
    dsimp only
    rw [State.entry_setPort]
    split <;> rfl

theorem port_settlePosition (commits : Bool) (s : State) (j : Job) (p : Port) :
    (s.settlePosition commits j).port p = s.port p := by
  obtain ⟨_, _, h⟩ := settlePosition_touches commits s j
  rw [h]
  rfl

theorem port_releaseCells (loud : Bool) (xs : List (Nat × CellId)) (s : State) (p : Port) :
    (xs.foldl (State.releaseCell loud) s).port p = s.port p := by
  obtain ⟨_, _, h⟩ := releaseCells_touches loud xs s
  rw [h]
  rfl

theorem port_closeCeremony (s : State) (p : Port) : s.closeCeremony.port p = s.port p := by
  obtain ⟨_, h⟩ := closeCeremony_touches s
  rw [h]
  rfl

theorem respondAll_commute {f : State → State} {p : Port}
    (hf : ∀ (t : State) (u : PortUnit), f (t.setPort p u) = (f t).setPort p u)
    (hp : ∀ t : State, (f t).port p = t.port p) (rs : List Response) (t : State) :
    (f t).respondAll p rs = f (t.respondAll p rs) := by
  induction rs generalizing t with
  | nil => rfl
  | cons r rs ih =>
    show ((f t).respond p r).respondAll p rs = f ((t.respond p r).respondAll p rs)
    rw [respond_commute hf hp, ih]

/-! ### A job's end (R98) -/

section JobEnd

variable {e : EndPlan} {slot : Nat} {j : Job} (hj : s.job slot = some j) (ho : e.offers = true)
include hj ho

/-- The end of a DERIVE or STREAM: its position settled, its responses written and the job gone, before the offer. -/
theorem endJob_gone (hc : ∀ c, j.ctx ≠ .custody c) (hloud : e.loud = true) :
    s.endJob e slot =
      (State.jobGone ((s.settlePosition e.commits j).respondAll j.owner e.answers) slot j).afterFree e.now slot j.owner := by
  have hrel : ∀ t : State, t.releaseCaptured true j = j.captured.foldl (State.releaseCell true) t := fun t => by
    unfold State.releaseCaptured
    split
    · exact absurd ‹_› (hc _)
    · rfl
  rw [endJob_live e slot s j hj]
  dsimp only
  rw [if_pos ho, hloud, hrel, respondAll_commute (f := fun t => j.captured.foldl (State.releaseCell true) t)
    (fun t u => releaseCells_setPort true j.owner u j.captured t) (fun t => port_releaseCells true j.captured t j.owner)]
  obtain ⟨_, _, h⟩ := releaseCells_touches true j.captured ((s.settlePosition e.commits j).respondAll j.owner e.answers)
  unfold State.jobGone State.freeSlot
  rw [h]
  rfl

/-- The end of a CUSTODY job: it settles no position and captured no cell (R8). -/
theorem endJob_custodyGone {c : CustodyCtx} (hc : j.ctx = .custody c) :
    s.endJob e slot = ((s.respondAll j.owner e.answers).freeSlot slot j.owner).afterFree e.now slot j.owner := by
  have hset : s.settlePosition e.commits j = s := by unfold State.settlePosition; rw [hc]
  have hrel : s.releaseCaptured e.loud j = s := by unfold State.releaseCaptured; rw [hc]
  rw [endJob_live e slot s j hj, hset, hrel]
  dsimp only
  rw [if_pos ho]

end JobEnd

section Gone

variable (s : State) (slot : Nat) (j : Job)

/-- The job's end leaves the port units, the tries, the slot wait list and the engine alone. -/
theorem jobGone_touches : ∃ keys notices slots live,
    State.jobGone s slot j = { s with keys := keys, notices := notices, slots := slots, live := live } := by
  obtain ⟨_, _, h⟩ := releaseCells_touches true j.captured s
  unfold State.jobGone
  rw [h]
  exact ⟨_, _, _, _, rfl⟩

theorem port_jobGone (p : Port) : (State.jobGone s slot j).port p = s.port p := by
  obtain ⟨_, _, _, _, h⟩ := jobGone_touches s slot j
  rw [h]
  rfl

theorem tries_jobGone : (State.jobGone s slot j).tries = s.tries := by
  obtain ⟨_, _, _, _, h⟩ := jobGone_touches s slot j
  rw [h]

theorem waitList_jobGone : (State.jobGone s slot j).waitList = s.waitList := by
  obtain ⟨_, _, _, _, h⟩ := jobGone_touches s slot j
  rw [h]

end Gone

theorem setJob_setJob (s : State) (slot : Nat) (o o' : Option Job) : (s.setJob slot o).setJob slot o' = s.setJob slot o' := by
  unfold State.setJob
  congr 1
  split
  · exact Vector.set_set ..
  · rfl

/-- The job that stood in the slot leaves nothing there. -/
theorem jobGone_setJob (s : State) (slot : Nat) (j : Job) (o : Option Job) :
    State.jobGone (s.setJob slot o) slot j = State.jobGone s slot j := by
  unfold State.jobGone
  rw [(beside_setJob slot o).releaseCells, setJob_setJob]
  rfl

theorem port_freeSlot (s : State) (slot : Nat) (p q : Port) : (s.freeSlot slot p).port q = s.port q := rfl

/-- Where no port waits for the slot that comes free, heads are listed for a try, and that is all (R94, R89). -/
theorem afterFree_noWaiters (now : Bool) (slot : Nat) (p : Port) (hw : s.waitList = [] ∨ 15 ≤ slot) :
    ∃ tries, s.afterFree now slot p = { s with tries := tries } := by
  have listed : ∀ (t : State) (q : Port) (w : HeadWait), (∃ tries, t = { s with tries := tries }) →
      ∃ tries, t.addTryIf q w = { s with tries := tries } := by
    rintro _ q w ⟨ts, rfl⟩
    unfold State.addTryIf
    split
    · unfold State.addTry
      split
      · exact ⟨ts, rfl⟩
      · exact ⟨_, rfl⟩
    · exact ⟨ts, rfl⟩
  have self : ∃ tries, s = { s with tries := tries } := ⟨s.tries, rfl⟩
  unfold State.afterFree
  dsimp only
  refine listed _ _ _ (listed _ _ _ ?_)
  split
  · next hlt =>
    have hnone : State.offer now s.waitList s = s := by rw [hw.resolve_right (Nat.not_le.2 hlt)]; rfl
    rw [hnone]
    exact self
  · exact listed _ _ _ self

theorem settlePosition_derive (commits : Bool) (s : State) {j : Job} {c : DeriveCtx} (hc : j.ctx = .derive c) :
    s.settlePosition commits j = if commits then s.commitPos c.batch c.pos else s.releasePos c.batch c.pos := by
  unfold State.settlePosition
  rw [hc]

theorem settlePosition_stream (commits : Bool) (s : State) {j : Job} {c : StreamCtx} (hc : j.ctx = .stream c) :
    s.settlePosition commits j = s := by
  unfold State.settlePosition
  rw [hc]

/-- Where no port waits for the slot that comes free, and the owner's head waits for nothing, the job end causes no admission
and no try. -/
theorem afterFree_rested {now : Bool} {slot : Nat} {p : Port} (hw : s.waitList = [] ∨ 15 ≤ slot) (hwait : (s.port p).wait = .none)
    (hp : slot < 15 ∨ p = .cp) : s.afterFree now slot p = s := by
  have same : ∀ {q : Port} {w : HeadWait}, (s.port q).wait = .none → w ≠ .none → s.addTryIf q w = s := fun h hne => by
    unfold State.addTryIf
    rw [if_neg (by rw [h]; exact hne.symm)]
  have hfree : (if slot < Config.lineSlots then State.offer now s.waitList s else s.addTryIf .cp .slot15) = s := by
    split
    · next hlt =>
      rw [hw.resolve_right (Nat.not_le.2 hlt)]
      rfl
    · next hge =>
      rw [hp.resolve_left hge] at hwait
      exact same hwait (by simp)
  unfold State.afterFree
  dsimp only
  rw [hfree, same hwait (by simp), same hwait (by simp)]

section Rested

variable {e : EndPlan} {slot : Nat} {j : Job} (hj : s.job slot = some j) (ho : e.offers = true)
  (hw : s.waitList = [] ∨ 15 ≤ slot)
  (hwait : ((s.respondAll j.owner e.answers).port j.owner).wait = .none)
include hj ho hw hwait

/-- The end of a DERIVE or STREAM whose owner has no head that waits, with no port that waits for a slot. -/
theorem endJob_rested (hc : ∀ c, j.ctx ≠ .custody c) (hloud : e.loud = true) (hline : slot < 15) :
    s.endJob e slot = State.jobGone ((s.respondAll j.owner e.answers).settlePosition e.commits j) slot j := by
  rw [endJob_gone hj ho hc hloud, respondAll_commute (f := fun t => t.settlePosition e.commits j)
    (fun t u => settlePosition_setPort _ t j _ u) (fun t => port_settlePosition _ t j _)]
  obtain ⟨_, _, hsettle⟩ := settlePosition_touches e.commits (s.respondAll j.owner e.answers) j
  obtain ⟨_, hrespond⟩ := respondAll_touches s j.owner e.answers
  have hport : ((State.jobGone ((s.respondAll j.owner e.answers).settlePosition e.commits j) slot j).port j.owner).wait =
    .none := by
    rw [port_jobGone, port_settlePosition, hwait]
  have hlist : (State.jobGone ((s.respondAll j.owner e.answers).settlePosition e.commits j) slot j).waitList = s.waitList := by
    rw [waitList_jobGone, hsettle, hrespond]
  exact afterFree_rested (by rwa [hlist]) hport (.inl hline)

/-- The end of the custody port's job where no head of that port waits. -/
theorem endJob_custodyRested {c : CustodyCtx} (hc : j.ctx = .custody c) (hcp : j.owner = .cp) :
    s.endJob e slot = (s.respondAll .cp e.answers).freeSlot slot .cp := by
  rw [endJob_custodyGone hj ho hc]
  rw [hcp] at hwait ⊢
  obtain ⟨_, hrespond⟩ := respondAll_touches s .cp e.answers
  have hlist : ((s.respondAll .cp e.answers).freeSlot slot .cp).waitList = s.waitList := by
    rw [hrespond]
    rfl
  exact afterFree_rested (by rwa [hlist]) hwait (.inr rfl)

end Rested

/-- With no request placed, and none to try, the tries of an event change nothing. -/
theorem runTries_noHeads {now : Bool} {t : State} (ht : t.tries = []) (hheads : ∀ p, (t.port p).requests = [])
    (tries : List Port) : State.runTries now { t with tries := tries } = t := by
  rw [runTries_done now { t with tries := tries } (triesDue_of_noHeads hheads)]
  exact tries_cleared ht

theorem runTries_listsOnly {now : Bool} {t u : State} (hu : ∃ tries, u = { t with tries := tries }) (ht : t.tries = [])
    (hheads : ∀ p, (t.port p).requests = []) : u.runTries now = t := by
  obtain ⟨_, rfl⟩ := hu
  exact runTries_noHeads ht hheads _

theorem leaveWaitList_empty {p : Port} (h : s.waitList = []) : s.leaveWaitList p = s := by
  cases p with
  | cp => rfl
  | line l =>
    unfold State.leaveWaitList
    dsimp only
    rw [h, List.filter_nil, ← h]

end Sys2Proof.Machine
end

/-! PROOF. CANCEL, COMPONENT and ABANDON-CEREMONY at a port at rest (R96, R46, R47, R52 to R54). -/

section
namespace Sys2Proof.Machine

variable {s : State}

/-! ### CANCEL (R96) -/

section CancelRule

variable {now : Bool} {p : Port} {r : Request}

theorem admitCancel_notFound (hfind : (s.liveOf p).find? (s.cancelTarget (r.body.getD 0 0)) = none) :
    admitCancel now p r s = .accept ((s.beginAdmission p).answer p r .notFound []) := by
  simp only [admitCancel, hfind]

variable {slot : Nat} {j : Job} (hfind : (s.liveOf p).find? (s.cancelTarget (r.body.getD 0 0)) = some slot)
  (hj : s.job slot = some j)
include hfind hj

theorem admitCancel_flagged (hc : j.cancelPending = true) :
    admitCancel now p r s = .accept ((s.beginAdmission p).answer p r .accepted []) := by
  simp only [admitCancel, hfind, hj, if_pos hc]

variable (hc : j.cancelPending = false)
include hc

theorem admitCancel_flags (hg : j.state = .inGrant) : admitCancel now p r s =
    .accept (((s.beginAdmission p).answer p r .accepted []).setJob slot (some { j with cancelPending := true })) := by
  simp only [admitCancel, hfind, hj, hc, Bool.false_eq_true, if_false, if_pos hg]

theorem admitCancel_ends (hg : j.state ≠ .inGrant) : admitCancel now p r s =
    .accept (((s.beginAdmission p).answer p r .accepted []).cancelWaiting now slot j) := by
  simp only [admitCancel, hfind, hj, hc, Bool.false_eq_true, if_false, if_neg hg]

end CancelRule

section CancelEnd

variable {p : Port} {r : Response}

@[simp] theorem job_served (s : State) (p : Port) (r : Response) (n : Nat) : (s.served p r).job n = s.job n := by
  simp [State.served]

@[simp] theorem liveOf_served (s : State) (p : Port) (r : Response) (q : Port) : (s.served p r).liveOf q = s.liveOf q := by
  simp [State.served]

theorem served_noWaiters (hw : s.waitList = []) : s.served p r =
    s.setPort p { s.port p with frame := .none, wait := .none, occupied := (s.port p).occupied ++ [r] } :=
  leaveWaitList_empty (by rw [State.setPort_waitList, hw])

/-- Further responses behind the one of a request just answered, in the entries of the jobs that end. -/
theorem respondAll_served (hw : s.waitList = []) {rs : List Response} (h : rs.length ≤ (s.port p).reserved) :
    (s.served p r).respondAll p rs = s.setPort p { s.port p with
      frame := .none, wait := .none, reserved := (s.port p).reserved - rs.length
      occupied := (s.port p).occupied ++ (r :: rs) } := by
  rw [served_noWaiters hw, respondAll_reserved _ _ _ (by simpa using h), State.port_setPort_same, State.setPort_setPort,
    List.append_assoc, List.singleton_append]

variable {e : EndPlan} {slot : Nat} {j : Job} (hj : s.job slot = some j) (ho : j.owner = p) (hw : s.waitList = [])
  (hoffers : e.offers = true) (hroom : e.answers.length ≤ (s.port p).reserved)
include hj ho hw hoffers hroom

/-- The end of a DERIVE or STREAM within the admission of a request of its port that is answered at once. -/
theorem endJob_served (hc : ∀ c, j.ctx ≠ .custody c) (hloud : e.loud = true) (hline : slot < 15) :
    (s.served p r).endJob e slot = State.jobGone ((s.setPort p { s.port p with
      frame := .none, wait := .none, reserved := (s.port p).reserved - e.answers.length
      occupied := (s.port p).occupied ++ (r :: e.answers) }).settlePosition e.commits j) slot j := by
  subst ho
  have hanswered := respondAll_served (r := r) hw hroom
  rw [← hanswered]
  refine endJob_rested ((job_served s _ r slot).trans hj) hoffers (.inl (by rw [served_noWaiters hw]; exact hw)) ?_ hc hloud hline
  rw [hanswered, State.port_setPort_same]

/-- The end of the CUSTODY job within the admission of a request of the custody port that is answered at once. -/
theorem endJob_custodyServed {c : CustodyCtx} (hc : j.ctx = .custody c) (hcp : p = .cp) :
    (s.served p r).endJob e slot = ((s.setPort p { s.port p with
      frame := .none, wait := .none, reserved := (s.port p).reserved - e.answers.length
      occupied := (s.port p).occupied ++ (r :: e.answers) }).setJob slot none).setLive p ((s.liveOf p).filter (· != slot)) := by
  subst hcp
  have hanswered := respondAll_served (r := r) hw hroom
  have hend := endJob_custodyRested (s := s.served .cp r) (e := e) ((job_served s _ r slot).trans hj) hoffers
    (.inl (by rw [served_noWaiters hw]; exact hw)) (by rw [ho, hanswered, State.port_setPort_same]) hc ho
  rw [hend, hanswered]
  rfl

end CancelEnd

theorem answer_taken (s : State) (p : Port) (r : Request) (a : Answer) (body : List Byte) :
    (s.taken p).answer p r a body = s.served p (plainResponse r.code r.tag a body) := respond_taken s p _

theorem requests_of_quiet {p : Port} (hq : s.quiet p = true) : (s.port p).requests = [] := by
  obtain ⟨_, _, _, _, hrq, _⟩ := (State.quiet_iff s p).1 hq
  exact hrq

theorem tries_of_quiet {p : Port} (hq : s.quiet p = true) : s.tries = [] := by
  obtain ⟨_, htries, _⟩ := (State.quiet_iff s p).1 hq
  exact htries

theorem owed_derive {j : Job} {c : DeriveCtx} (hc : j.ctx = .derive c) (a : Answer) :
    j.owed a = [plainResponse 0x01 j.tag a []] := by
  rw [Job.owed, hc]
  rfl

theorem owed_custody {j : Job} {c : CustodyCtx} (hc : j.ctx = .custody c) (ha : c.abandon = none) (a : Answer) :
    j.owed a = [plainResponse 0x21 j.tag a []] := by
  rw [Job.owed, hc]
  dsimp only
  rw [ha]
  rfl

theorem cancelWaiting_derive {now : Bool} {slot : Nat} {j : Job} {c : DeriveCtx} (hc : j.ctx = .derive c) :
    s.cancelWaiting now slot j = s.endJob (cancelPlan now (j.owed .cancelled)) slot := by
  unfold State.cancelWaiting
  rw [hc]

theorem cancelWaiting_component {now : Bool} {slot : Nat} {j : Job} {c : CustodyCtx} (hc : j.ctx = .custody c)
    (hd : c.due = .component) : s.cancelWaiting now slot j = s.endJob (cancelPlan now (j.owed .cancelled)) slot := by
  unfold State.cancelWaiting
  rw [hc]
  dsimp only
  rw [hd, if_neg (by simp)]

theorem cancelWaiting_combination {now : Bool} {slot : Nat} {j : Job} {c : CustodyCtx} (hc : j.ctx = .custody c)
    (hd : c.due = .combination) :
    s.cancelWaiting now slot j = (s.endJob (cancelPlan now (j.owed .cancelled)) slot).closeCeremony := by
  unfold State.cancelWaiting
  rw [hc]
  dsimp only
  rw [if_pos hd]

theorem tries_closeCeremony (s : State) : s.closeCeremony.tries = s.tries := by
  obtain ⟨_, h⟩ := closeCeremony_touches s
  rw [h]

/-- Settles O28: the job that the tag finds, by its flag, its state and its kind. -/
theorem cancelEndsOrFlagsTheOldestJob : Obligations.CancelEndsOrFlagsTheOldestJob := by
  intro s p flags tag target hq hm accepted
  have admitted : ∀ {t : State}, admitCancel true p ⟨0x08, tag, [target]⟩ (s.withRequest p ⟨0x08, tag, [target]⟩) = .accept t →
      (t.port p).requests = [] → t.tries = [] → exec (.cancel p flags tag [target]) s = .next t := fun hv hr ht =>
    exec_admitted (k := .cancel) hq (by simp) (by cases p <;> rfl) hm rfl hv hr ht
  have hbegin := fun a => answer_taken s p ⟨0x08, tag, [target]⟩ a []
  rw [← beginAdmission_withRequest hq ⟨0x08, tag, [target]⟩] at hbegin
  have hrequests : ∀ r, ((s.served p r).port p).requests = [] := fun r => (requests_served s p p r).trans (requests_of_quiet hq)
  have htries : ∀ r, (s.served p r).tries = [] := fun r => (tries_served s p r).trans (tries_of_quiet hq)
  refine ⟨fun hfind => ?_, fun slot j hslot hfind hj ho => ⟨fun hc => ?_, fun hc hg => ?_, fun hc hg hw hroom => ?_⟩⟩
  · have hv := admitCancel_notFound (now := true) (s := s.withRequest p ⟨0x08, tag, [target]⟩) (r := ⟨0x08, tag, [target]⟩) hfind
    rw [hbegin] at hv
    exact admitted hv (hrequests _) (htries _)
  · have hv := admitCancel_flagged (now := true) (s := s.withRequest p ⟨0x08, tag, [target]⟩)
      (r := ⟨0x08, tag, [target]⟩) hfind hj hc
    rw [hbegin] at hv
    exact admitted hv (hrequests _) (htries _)
  · have hv := admitCancel_flags (now := true) (s := s.withRequest p ⟨0x08, tag, [target]⟩)
      (r := ⟨0x08, tag, [target]⟩) hfind hj hc hg
    rw [hbegin] at hv
    exact admitted hv (hrequests _) (htries _)
  · intro answered
    have hv := admitCancel_ends (now := true) (s := s.withRequest p ⟨0x08, tag, [target]⟩)
      (r := ⟨0x08, tag, [target]⟩) hfind hj hc hg
    rw [hbegin] at hv
    have hanswered : ∀ code, ((answered code).port p).requests = [] ∧ (answered code).tries = [] := fun code =>
      ⟨by rw [State.port_setPort_same]; exact requests_of_quiet (s := s) hq, tries_of_quiet (s := s) hq⟩
    refine ⟨fun c hctx hline => ?_, fun c hctx ha hcp => ⟨fun hd => ?_, fun hd => ?_⟩⟩
    · rw [cancelWaiting_derive hctx, owed_derive hctx,
        endJob_served (e := cancelPlan true [plainResponse 0x01 j.tag .cancelled []]) hj ho hw rfl hroom
        (by simp [hctx]) rfl hline]
        at hv
      have hgone : exec (.cancel p flags tag [target]) s =
          .next (State.jobGone (State.settlePosition false (answered 0x01) j) slot j) := by
        obtain ⟨_, _, hsettle⟩ := settlePosition_touches false (answered 0x01) j
        refine admitted hv ?_ ?_
        · rw [port_jobGone, port_settlePosition]
          exact (hanswered 0x01).1
        · rw [tries_jobGone]
          exact (congrArg State.tries hsettle).trans (hanswered 0x01).2
      rw [hgone, settlePosition_derive false _ hctx, if_neg (by simp)]
    · rw [cancelWaiting_component hctx hd, owed_custody hctx ha,
        endJob_custodyServed (e := cancelPlan true [plainResponse 0x21 j.tag .cancelled []]) hj ho hw rfl hroom hctx hcp] at hv
      exact admitted hv (hanswered 0x21).1 (hanswered 0x21).2
    · rw [cancelWaiting_combination hctx hd, owed_custody hctx ha,
        endJob_custodyServed (e := cancelPlan true [plainResponse 0x21 j.tag .cancelled []]) hj ho hw rfl hroom hctx hcp] at hv
      refine admitted hv ?_ ?_
      · rw [port_closeCeremony]
        exact (hanswered 0x21).1
      · rw [tries_closeCeremony]
        exact (hanswered 0x21).2

/-! ### COMPONENT (R46, R47) -/

section ComponentRule

variable {now : Bool} {p : Port} {r : Request} {custodian : Nat} {value : Block}

theorem admitComponent_closed (h : s.ceremony = none) : admitComponent now p r s = .refuse (bare .ceremonyState) := by
  simp only [admitComponent, h]

/-- The four checks of R46; `admitComponent_refuse` and `admitComponent_passed` tie them to the model. -/
def Ceremony.componentTests (cer : Ceremony) (custodian : Nat) (value : Block) : List (Bool × Answer) :=
  [(!cer.combining, .ceremonyState), (1 ≤ custodian && custodian ≤ 15, .range),
    (cer.received.all (·.1 != custodian), .duplicateCustodian), (value != 0 && !cer.retained.contains value, .weakComponent)]

section Tests

variable {cer : Ceremony}

theorem componentTests_combining (h : cer.combining = true) :
    firstFailure (cer.componentTests custodian value) = some .ceremonyState := by
  simp [Ceremony.componentTests, h]

variable (h : cer.combining = false)
include h

theorem componentTests_range (hout : custodian = 0 ∨ 15 < custodian) :
    firstFailure (cer.componentTests custodian value) = some .range := by
  have hnot : ¬ (1 ≤ custodian ∧ custodian ≤ 15) := by omega
  simp [Ceremony.componentTests, h, hnot]

variable (h1 : 1 ≤ custodian) (h15 : custodian ≤ 15)
include h1 h15

theorem componentTests_duplicate (hx : ∃ x ∈ cer.received, x.1 = custodian) :
    firstFailure (cer.componentTests custodian value) = some .duplicateCustodian := by
  obtain ⟨x, hmem, hcust⟩ := hx
  have hnot : ¬ ∀ a b, (a, b) ∈ cer.received → ¬ a = custodian := fun hall => hall x.1 x.2 hmem hcust
  simp [Ceremony.componentTests, h, h1, h15, hnot]

variable (hnew : ∀ x ∈ cer.received, x.1 ≠ custodian)
include hnew

theorem componentTests_weak (hv : value = 0 ∨ value ∈ cer.retained) :
    firstFailure (cer.componentTests custodian value) = some .weakComponent := by
  have hall : cer.received.all (·.1 != custodian) = true := by simpa using hnew
  have hnot : ¬ (¬ value = 0 ∧ value ∉ cer.retained) := fun hboth => hv.elim hboth.1 hboth.2
  simp only [Ceremony.componentTests, firstFailure_cons, hall, h, h1, h15]
  simpa using hnot

theorem componentTests_pass (hv : value ≠ 0) (hr : value ∉ cer.retained) :
    firstFailure (cer.componentTests custodian value) = none := by
  have hall : cer.received.all (·.1 != custodian) = true := by simpa using hnew
  simp only [Ceremony.componentTests, firstFailure_cons, hall, h, h1, h15]
  simpa using ⟨hv, hr⟩

end Tests

/-- The fields of a COMPONENT's body. -/
structure ComponentFields (body : List Byte) (custodian : Nat) (value : Block) : Prop where
  custodian : field body 0 = custodian
  value : blockOf (slice body 1 16) = value

theorem componentFields_body (h : custodian ≤ 255) : ComponentFields (componentBody custodian value) custodian value := by
  refine ⟨byte_toNat custodian (by omega), ?_⟩
  rw [componentBody, slice_cons_succ, slice_zero_self (blockBytes_length value), blockOf_blockBytes]

variable {cer : Ceremony} (hf : ComponentFields r.body custodian value) (hcer : s.ceremony = some cer)
include hf hcer

theorem admitComponent_refuse {a : Answer} (h : firstFailure (cer.componentTests custodian value) = some a) :
    admitComponent now p r s = .refuse (bare a) := by
  obtain ⟨rfl, rfl⟩ := hf
  rw [Ceremony.componentTests] at h
  simp only [admitComponent, hcer, h]

variable (h : firstFailure (cer.componentTests custodian value) = none)
include h

theorem admitComponent_waits (hj : s.job 15 ≠ none) : admitComponent now p r s = .wait .slot15 := by
  obtain ⟨rfl, rfl⟩ := hf
  obtain ⟨j, hj⟩ := Option.ne_none_iff_exists'.1 hj
  have hj : s.job Config.custodySlot = some j := hj
  rw [Ceremony.componentTests] at h
  simp only [admitComponent, hcer, h, hj]

theorem admitComponent_accepts (hj : s.job 15 = none) : admitComponent now p r s =
    .accept (((s.beginAdmission p).placeJob 15 (custodyJob p r.tag cer custodian value)).arbitrateIf now) := by
  obtain ⟨rfl, rfl⟩ := hf
  have hj : s.job Config.custodySlot = none := hj
  rw [Ceremony.componentTests] at h
  simp only [admitComponent, hcer, h, hj]
  rfl

end ComponentRule

/-- Settles O29: the checks of R46 in order, then slot 15. -/
theorem componentMakesTheCustodyJob : Obligations.ComponentMakesTheCustodyJob := by
  intro s flags tag custodian value hq hle body refused
  have hf : ComponentFields body custodian value := componentFields_body hle
  have hl : ReqKind.component.lengthOk body = true := by simp [ReqKind.lengthOk, body, componentBody]
  have refusedBy : ∀ {a}, admitComponent true .cp ⟨0x21, tag, body⟩ (s.withRequest .cp ⟨0x21, tag, body⟩) = .refuse (bare a) →
      exec (.component .cp flags tag body) s = refused a := fun hv => exec_cp_refused (k := .component) hq hl rfl hv
  refine ⟨fun hcer => refusedBy (admitComponent_closed (s := s.withRequest .cp ⟨0x21, tag, body⟩) hcer), fun cer hcer => ?_⟩
  have failed : ∀ {a}, firstFailure (cer.componentTests custodian value) = some a →
      exec (.component .cp flags tag body) s = refused a := fun h => refusedBy
    (admitComponent_refuse (s := s.withRequest .cp ⟨0x21, tag, body⟩) (r := ⟨0x21, tag, body⟩) hf hcer h)
  refine ⟨fun hcomb => failed (componentTests_combining hcomb), fun hcomb =>
    ⟨fun hout => failed (componentTests_range hcomb hout), fun h1 h15 =>
      ⟨fun hx => failed (componentTests_duplicate hcomb h1 h15 hx), fun hnew =>
        ⟨fun hv => failed (componentTests_weak hcomb h1 h15 hnew hv), fun hv hr => ?_⟩⟩⟩⟩
  have hpass := componentTests_pass hcomb h1 h15 hnew hv hr
  refine ⟨fun hj => ?_, fun hj => ?_⟩
  · have hv := admitComponent_accepts (now := true) (p := .cp) (r := ⟨0x21, tag, body⟩)
      (s := s.withRequest .cp ⟨0x21, tag, body⟩) hf hcer hpass hj
    rw [beginAdmission_withRequest hq] at hv
    refine exec_admitted (k := .component) hq (length_le_of_lengthOk (by simp) hl) rfl (.inl rfl) hl hv ?_ ?_
    · show (State.port (State.arbitrate _) _).requests = []
      rw [port_arbitrate]
      exact (State.requests_taken s .cp .cp).trans (requests_of_quiet hq)
    · show (State.arbitrate _).tries = []
      rw [tries_arbitrate]
      exact (State.tries_taken s .cp).trans (tries_of_quiet hq)
  · refine (exec_waits (k := .component) hq (length_le_of_lengthOk (by simp) hl) rfl (.inl rfl) hl
      (admitComponent_waits (s := s.withRequest .cp ⟨0x21, tag, body⟩) (r := ⟨0x21, tag, body⟩) hf hcer hpass hj)).trans ?_
    rw [headWaits_noSlot hq rfl (by simp)]
    rfl

/-! ### ABANDON-CEREMONY (R52, R53) -/

section AbandonRule

variable {now : Bool} {p : Port} {r : Request}

theorem custodyJobLive_none (h : s.job 15 = none) : s.custodyJobLive = none := by
  have h : s.job Config.custodySlot = none := h
  unfold State.custodyJobLive
  rw [h]

theorem custodyJobLive_of_job {j : Job} {c : CustodyCtx} (hj : s.job 15 = some j) (hc : j.ctx = .custody c) :
    s.custodyJobLive = some (j, c) := by
  have hj : s.job Config.custodySlot = some j := hj
  unfold State.custodyJobLive
  rw [hj]
  dsimp only
  rw [hc]

theorem admitAbandonCeremony_closed (h : s.ceremony = none) :
    admitAbandonCeremony now p r s = .refuse (bare .ceremonyState) := by
  simp only [admitAbandonCeremony, h]

variable {cer : Ceremony} (hcer : s.ceremony = some cer)
include hcer

theorem admitAbandonCeremony_noJob (h : s.custodyJobLive = none) : admitAbandonCeremony now p r s =
    .accept ((s.beginAdmission p).closeCeremony.answer p r .done (abandonBody cer)) := by
  simp only [admitAbandonCeremony, hcer, h]

variable {j : Job} {c : CustodyCtx} (h : s.custodyJobLive = some (j, c))
include h

theorem admitAbandonCeremony_pending (hc : j.cancelPending = true) :
    admitAbandonCeremony now p r s = .refuse (bare .ceremonyState) := by
  simp only [admitAbandonCeremony, hcer, h, if_pos hc]

variable (hc : j.cancelPending = false)
include hc

theorem admitAbandonCeremony_deferred (hg : j.state = .inGrant) : admitAbandonCeremony now p r s =
    .accept ((s.beginAdmission p).setJob 15
      (some { j with cancelPending := true, ctx := .custody { c with abandon := some r.tag } })) := by
  simp only [admitAbandonCeremony, hcer, h, hc, Bool.false_eq_true, if_false, if_pos hg]
  rfl

theorem admitAbandonCeremony_ends (hg : j.state ≠ .inGrant) : admitAbandonCeremony now p r s =
    .accept (((s.beginAdmission p).endJob (cancelPlan now [plainResponse 0x21 j.tag .cancelled []]) 15).closeCeremony.answer
      p r .done (abandonBody cer)) := by
  simp only [admitAbandonCeremony, hcer, h, hc, Bool.false_eq_true, if_false, if_neg hg]
  rfl

end AbandonRule

theorem closeCeremony_taken (s : State) : (s.taken .cp).closeCeremony = s.closeCeremony.taken .cp := by
  show (s.setPort .cp _).closeCeremony = s.closeCeremony.setPort .cp _
  rw [closeCeremony_setPort, port_closeCeremony]

/-- A WAITING CUSTODY job that an ABANDON-CEREMONY ends: its CANCELLED, then the DONE of the request (R52). -/
theorem abandon_ends {now : Bool} {r : Request} {body : List Byte} {j : Job} {c : CustodyCtx} (hj : s.job 15 = some j)
    (ho : j.owner = .cp) (hc : j.ctx = .custody c) (hroom : 1 ≤ (s.port .cp).reserved) :
    ((s.taken .cp).endJob (cancelPlan now [plainResponse 0x21 j.tag .cancelled []]) 15).closeCeremony.answer .cp r .done body =
      (((s.setPort .cp { s.port .cp with
        frame := .none, wait := .none, reserved := (s.port .cp).reserved - 1
        occupied := (s.port .cp).occupied ++ [plainResponse 0x21 j.tag .cancelled [], plainResponse r.code r.tag .done body]
        }).setJob 15 none).setLive .cp ((s.liveOf .cp).filter (· != 15))).closeCeremony := by
  have hanswered : ∀ rs : List Response, rs.length ≤ (s.port .cp).reserved + 1 → (s.taken .cp).respondAll .cp rs =
      s.setPort .cp { s.port .cp with
        frame := .none, wait := .none, reserved := (s.port .cp).reserved + 1 - rs.length
        occupied := (s.port .cp).occupied ++ rs } := fun rs h => by
    rw [respondAll_reserved _ _ _ (by rw [port_taken]; exact h), port_taken]
    exact State.setPort_setPort _ _ _ _
  have hend := endJob_custodyRested (s := s.taken .cp) (e := cancelPlan now [plainResponse 0x21 j.tag .cancelled []])
    (slot := 15) (j := j) hj rfl (.inr (Nat.le_refl 15))
    (by rw [ho, hanswered _ (by simp [cancelPlan]), State.port_setPort_same]) hc ho
  have hcommute := respond_commute (f := fun t => (t.freeSlot 15 .cp).closeCeremony) (p := .cp)
    (fun t u => closeCeremony_setPort (t.freeSlot 15 .cp) .cp u) (fun t => port_closeCeremony _ _)
  rw [hend]
  show ((State.freeSlot (State.respondAll _ _ _) _ _).closeCeremony).respond _ _ = _
  rw [hcommute]
  show (State.freeSlot (State.respondAll (s.taken .cp) .cp [_, _]) _ _).closeCeremony = _
  rw [hanswered _ (by simpa using hroom)]
  rfl

/-- Settles O30: by the record and the live CUSTODY job. -/
theorem abandonCeremonyClosesTheRecord : Obligations.AbandonCeremonyClosesTheRecord := by
  intro s flags tag hq
  have refusedBy : admitAbandonCeremony true .cp ⟨0x22, tag, []⟩ (s.withRequest .cp ⟨0x22, tag, []⟩) =
      .refuse (bare .ceremonyState) → exec (.abandonCeremony .cp flags tag []) s =
        .next (s.served .cp ⟨0x22, tag, .ceremonyState, none, .none, []⟩) := fun hv =>
    exec_cp_refused (k := .abandonCeremony) hq rfl rfl hv
  have admitted : ∀ {t : State}, admitAbandonCeremony true .cp ⟨0x22, tag, []⟩ (s.withRequest .cp ⟨0x22, tag, []⟩) = .accept t →
      (t.port .cp).requests = [] → t.tries = [] → exec (.abandonCeremony .cp flags tag []) s = .next t := fun hv hr ht =>
    exec_admitted (k := .abandonCeremony) hq (by simp) rfl (.inl rfl) rfl hv hr ht
  have hbegin := beginAdmission_withRequest hq ⟨0x22, tag, []⟩
  refine ⟨fun hcer => refusedBy (admitAbandonCeremony_closed (s := s.withRequest .cp ⟨0x22, tag, []⟩) hcer), fun cer hcer => ?_⟩
  intro done
  refine ⟨fun hj => ?_, fun j c hj hctx ho => ⟨fun hc => ?_, fun hc hg => ?_, fun hc hg hroom => ?_⟩⟩
  · have hv := admitAbandonCeremony_noJob (now := true) (p := .cp) (r := ⟨0x22, tag, []⟩) (s := s.withRequest .cp ⟨0x22, tag, []⟩)
      hcer (custodyJobLive_none hj)
    rw [hbegin, closeCeremony_taken, answer_taken] at hv
    refine admitted hv ?_ ?_
    · rw [requests_served, port_closeCeremony]
      exact requests_of_quiet hq
    · rw [tries_served, tries_closeCeremony]
      exact tries_of_quiet hq
  · exact refusedBy (admitAbandonCeremony_pending (s := s.withRequest .cp ⟨0x22, tag, []⟩) hcer
      (custodyJobLive_of_job hj hctx) hc)
  · have hv := admitAbandonCeremony_deferred (now := true) (p := .cp) (r := ⟨0x22, tag, []⟩)
      (s := s.withRequest .cp ⟨0x22, tag, []⟩) hcer (custodyJobLive_of_job hj hctx) hc hg
    rw [hbegin] at hv
    exact admitted hv ((State.requests_taken s .cp .cp).trans (requests_of_quiet hq))
      ((State.tries_taken s .cp).trans (tries_of_quiet hq))
  · have hv := admitAbandonCeremony_ends (now := true) (p := .cp) (r := ⟨0x22, tag, []⟩)
      (s := s.withRequest .cp ⟨0x22, tag, []⟩) hcer (custodyJobLive_of_job hj hctx) hc hg
    rw [hbegin, abandon_ends hj ho hctx hroom] at hv
    refine admitted hv ?_ ?_
    · rw [port_closeCeremony, State.port_setLive, State.port_setJob, State.port_setPort_same]
      exact requests_of_quiet (s := s) hq
    · rw [tries_closeCeremony, State.setLive_tries, State.setJob_tries, State.setPort_tries]
      exact tries_of_quiet hq

end Sys2Proof.Machine
end

/-! SUPPORT. A head tried as what came free is offered to it: admitted, refused or passed over (R89, R91, R94). -/

section
namespace Sys2Proof.Machine

variable {s : State}

/-! ### One try of a head (R89 to R92) -/

section Try

variable {own : Port → Request → State → Verdict} {p : Port} {r : Request} {rs : List Request} (hadm : s.admitting = true)
  (hreq : (s.port p).requests = r :: rs)
include hadm hreq

theorem tryWith_full (hfull : (s.port p).responsesFull = true) : s.tryWith own p = (.waits, s.headWaits p r .entry) := by
  simp [State.tryWith, hreq, hadm, hfull]

variable (hfree : (s.port p).responsesFull = false) (hcommon : s.commonRefusal p r = none)
include hfree hcommon

theorem tryWith_admits {t : State} (hv : own p r s = .accept t) : s.tryWith own p = (.admitted, t.addTry p) := by
  simp [State.tryWith, hreq, hadm, hfree, hcommon, hv]

theorem tryWith_refuses {x : RefusalRec} (hv : own p r s = .refuse x) : s.tryWith own p = (.refused, s.refuseHead p r x) := by
  simp [State.tryWith, hreq, hadm, hfree, hcommon, hv]

end Try

theorem headTaken_respond (s : State) (p : Port) (r : Response) : (s.headTaken p).respond p r = s.headRefused p r := by
  have hport : (s.headTaken p).port p =
      { s.port p with requests := [], wait := .none, reserved := (s.port p).reserved + 1 } := by
    rw [State.headTaken, State.port_leaveWaitList, State.port_setPort_same]
  rw [respond_reserved _ _ _ (by rw [hport]; simp), hport, State.headTaken, setPort_leaveWaitList, State.setPort_setPort]
  rfl

theorem refuseHead_onlyHead {p : Port} {r : Request} {x : RefusalRec} (hreq : (s.port p).requests = [r]) :
    s.refuseHead p r x = (s.headRefused p ⟨r.code, r.tag, x.answer, x.slot, x.stage, []⟩).addTry p := by
  rw [State.refuseHead, beginAdmission_onlyHead s p r hreq, headTaken_respond]

section Ports

variable (s) (p q : Port)

theorem requests_headTaken : ((s.headTaken p).port p).requests = [] := by
  rw [State.headTaken, State.port_leaveWaitList, State.port_setPort_same]

theorem port_headTaken_ne {p q : Port} (h : q ≠ p) : (s.headTaken p).port q = s.port q := by
  rw [State.headTaken, State.port_leaveWaitList, State.port_setPort_ne _ _ h]

theorem tries_headTaken : (s.headTaken p).tries = s.tries := by simp [State.headTaken]

theorem requests_headRefused (r : Response) : ((s.headRefused p r).port p).requests = [] := by
  rw [State.headRefused, State.port_leaveWaitList, State.port_setPort_same]

theorem port_headRefused_ne {p q : Port} (h : q ≠ p) (r : Response) : (s.headRefused p r).port q = s.port q := by
  rw [State.headRefused, State.port_leaveWaitList, State.port_setPort_ne _ _ h]

theorem tries_headRefused (r : Response) : (s.headRefused p r).tries = s.tries := by simp [State.headRefused]

theorem port_arbitrateIf (now : Bool) : (s.arbitrateIf now).port p = s.port p := by
  cases now
  · rfl
  · exact port_arbitrate s p

theorem tries_arbitrateIf (now : Bool) : (s.arbitrateIf now).tries = s.tries := by
  cases now
  · rfl
  · exact tries_arbitrate s

end Ports

/-! ### The tries that a job's end lists -/

theorem addTry_tries_cleared (s : State) (p : Port) : { s.addTry p with tries := [] } = { s with tries := [] } := rfl

theorem addTryIf_tries_cleared (s : State) (p : Port) (w : HeadWait) :
    { s.addTryIf p w with tries := [] } = { s with tries := [] } := by
  unfold State.addTryIf
  split <;> rfl

theorem triesDue_addTryIf_empty {p : Port} {w : HeadWait} (ht : s.triesDue = [])
    (h : (s.port p).wait = w → (s.port p).requests = []) : (s.addTryIf p w).triesDue = [] := by
  unfold State.addTryIf
  split
  · exact triesDue_addTry_empty s p ht (h ‹_›)
  · exact ht

/-- What the offer of a freed line slot leaves, where it lists one port that has no head left, is what the event leaves. -/
theorem runTries_offered {now now' : Bool} {slot : Nat} {p q : Port} {t : State} (hslot : slot < 15)
    (hoffer : State.offer now s.waitList s = t.addTry p) (ht : t.tries = []) (hp : (t.port p).requests = [])
    (hq : (t.port q).requests = [] ∨ (t.port q).wait ≠ .quota ∧ (t.port q).wait ≠ .staging slot) :
    State.runTries now' (s.afterFree now slot q) = t := by
  have hfree : s.afterFree now slot q = ((t.addTry p).addTryIf q .quota).addTryIf q (.staging slot) := by
    have hlt : slot < Config.lineSlots := hslot
    unfold State.afterFree
    dsimp only
    rw [if_pos hlt, hoffer]
  have hwait : ∀ w, (w = .quota ∨ w = .staging slot) → (t.port q).wait = w → (t.port q).requests = [] := by
    rintro w hw h
    rcases hq with hq | ⟨hquota, hstaging⟩
    · exact hq
    · rcases hw with rfl | rfl
      · exact absurd h hquota
      · exact absurd h hstaging
  have hdue : (((t.addTry p).addTryIf q .quota).addTryIf q (.staging slot)).triesDue = [] := by
    refine triesDue_addTryIf_empty (triesDue_addTryIf_empty (triesDue_addTry_empty t p (triesDue_of_tries t ht) hp) ?_) ?_
    · exact hwait _ (.inl rfl)
    · rw [port_addTryIf]
      exact hwait _ (.inr rfl)
  rw [hfree, runTries_done _ _ hdue, addTryIf_tries_cleared, addTryIf_tries_cleared, addTry_tries_cleared]
  exact tries_cleared ht

/-- What the try of the one listed head leaves, where its port has no head left, is what the event leaves. -/
theorem runTries_listed {now : Bool} {p : Port} {t : State} {what : Tried} (hs : s.tries = [])
    (hreq : (s.port p).requests ≠ []) (htry : State.tryHead now p s = (what, t.addTry p)) (ht : t.tries = [])
    (hp : (t.port p).requests = []) : State.runTries now (s.addTry p) = t := by
  have hclear : { s.addTry p with tries := [] } = s := addTry_cleared s p hs
  have hdue : (s.addTry p).triesDue = [p] := by
    have htr : (s.addTry p).tries = [p] := by simp [State.addTry, hs]
    unfold State.triesDue
    rw [htr]
    simp [hreq]
  rw [runTries_one now _ p hdue, hclear, htry]
  · exact addTry_cleared t p ht
  · rw [hclear, htry]
    exact triesDue_addTry_empty t p (triesDue_of_tries t ht) hp

/-! ### A DERIVE at the head of a line port -/

section DeriveHead

variable {now : Bool} {l : LinePort} {tag : Byte} {b serial m t : Nat} {keys : List Nat}

theorem admitSlotRequest_derive {r : Request} (h : r.code = 0x01) :
    admitSlotRequest now (.line l) r s = admitDerive now (.line l) r s := if_pos (by rw [h]; rfl)

theorem admitRequest_derive {r : Request} (h : r.code = 0x01) :
    admitRequest now (.line l) r s = admitDerive now (.line l) r s := by
  unfold admitRequest
  rw [h]
  rfl

theorem commonRefusal_derive (hm : s.mode = .operating) :
    s.commonRefusal (.line l) ⟨0x01, tag, deriveBody b serial m t keys⟩ = none :=
  commonRefusal_none s (.line l) .derive _ rfl rfl (.inr (by simp [hm])) (by simp [ReqKind.lengthOk, deriveBody_length])

variable (hadm : s.admitting = true) (hm : s.mode = .operating)
  (hreq : (s.port (.line l)).requests = [⟨0x01, tag, deriveBody b serial m t keys⟩])
  (hfree : (s.port (.line l)).responsesFull = false) {own : Port → Request → State → Verdict}
  (hown : ∀ r, r.code = 0x01 → own (.line l) r s = admitDerive now (.line l) r s)
include hadm hm hreq hfree hown

/-- The DERIVE at the head is admitted and takes the slot (R117). -/
theorem tryWith_deriveTaken {mk tk : Nat × CellId} {prior : PosState} {free : Nat}
    (hfits : s.deriveFits l b serial m t keys mk tk prior) (hslot : s.slotFor l free) :
    s.tryWith own (.line l) = (.admitted, (((s.headTaken (.line l)).withDerive l tag b (serial - (s.batch b).first) prior keys
      mk tk free).arbitrateIf now).addTry (.line l)) := by
  have hv := admitDerive_fits_accept (now := now) (r := ⟨0x01, tag, deriveBody b serial m t keys⟩) rfl hfits hslot
  rw [startDerive_eq (prior_of_deriveFits hfits), beginAdmission_onlyHead s _ _ hreq] at hv
  exact tryWith_admits hadm hreq hfree (commonRefusal_derive hm) ((hown _ rfl).trans hv)

/-- The DERIVE at the head is refused by the access check of its master (R116 step 8). -/
theorem tryWith_deriveRefused {x : RefusalRec} (hnames : s.deriveNames l b serial m t keys)
    (hx : s.accessCheck l m .derive (some b) = .error x) :
    s.tryWith own (.line l) =
      (.refused, (s.headRefused (.line l) ⟨0x01, tag, x.answer, x.slot, x.stage, []⟩).addTry (.line l)) := by
  have hv := admitDerive_master (now := now) (r := ⟨0x01, tag, deriveBody b serial m t keys⟩) (deriveFields_body hnames)
    (deriveTests_pass hnames) hx
  rw [tryWith_refuses hadm hreq hfree (commonRefusal_derive hm) ((hown _ rfl).trans hv), refuseHead_onlyHead hreq]

end DeriveHead

/-- What an admission from the head leaves at the ports: no head at its own, the others as they were. -/
theorem taken_ports {l : LinePort} {tag : Byte} {b pos : Nat} {prior : PosState} {keys : List Nat} {mk tk : Nat × CellId}
    {free : Nat} (now : Bool) (q : Port) :
    (((s.headTaken (.line l)).withDerive l tag b pos prior keys mk tk free).arbitrateIf now).port q =
      (s.headTaken (.line l)).port q := by
  rw [port_arbitrateIf, port_withDerive]

theorem taken_tries {l : LinePort} {tag : Byte} {b pos : Nat} {prior : PosState} {keys : List Nat} {mk tk : Nat × CellId}
    {free : Nat} (now : Bool) :
    (((s.headTaken (.line l)).withDerive l tag b pos prior keys mk tk free).arbitrateIf now).tries = s.tries := by
  rw [tries_arbitrateIf, tries_withDerive, tries_headTaken]

/-! ### The offer (R94) -/

section Offer

variable {now : Bool} {l : LinePort} {ls : List LinePort} {r : Request} {rs : List Request}
  (hreq : (s.port (.line l)).requests = r :: rs) (hneeds : needsSlot (.line l) r = true)
include hreq hneeds

theorem offer_admitted {t : State} (htry : s.tryWith (admitSlotRequest now) (.line l) = (.admitted, t)) :
    State.offer now (l :: ls) s = t := by
  simp [State.offer, hreq, hneeds, htry]

theorem offer_passed {t : State} {what : Tried} (htry : s.tryWith (admitSlotRequest now) (.line l) = (what, t))
    (hwhat : what ≠ .admitted) : State.offer now (l :: ls) s = State.offer now ls t := by
  cases what with
  | admitted => exact absurd rfl hwhat
  | noHead | waits | refused => simp [State.offer, hreq, hneeds, htry]

end Offer

end Sys2Proof.Machine
end

/-! PROOF. STREAM-CLOSE and idle expiry, and what becomes of the freed slot (R135, R136, R94, R95). -/

section
namespace Sys2Proof.Machine

variable {s : State}

/-! ### STREAM-CLOSE (R135) -/

section CloseRule

variable {now : Bool} {p : Port} {r : Request} {slot : Nat} {seq : Byte} (hslot : field r.body 0 = slot)
  (hseq : r.body.getD 1 0 = seq)
include hslot hseq

theorem admitStreamClose_noStream (h : s.streamNamed p slot seq = none) :
    admitStreamClose now p r s = .refuse (bare .streamState) := by
  subst hslot hseq
  simp only [admitStreamClose, h]

variable {j : Job} {c : StreamCtx} (h : s.streamNamed p slot seq = some (j, c))
include h

theorem admitStreamClose_closing (hc : j.cancelPending = true) :
    admitStreamClose now p r s = .refuse (bare .streamState) := by
  subst hslot hseq
  simp only [admitStreamClose, h, if_pos hc]

variable (hc : j.cancelPending = false)
include hc

theorem admitStreamClose_deferred (hg : j.state = .inGrant) : admitStreamClose now p r s =
    .accept ((s.beginAdmission p).setJob slot
      (some { j with cancelPending := true, ctx := .stream { c with closing := some r.tag } })) := by
  subst hslot hseq
  simp only [admitStreamClose, h, hc, Bool.false_eq_true, if_false, if_pos hg]

theorem admitStreamClose_ends (hg : j.state ≠ .inGrant) : admitStreamClose now p r s =
    .accept ((s.beginAdmission p).endJob (cancelPlan now (closeAnswers slot j c r.tag)) slot) := by
  subst hslot hseq
  simp only [admitStreamClose, h, hc, Bool.false_eq_true, if_false, if_neg hg]

end CloseRule

theorem closeAnswers_eq (slot : Nat) (j : Job) (c : StreamCtx) (tag : Byte) : closeAnswers slot j c tag =
    (c.inService.toList.map fun ch => plainResponse 0x04 ch.tag .cancelled []) ++
      (c.staged.toList.map fun ch => plainResponse 0x04 ch.tag .cancelled []) ++
      [plainResponse 0x05 tag .done ([byte slot, c.seq] ++ beBytes 2 c.done)] := by
  simp [closeAnswers, Job.owed, closeDone]
  rfl

/-- A stream that ends at the admission of its close (R135). -/
theorem endJob_taken {p : Port} {e : EndPlan} {slot : Nat} {j : Job} {c : StreamCtx} (hj : s.job slot = some j) (ho : j.owner = p)
    (hc : j.ctx = .stream c) (hw : s.waitList = []) (hoffers : e.offers = true) (hloud : e.loud = true) (hline : slot < 15)
    (hroom : e.answers.length ≤ (s.port p).reserved + 1) :
    (s.taken p).endJob e slot = State.jobGone (s.setPort p { s.port p with
      frame := .none, wait := .none, reserved := (s.port p).reserved + 1 - e.answers.length
      occupied := (s.port p).occupied ++ e.answers }) slot j := by
  subst ho
  have htaken : s.taken j.owner = s.setPort j.owner { s.port j.owner with
      frame := .none, wait := .none, reserved := (s.port j.owner).reserved + 1 } :=
    leaveWaitList_empty (by rw [State.setPort_waitList, hw])
  have hanswered : (s.taken j.owner).respondAll j.owner e.answers = s.setPort j.owner { s.port j.owner with
      frame := .none, wait := .none, reserved := (s.port j.owner).reserved + 1 - e.answers.length
      occupied := (s.port j.owner).occupied ++ e.answers } := by
    rw [respondAll_reserved _ _ _ (by rw [port_taken]; exact hroom), port_taken, htaken]
    exact State.setPort_setPort _ _ _ _
  rw [← hanswered, endJob_rested (s := s.taken j.owner) (j := j) ?_ hoffers (.inl (by rw [htaken]; exact hw)) ?_ (by simp [hc])
    hloud hline, settlePosition_stream _ _ hc]
  · rw [htaken]
    exact hj
  · rw [hanswered, State.port_setPort_same]

/-! ### Idle expiry (R136) -/

theorem expireIdle_none {slot : Nat} {j : Job} {c : StreamCtx} (hj : s.job slot = some j) (hc : j.ctx = .stream c)
    (h : j.state ≠ .idle ∨ c.idle = some 0) : s.expireIdle slot = s := by
  have hnot : ¬ (j.state = .idle ∧ c.idle.any (· ≠ 0) = true) := fun ⟨hidle, hany⟩ => by
    simp [h.resolve_left (not_not.2 hidle)] at hany
  unfold State.expireIdle
  rw [hj]
  dsimp only
  rw [hc]
  dsimp only
  rw [if_neg hnot]

/-- An IDLE stream whose period ends is gone without a response, and its slot is offered. -/
theorem expireIdle_ends {slot : Nat} {j : Job} {c : StreamCtx} {limit : Nat} (hj : s.job slot = some j) (hc : j.ctx = .stream c)
    (hidle : j.state = .idle) (hlimit : c.idle = some limit) (h0 : limit ≠ 0) :
    s.expireIdle slot = (State.jobGone s slot j).afterFree true slot j.owner := by
  have hany : j.state = .idle ∧ c.idle.any (· ≠ 0) = true := ⟨hidle, by simp [hlimit, h0]⟩
  unfold State.expireIdle
  rw [hj]
  dsimp only
  rw [hc]
  dsimp only
  rw [if_pos hany, endJob_gone hj rfl (by simp [hc]) rfl, settlePosition_stream _ _ hc]
  rfl

theorem exec_idleExpiry (slot : Nat) (s : State) :
    exec (.streamIdleExpiry slot) s = .next ((s.expireIdle slot).runTries true) := rfl

/-! ### The freed slot and the heads -/

section Ended

variable {slot : Nat} {j : Job}

theorem admitting_jobGone (h : s.admitting = true) : (State.jobGone s slot j).admitting = true := by
  obtain ⟨_, _, _, _, hgone⟩ := jobGone_touches s slot j
  rw [hgone]
  exact h

theorem mode_jobGone (s : State) (slot : Nat) (j : Job) : (State.jobGone s slot j).mode = s.mode := by
  obtain ⟨_, _, _, _, hgone⟩ := jobGone_touches s slot j
  rw [hgone]

end Ended

section Head

variable {slot : Nat} {j : Job} {l : LinePort} {tag : Byte} {b serial m t : Nat} {keys : List Nat} {mk tk : Nat × CellId}
  {prior : PosState} {free : Nat} {now now' : Bool} (ht : s.tries = []) (hm : s.mode = .operating)
  (hhead : s.onlyHead (.line l) ⟨0x01, tag, deriveBody b serial m t keys⟩)
include ht hm hhead

section Fits

variable (hfits : s.deriveFits l b serial m t keys mk tk prior) (hslot : s.slotFor l free)
include hfits hslot

/-- The one listed port's DERIVE takes the line slot that is offered (R94, R117). -/
theorem runTries_offerTaken (hline : slot < 15) (hw : s.waitList = [l]) (q : Port) :
    State.runTries now' (s.afterFree now slot q) =
      ((s.headTaken (.line l)).withDerive l tag b (serial - (s.batch b).first) prior keys mk tk free).arbitrateIf now := by
  obtain ⟨hadm, hreq, hfree, hothers⟩ := hhead
  have htry := tryWith_deriveTaken hadm hm hreq hfree (own := admitSlotRequest now) (fun _ h => admitSlotRequest_derive h)
    hfits hslot
  refine runTries_offered (p := .line l) hline ?_ ((taken_tries now).trans ht) ?_ (.inl ?_)
  · rw [hw]
    exact offer_admitted hreq rfl htry
  · rw [taken_ports]
    exact requests_headTaken s _
  · rw [taken_ports]
    by_cases h : q = .line l
    · rw [h]
      exact requests_headTaken s _
    · rw [port_headTaken_ne s h]
      exact hothers q h

/-- The owner's DERIVE that waited for its quota takes the freed slot (R89). -/
theorem runTries_quotaTaken (hw : s.waitList = []) (hline : slot < 15) (hquota : (s.port (.line l)).wait = .quota) :
    State.runTries now (s.afterFree now' slot (.line l)) =
      ((s.headTaken (.line l)).withDerive l tag b (serial - (s.batch b).first) prior keys mk tk free).arbitrateIf now := by
  obtain ⟨hadm, hreq, hfree, hothers⟩ := hhead
  have htry := tryWith_deriveTaken hadm hm hreq hfree (own := admitRequest now) (fun _ h => admitRequest_derive h)
    hfits hslot
  have hafter : s.afterFree now' slot (.line l) = s.addTry (.line l) := by
    have hlt : slot < Config.lineSlots := hline
    unfold State.afterFree
    dsimp only
    rw [if_pos hlt, hw]
    show (s.addTryIf _ _).addTryIf _ _ = _
    unfold State.addTryIf
    rw [if_pos hquota]
    exact if_neg (by rw [State.port_addTry, hquota]; simp)
  rw [hafter]
  refine runTries_listed ht (by simp [hreq]) htry ((taken_tries now).trans ht) ?_
  rw [taken_ports]
  exact requests_headTaken s _

end Fits

/-- The one listed port's DERIVE is refused by its checks (R94, R116). -/
theorem runTries_offerRefused {x : RefusalRec} (hnames : s.deriveNames l b serial m t keys)
    (hx : s.accessCheck l m .derive (some b) = .error x) (hline : slot < 15) (hw : s.waitList = [l]) (q : Port) :
    State.runTries now' (s.afterFree now slot q) =
      s.headRefused (.line l) ⟨0x01, tag, x.answer, x.slot, x.stage, []⟩ := by
  obtain ⟨hadm, hreq, hfree, hothers⟩ := hhead
  have htry := tryWith_deriveRefused hadm hm hreq hfree (own := admitSlotRequest now) (fun _ h => admitSlotRequest_derive h)
    hnames hx
  refine runTries_offered (p := .line l) hline ?_ ((tries_headRefused s _ _).trans ht) (requests_headRefused s _ _) (.inl ?_)
  · rw [hw, offer_passed hreq rfl htry (by simp)]
    rfl
  · by_cases h : q = .line l
    · rw [h]
      exact requests_headRefused s _ _
    · rw [port_headRefused_ne s h]
      exact hothers q h

end Head

/-- A listed port without a response entry is passed over and keeps its place; the next listed port's DERIVE takes the line slot
(R89 step 2, R94, R95). -/
theorem runTries_passedOver {slot : Nat} {full l : LinePort} {q : Request} {tag : Byte} {b serial m t : Nat} {keys : List Nat}
    {mk tk : Nat × CellId} {prior : PosState} {free : Nat} {now now' : Bool} (ht : s.tries = []) (hm : s.mode = .operating)
    (hfits : s.deriveFits l b serial m t keys mk tk prior) (hslot : s.slotFor l free) (hne : full ≠ l)
    (hw : s.waitList = [full, l]) (hadm : s.admitting = true) (hreqFull : (s.port (.line full)).requests = [q])
    (hneeds : needsSlot (.line full) q = true) (hfull : (s.port (.line full)).responsesFull = true)
    (hreq : (s.port (.line l)).requests = [⟨0x01, tag, deriveBody b serial m t keys⟩])
    (hfree : (s.port (.line l)).responsesFull = false)
    (hothers : ∀ p, p ≠ .line full → p ≠ .line l → (s.port p).requests = []) (hline : slot < 15) (owner : Port) :
    State.runTries now' (s.afterFree now slot owner) =
      (((s.setPort (.line full) { s.port (.line full) with wait := .entry }).headTaken (.line l)).withDerive l tag b
        (serial - (s.batch b).first) prior keys mk tk free).arbitrateIf now := by
  have hpl : Port.line l ≠ .line full := fun h => hne (by cases h; rfl)
  obtain ⟨u, hu, huport, hul, hudm, hum, hutries, hufits, huslot, hubatch⟩ : ∃ u : State,
      s.setPort (.line full) { s.port (.line full) with wait := .entry } = u ∧
      u.port (.line full) = { s.port (.line full) with wait := .entry } ∧
      (∀ p, p ≠ .line full → u.port p = s.port p) ∧ u.admitting = true ∧ u.mode = .operating ∧ u.tries = [] ∧
      u.deriveFits l b serial m t keys mk tk prior ∧ u.slotFor l free ∧ u.batch b = s.batch b :=
    ⟨_, rfl, State.port_setPort_same _ _ _, fun _ h => State.port_setPort_ne _ _ h, hadm, hm, ht, hfits, hslot, rfl⟩
  have hpassed : s.tryWith (admitSlotRequest now) (.line full) = (.waits, u) := by
    rw [tryWith_full hadm hreqFull hfull, State.headWaits, if_neg (by simp), if_pos hneeds, if_neg (by simp), ← hu]
    rfl
  rw [← hul _ hpl] at hreq hfree
  have htry := tryWith_deriveTaken hudm hum hreq hfree (own := admitSlotRequest now) (fun _ h => admitSlotRequest_derive h)
    hufits huslot
  rw [hu, ← hubatch]
  refine runTries_offered (p := .line l) hline ?_ ((taken_tries now).trans hutries) ?_ ?_
  · rw [hw, offer_passed hreqFull hneeds hpassed (by simp)]
    exact offer_admitted hreq rfl htry
  · rw [taken_ports]
    exact requests_headTaken u _
  · rw [taken_ports]
    by_cases h : owner = .line l
    · rw [h]
      exact .inl (requests_headTaken u _)
    · rw [port_headTaken_ne u h]
      by_cases h' : owner = .line full
      · rw [h', huport]
        exact .inr ⟨by simp, by simp⟩
      · rw [hul _ h']
        exact .inl (hothers owner h' h)

/-- Settles O27: the close by the stream its handle names, the expiry by the heads that wait for the freed slot. -/
theorem streamsEndByCloseOrIdleExpiry : Obligations.StreamsEndByCloseOrIdleExpiry := by
  have refusedBy : ∀ {s : State} {l : LinePort} {flags tag seq : Byte} {slot : Nat}, s.quiet (.line l) = true →
      s.mode = .operating → admitStreamClose true (.line l) ⟨0x05, tag, [byte slot, seq]⟩
        (s.withRequest (.line l) ⟨0x05, tag, [byte slot, seq]⟩) = .refuse (bare .streamState) →
      exec (.streamClose (.line l) flags tag [byte slot, seq]) s =
        .next (s.served (.line l) ⟨0x05, tag, .streamState, none, .none, []⟩) := fun hq hm hv =>
    exec_refused (k := .streamClose) hq (by simp) rfl (.inr hm) rfl hv
  refine ⟨fun s l flags tag seq slot hq hm hle hno => ?_, fun s slot j c hline hj hctx htries => ⟨fun l flags tag seq hq hm => ?_,
    fun hnot => ?_, fun limit hidle hlimit h0 => ?_⟩⟩
  · exact refusedBy hq hm (admitStreamClose_noStream (s := s.withRequest (.line l) ⟨0x05, tag, [byte slot, seq]⟩)
      (field_zero slot (by omega) _) rfl (streamNamed_none hno))
  · have hnamed := streamNamed_of_stream (s := s.withRequest (.line l) ⟨0x05, tag, [byte slot, seq]⟩) (p := .line l)
      (seq := seq) hline hj hctx
    have hfield : field [byte slot, seq] 0 = slot := field_zero slot (by omega) _
    refine ⟨fun hother => ?_, fun ho hseq hc => ?_⟩
    · by_cases hmine : j.owner = .line l ∧ c.seq = seq
      · have hc : j.cancelPending = true := (hother.resolve_left (not_not.2 hmine.1)).resolve_left (not_not.2 hmine.2)
        exact refusedBy hq hm (admitStreamClose_closing hfield rfl (hnamed.trans (if_pos hmine)) hc)
      · exact refusedBy hq hm (admitStreamClose_noStream hfield rfl (hnamed.trans (if_neg hmine)))
    · intro answers
      refine ⟨fun hg => ?_, fun hg hw hroom => ?_⟩
      · have hv := admitStreamClose_deferred (now := true) (s := s.withRequest (.line l) ⟨0x05, tag, [byte slot, seq]⟩)
          (r := ⟨0x05, tag, [byte slot, seq]⟩) hfield rfl (hnamed.trans (if_pos ⟨ho, hseq⟩)) hc hg
        rw [beginAdmission_withRequest hq] at hv
        refine exec_admitted (k := .streamClose) hq (by simp) rfl (.inr hm) rfl hv ?_ ?_
        · rw [State.port_setJob, State.requests_taken]
          exact requests_of_quiet hq
        · rw [State.setJob_tries, State.tries_taken]
          exact htries
      · have hv := admitStreamClose_ends (now := true) (s := s.withRequest (.line l) ⟨0x05, tag, [byte slot, seq]⟩)
          (r := ⟨0x05, tag, [byte slot, seq]⟩) hfield rfl (hnamed.trans (if_pos ⟨ho, hseq⟩)) hc hg
        rw [beginAdmission_withRequest hq, closeAnswers_eq,
          endJob_taken (e := cancelPlan true answers) hj ho hctx hw rfl rfl hline hroom] at hv
        refine exec_admitted (k := .streamClose) hq (by simp) rfl (.inr hm) rfl hv ?_ ?_
        · rw [port_jobGone, State.port_setPort_same]
          exact requests_of_quiet (s := s) hq
        · rw [tries_jobGone, State.setPort_tries]
          exact htries
  · rw [exec_idleExpiry, expireIdle_none hj hctx hnot, runTries_of_tries htries]
  · intro ended
    have hexec : exec (.streamIdleExpiry slot) s = .next (State.runTries true (ended.afterFree true slot j.owner)) := by
      rw [exec_idleExpiry, expireIdle_ends hj hctx hidle hlimit h0]
    have hendedTries : ended.tries = [] := (tries_jobGone s slot j).trans htries
    have hport : ∀ p, ended.port p = s.port p := fun p => port_jobGone s slot j p
    have hlist : ended.waitList = s.waitList := waitList_jobGone s slot j
    refine ⟨fun hw hheads => ?_, fun l tag b serial m t keys hm => ?_⟩
    · obtain ⟨tries, hafter⟩ := afterFree_noWaiters (s := ended) true slot j.owner (.inl (hlist.trans hw))
      rw [hexec, hafter, runTries_noHeads hendedTries fun p => by rw [hport]; exact noHeads_iff.1 hheads p]
    · intro head pos
      have hendedMode : ended.mode = .operating := (mode_jobGone s slot j).trans hm
      have honly : s.onlyHead (.line l) head → ended.onlyHead (.line l) head := by
        rintro ⟨hadm, hreq, hfree, hothers⟩
        exact ⟨admitting_jobGone hadm, by rw [hport]; exact hreq, by rw [hport]; exact hfree, fun q hq => by
          rw [hport]; exact hothers q hq⟩
      refine ⟨fun mk tk prior free hfits hslot => ⟨fun hhead hwho => ?_, fun full q hne hw hadm hreqFull hneeds hfull hreq hfree
        hothers => ?_⟩, fun x hnames hx hhead hw => ?_⟩
      · rw [hexec]
        rcases hwho with hw | ⟨hw, ho, hquota⟩
        · exact congrArg Host.Outcome.next
            (runTries_offerTaken hendedTries hendedMode (honly hhead) hfits hslot hline (hlist.trans hw) j.owner)
        · rw [ho]
          exact congrArg Host.Outcome.next (runTries_quotaTaken hendedTries hendedMode (honly hhead) hfits hslot
            (hlist.trans hw) hline (by rw [hport]; exact hquota))
      · rw [hexec]
        refine (congrArg Host.Outcome.next (runTries_passedOver hendedTries hendedMode hfits hslot hne (hlist.trans hw)
          (admitting_jobGone hadm) (by rw [hport]; exact hreqFull) hneeds (by rw [hport]; exact hfull)
          (by rw [hport]; exact hreq) (by rw [hport]; exact hfree) (fun p h h' => by rw [hport]; exact hothers p h h') hline
          j.owner)).trans ?_
        rw [hport]
        rfl
      · rw [hexec]
        exact congrArg Host.Outcome.next (runTries_offerRefused hendedTries hendedMode (honly hhead) hnames hx hline
          (hlist.trans hw) j.owner)

end Sys2Proof.Machine
end

/-! PROOF. The grant ends of DERIVE and STREAM jobs (R106, R121, R122, R133, R134). -/

section
namespace Sys2Proof.Machine

variable {s : State}

/-! ### What a grant end does with its job (R106) -/

section GrantEnd

variable {g : Grant} {j : Job}

theorem exec_grantEnd (hg : s.engine = some g) (hj : s.job g.slot = some j) :
    exec .grantEnd s = .next ({ (s.moveJob j g).runTries false with engine := none }.arbitrate) := by
  show Host.Outcome.next s.endGrant = _
  unfold State.endGrant
  rw [hg]
  dsimp only
  rw [hj]

theorem moveJob_cancelled (hc : j.cancelPending = true) : s.moveJob j g = s.endCancelled g.slot j := by
  unfold State.moveJob
  rw [if_pos hc]

variable (hc : j.cancelPending = false)
include hc

theorem moveJob_derive {c : DeriveCtx} (h : (s.recordAll j (s.grantResults j g)).ctx = .derive c) :
    s.moveJob j g = s.moveDerive g.slot (s.recordAll j (s.grantResults j g)) c := by
  unfold State.moveJob
  rw [if_neg (by simp [hc])]
  dsimp only
  rw [h]

theorem moveJob_stream {c : StreamCtx} (h : (s.recordAll j (s.grantResults j g)).ctx = .stream c) :
    s.moveJob j g = s.moveStream g.slot (s.recordAll j (s.grantResults j g)) c := by
  unfold State.moveJob
  rw [if_neg (by simp [hc])]
  dsimp only
  rw [h]

theorem moveJob_custody {c : CustodyCtx} (h : (s.recordAll j (s.grantResults j g)).ctx = .custody c) :
    s.moveJob j g =
      s.moveCustody (s.recordAll j (s.grantResults j g)) c ((s.grantResults j g).getLast?.getD 0) := by
  unfold State.moveJob
  rw [if_neg (by simp [hc])]
  dsimp only
  rw [h]

end GrantEnd

theorem setJob_respondAll (s : State) (slot : Nat) (o : Option Job) (p : Port) (rs : List Response) :
    (s.setJob slot o).respondAll p rs = (s.respondAll p rs).setJob slot o :=
  respondAll_commute (f := fun t => t.setJob slot o) (fun _ _ => rfl) (fun _ => rfl) rs s

/-- The end of a DERIVE or STREAM whose grant wrote results to its context. -/
theorem endJob_recorded {e : EndPlan} {slot : Nat} {j : Job} {ctx : JobCtx} (hslot : slot < 16)
    (hctx : ∀ c, ctx ≠ .custody c) (ho : e.offers = true) (hloud : e.loud = true) :
    (s.setJob slot (some { j with ctx := ctx })).endJob e slot =
      (State.jobGone ((s.settlePosition e.commits { j with ctx := ctx }).respondAll j.owner e.answers) slot j).afterFree e.now
        slot j.owner := by
  rw [endJob_gone (State.job_setJob_same s slot _ hslot) ho hctx hloud, (beside_setJob slot _).settlePosition,
    setJob_respondAll, jobGone_setJob]
  rfl

/-- A response into a reserved entry of a port leaves its heads and its free entries as they were. -/
theorem onlyHead_answered {t : State} {p q : Port} {r : Request} {out : Response} (hroom : 1 ≤ (s.port p).reserved)
    (hadm : t.admitting = s.admitting) (hport : ∀ x, t.port x = (s.setPort p { s.port p with
      reserved := (s.port p).reserved - 1, occupied := (s.port p).occupied ++ [out] }).port x)
    (h : s.onlyHead q r) : t.onlyHead q r := by
  obtain ⟨ha, hreq, hfree, hothers⟩ := h
  have hsame : ∀ x, (t.port x).requests = (s.port x).requests ∧ (t.port x).responsesFull = (s.port x).responsesFull := fun x => by
    rw [hport]
    by_cases hx : x = p
    · subst x
      rw [State.port_setPort_same]
      refine ⟨rfl, ?_⟩
      have hcount : (s.port p).occupied.length + 1 + ((s.port p).reserved - 1) =
          (s.port p).occupied.length + (s.port p).reserved := by omega
      simp [PortUnit.responsesFull, hcount]
    · rw [State.port_setPort_ne _ _ hx]
      exact ⟨rfl, rfl⟩
  exact ⟨hadm.trans ha, (hsame q).1.trans hreq, (hsame q).2.trans hfree, fun x hx => (hsame x).1.trans (hothers x hx)⟩

/-! ### DERIVE (R121, R122) -/

theorem moveDerive_waits {slot : Nat} {j : Job} {c : DeriveCtx} (h : c.done < 3 * c.keys.length) :
    s.moveDerive slot j c = s.setJob slot (some { j with state := .waiting }) := if_neg (Nat.not_le.2 h)

theorem moveDerive_ends {slot : Nat} {j : Job} {c : DeriveCtx} (h : 3 * c.keys.length ≤ c.done) : s.moveDerive slot j c =
    (s.setJob slot (some j)).endJob
      { commits := true, loud := true, offers := true, now := false
        answers := [plainResponse 0x01 j.tag .done (s.deriveDoneBody c)] } slot := if_pos h

/-- Settles O34: the results recorded, then the DERIVE waits again or completes. -/
theorem grantEndMovesOrCompletesADerive : Obligations.GrantEndMovesOrCompletesADerive := by
  intro s g j c l hg hj ho hc htries hctx j'
  have hmove := moveJob_derive (g := g) hc hctx
  refine ⟨fun hleft => ?_, fun hdone hline hroom => ?_⟩
  · rw [exec_grantEnd hg hj, hmove, moveDerive_waits hleft, runTries_of_tries (s := s.setJob _ _) htries]
  · intro s1 done ended
    obtain ⟨ctx, hj'⟩ := recordAll_touches s (s.grantResults j g) j
    have hctx' : ctx = .derive c := by rw [hj'] at hctx; exact hctx
    subst hctx'
    have hport : ∀ p, s1.port p = s.port p := port_settlePosition true s { j with ctx := .derive c }
    have hanswered : s1.respondAll (.line l) [done] = s1.setPort (.line l) { s1.port (.line l) with
        reserved := (s1.port (.line l)).reserved - 1, occupied := (s1.port (.line l)).occupied ++ [done] } :=
      respondAll_reserved s1 (.line l) [done] (by rw [hport]; exact hroom)
    have hmoved : s.moveJob j g = ended.afterFree false g.slot (.line l) := by
      rw [hmove, moveDerive_ends hdone, hj', endJob_recorded (by omega) (by simp) rfl rfl, settlePosition_derive _ s rfl, ho]
      exact congrArg (fun t => (State.jobGone t g.slot j).afterFree false g.slot (.line l)) hanswered
    obtain ⟨_, _, hcommit⟩ := commitPos_touches s c.batch c.pos
    have hended : ended.tries = [] ∧ ended.waitList = s.waitList ∧ ended.mode = s.mode ∧ ended.admitting = s.admitting := by
      obtain ⟨_, _, _, _, hgone⟩ := jobGone_touches (s1.setPort (.line l) { s1.port (.line l) with
        reserved := (s1.port (.line l)).reserved - 1, occupied := (s1.port (.line l)).occupied ++ [done] }) g.slot j
      have hs1 : s1.tries = s.tries ∧ s1.waitList = s.waitList ∧ s1.mode = s.mode ∧ s1.admitting = s.admitting := by
        rw [show s1 = _ from hcommit]
        exact ⟨rfl, rfl, rfl, rfl⟩
      rw [show ended = _ from hgone]
      obtain ⟨h1, h2, h3, h4⟩ := hs1
      exact ⟨h1.trans htries, h2, h3, h4⟩
    obtain ⟨hendedTries, hlist, hmode, hadm⟩ := hended
    have hendedPort : ∀ p, ended.port p = (s.setPort (.line l) { s.port (.line l) with
        reserved := (s.port (.line l)).reserved - 1, occupied := (s.port (.line l)).occupied ++ [done] }).port p := fun p => by
      rw [show ended.port p = _ from port_jobGone _ g.slot j p]
      by_cases hp : p = .line l
      · subst hp
        rw [State.port_setPort_same, State.port_setPort_same, hport]
      · rw [State.port_setPort_ne _ _ hp, State.port_setPort_ne _ _ hp, hport]
    refine ⟨fun hw hheads => ?_, fun o tag b serial m t free keys mk tk prior hm hw hhead hfits hslot => ?_⟩
    · obtain ⟨tries, hafter⟩ := afterFree_noWaiters (s := ended) false g.slot (.line l) (.inl (hlist.trans hw))
      have hempty : ∀ p, (ended.port p).requests = [] := fun p => by
        rw [hendedPort]
        by_cases hp : p = .line l
        · subst hp
          rw [State.port_setPort_same]
          exact noHeads_iff.1 hheads _
        · rw [State.port_setPort_ne _ _ hp]
          exact noHeads_iff.1 hheads p
      rw [exec_grantEnd hg hj, hmoved, hafter, runTries_noHeads hendedTries hempty]
    · have htaken := runTries_offerTaken (now := false) (now' := false) hendedTries (hmode.trans hm)
        (onlyHead_answered hroom hadm hendedPort hhead) hfits hslot hline (hlist.trans hw) (.line l)
      rw [exec_grantEnd hg hj, hmoved, htaken]
      rfl

/-! ### STREAM (R133, R134) -/

section StreamMoves

variable {slot : Nat} {j : Job} {c : StreamCtx} {ch : Chunk}

theorem moveStream_waits (hch : c.inService = some ch) (h : ch.done < 2 * ch.blocks.length) :
    s.moveStream slot j c = s.setJob slot (some { j with state := .waiting }) := by
  unfold State.moveStream
  rw [hch]
  exact if_neg (Nat.not_le.2 h)

theorem moveStream_ends (hch : c.inService = some ch) (h : 2 * ch.blocks.length ≤ ch.done) :
    s.moveStream slot j c = (s.setJob slot (some j)).endChunk slot j c ch := by
  unfold State.moveStream
  rw [hch]
  exact if_pos h

theorem endChunk_final (h : c.done + ch.blocks.length = c.declared) : s.endChunk slot j c ch =
    s.endJob { commits := false, loud := true, offers := true, now := false
               answers := [plainResponse 0x04 ch.tag .final (chunkBody c.done ch)] } slot := if_pos h

theorem endChunk_goesOn (h : c.done + ch.blocks.length ≠ c.declared) : s.endChunk slot j c ch =
    let t := (s.respond j.owner (plainResponse 0x04 ch.tag .done (chunkBody c.done ch))).setJob slot
      (some (nextChunk (s.idleLimitOf j.owner) j { c with done := c.done + ch.blocks.length }))
    if c.staged.isSome then t.addTryIf j.owner (.staging slot) else t := by
  unfold State.endChunk
  dsimp only
  exact if_neg h

theorem nextChunk_staged {limit : Nat} {next : Chunk} (h : c.staged = some next) : nextChunk limit j c =
    { j with state := .waiting, ctx := .stream { c with inService := some next, staged := none } } := by
  unfold nextChunk
  rw [h]

theorem nextChunk_idle {limit : Nat} (h : c.staged = none) : nextChunk limit j c =
    { j with state := .idle, ctx := .stream { c with inService := none, idle := some limit } } := by
  unfold nextChunk
  rw [h]

end StreamMoves

/-- A head that is listed at a port without a request is not due (R89). -/
theorem runTries_noHead {now : Bool} {p : Port} {w : HeadWait} (ht : s.tries = []) (hr : (s.port p).requests = []) :
    (s.addTryIf p w).runTries now = s := by
  rw [runTries_done now _ (triesDue_addTryIf_empty (triesDue_of_tries s ht) fun _ => hr), addTryIf_tries_cleared]
  exact tries_cleared ht

/-- The response of a chunk into its entry. -/
def State.chunkAnswered (s : State) (p : Port) (r : Response) : State :=
  s.setPort p { s.port p with reserved := (s.port p).reserved - 1, occupied := (s.port p).occupied ++ [r] }

theorem requests_chunkAnswered (s : State) (p q : Port) (r : Response) :
    ((s.chunkAnswered p r).port q).requests = (s.port q).requests := by
  unfold State.chunkAnswered
  by_cases h : q = p
  · subst h
    rw [State.port_setPort_same]
  · rw [State.port_setPort_ne _ _ h]

theorem headTaken_setJob (s : State) (p : Port) (slot : Nat) (o : Option Job) :
    (s.setJob slot o).headTaken p = (s.headTaken p).setJob slot o := by cases p <;> rfl

/-- A chunk at the head that waits for the staging place of its stream takes it (R89, R131). -/
theorem tryHead_staging {now : Bool} {l : LinePort} {slot : Nat} {tag : Byte} {blocks : List Block} {j : Job} {c : StreamCtx}
    (hm : s.mode = .operating) (hhead : s.onlyHead (.line l) ⟨0x04, tag, streamChunkBody slot c.seq blocks⟩)
    (hline : slot < 15) (hj : s.job slot = some j) (ho : j.owner = .line l) (hctx : j.ctx = .stream c)
    (hc : j.cancelPending = false) (hbusy : j.state ≠ .idle) (hstaged : c.staged = none) (h1 : 1 ≤ blocks.length)
    (h4 : blocks.length ≤ 4) (hroom : c.accepted + blocks.length ≤ c.declared) :
    State.tryHead now (.line l) s = (.admitted, ((s.headTaken (.line l)).setJob slot (some { j with
      ctx := .stream { c with staged := some (newChunk tag blocks) } })).addTry (.line l)) := by
  obtain ⟨hadm, hreq, hfree, _⟩ := hhead
  have hf : ChunkFields (streamChunkBody slot c.seq blocks) slot c.seq blocks := chunkFields_body (by omega) (by omega)
  have hnamed := (streamNamed_of_stream (p := .line l) (seq := c.seq) hline hj hctx).trans (if_pos ⟨ho, rfl⟩)
  have hlen : ReqKind.streamChunk.lengthOk (streamChunkBody slot c.seq blocks) = true := by
    simp [ReqKind.lengthOk, streamChunkBody_length, hf.count]
  have hcommon := commonRefusal_none s (.line l) .streamChunk ⟨0x04, tag, streamChunkBody slot c.seq blocks⟩ rfl rfl
    (.inr (by simp [hm])) hlen
  have hv := (admitStreamChunk_places (now := now) (p := .line l) (r := ⟨0x04, tag, streamChunkBody slot c.seq blocks⟩) hf
    ⟨h1, h4⟩ hnamed hc hroom).trans (placeChunk_staged hbusy hstaged)
  rw [beginAdmission_onlyHead s _ _ hreq] at hv
  exact tryWith_admits hadm hreq hfree hcommon hv

/-- Settles O35: the results recorded, then the chunk goes on or ends, and with it the stream or the service of the next. -/
theorem grantEndMovesAStream : Obligations.GrantEndMovesAStream := by
  intro s g j c ch l hg hj ho hc htries hline hctx hch j' b answer answered
  have hmove := moveJob_stream (g := g) hc hctx
  obtain ⟨ctx, hj'⟩ := recordAll_touches s (s.grantResults j g) j
  have hctx' : ctx = .stream c := by rw [hj'] at hctx; exact hctx
  subst hctx'
  have hj' : j' = { j with ctx := .stream c } := hj'
  refine ⟨fun hleft => ?_, fun hdone hroom => ⟨fun hlast hw hheads => ?_, fun hmore => ?_⟩⟩
  · rw [exec_grantEnd hg hj, hmove, moveStream_waits hch hleft, runTries_of_tries (s := s.setJob _ _) htries]
  · have hanswered : s.respondAll (.line l) [answer .final] = answered .final := respondAll_reserved s (.line l) _ hroom
    have hmoved : s.moveJob j g = (State.jobGone (answered .final) g.slot j).afterFree false g.slot (.line l) := by
      rw [hmove, moveStream_ends hch hdone, endChunk_final hlast, show s.recordAll j _ = _ from hj',
        endJob_recorded (by omega) (by simp) rfl rfl, settlePosition_stream _ _ rfl, ho]
      exact congrArg (fun t => (State.jobGone t g.slot j).afterFree false g.slot (.line l)) hanswered
    obtain ⟨tries, hafter⟩ := afterFree_noWaiters (s := State.jobGone (answered .final) g.slot j) false g.slot (.line l)
      (.inl ((waitList_jobGone _ _ _).trans hw))
    rw [exec_grantEnd hg hj, hmoved, hafter,
      runTries_noHeads (t := State.jobGone (answered .final) g.slot j) ((tries_jobGone _ _ _).trans htries) (fun p => ?empty)]
    case empty =>
      rw [port_jobGone]
      exact (requests_chunkAnswered s (.line l) p (answer .final)).trans (noHeads_iff.1 hheads p)
  · have hmoved : ∀ o, nextChunk (s.idleLimitOf (.line l)) j' { c with done := c.done + b } = o →
        s.moveJob j g = if c.staged.isSome then ((answered .done).setJob g.slot (some o)).addTryIf (.line l) (.staging g.slot)
          else (answered .done).setJob g.slot (some o) := fun o hnext => by
      have howner : (s.recordAll j (s.grantResults j g)).owner = .line l := (congrArg Job.owner hj').trans ho
      have hlimit : ∀ x, (s.setJob g.slot (some x)).idleLimitOf (.line l) = s.idleLimitOf (.line l) := fun _ => rfl
      have hrespond : (s.setJob g.slot (some (s.recordAll j (s.grantResults j g)))).respond (.line l)
          (plainResponse 0x04 ch.tag .done (chunkBody c.done ch)) =
            (answered .done).setJob g.slot (some (s.recordAll j (s.grantResults j g))) :=
        (respond_commute (f := fun t => t.setJob g.slot (some j')) (fun _ _ => rfl) (fun _ => rfl) s _).trans
          (congrArg (fun t => t.setJob g.slot (some j')) (respond_reserved s (.line l) _ hroom))
      rw [hmove, moveStream_ends hch hdone, endChunk_goesOn hmore, howner, hlimit, hnext, hrespond, setJob_setJob]
    refine ⟨fun next hstaged => ?_, fun hstaged hheads => ?_⟩
    · intro goesOn
      have hnext : s.moveJob j g =
          ((answered .done).setJob g.slot (goesOn none)).addTryIf (.line l) (.staging g.slot) := by
        rw [hmoved _ (nextChunk_staged hstaged), hstaged]
        rfl
      refine ⟨fun hheads => ?_, fun tag blocks hm hwait hhead h1 h4 hcount => ?_⟩
      · rw [exec_grantEnd hg hj, hnext, runTries_noHead (s := (answered .done).setJob _ _) htries]
        exact (requests_chunkAnswered s (.line l) (.line l) (answer .done)).trans (noHeads_iff.1 hheads _)
      · have hport : ∀ p, ((answered .done).setJob g.slot (goesOn none)).port p = (s.setPort (.line l) { s.port (.line l) with
            reserved := (s.port (.line l)).reserved - 1, occupied := (s.port (.line l)).occupied ++ [answer .done] }).port p :=
          fun _ => rfl
        have hsame : ((answered .done).setJob g.slot (goesOn none)).port (.line l) = { s.port (.line l) with
            reserved := (s.port (.line l)).reserved - 1, occupied := (s.port (.line l)).occupied ++ [answer .done] } :=
          (hport _).trans (State.port_setPort_same _ _ _)
        have hstages : ((answered .done).setJob g.slot (goesOn none)).addTryIf (.line l) (.staging g.slot) =
            ((answered .done).setJob g.slot (goesOn none)).addTry (.line l) := if_pos (by rw [hsame]; exact hwait)
        have hline16 : g.slot < 16 := by omega
        have htry := tryHead_staging (now := false) (s := (answered .done).setJob g.slot (goesOn none))
          (c := { c with done := c.done + b, inService := some next, staged := none }) hm
          (onlyHead_answered hroom rfl hport hhead) hline (State.job_setJob_same _ _ _ hline16) ?_ rfl ?_ (by simp) rfl h1 h4 ?_
        · have hqueue : (((answered .done).setJob g.slot (goesOn none)).port (.line l)).requests ≠ [] := by
            obtain ⟨_, hreq, _⟩ := hhead
            rw [hsame]
            simp [hreq]
          have hclear : ∀ o, ((((answered .done).setJob g.slot (goesOn none)).headTaken (.line l)).setJob g.slot o).tries = [] :=
            fun _ => (tries_headTaken _ _).trans htries
          rw [exec_grantEnd hg hj, hnext, hstages,
            runTries_listed (s := (answered .done).setJob g.slot (goesOn none)) htries hqueue htry (hclear _),
            headTaken_setJob, setJob_setJob]
          · rfl
          · rw [State.port_setJob, requests_headTaken]
        · rw [hj']
          exact ho
        · rw [hj']
          exact hc
        · simpa [StreamCtx.accepted] using hcount
    · have hnext : s.moveJob j g = (answered .done).setJob g.slot (some _) :=
        (hmoved _ (nextChunk_idle hstaged)).trans (if_neg (by simp [hstaged]))
      rw [exec_grantEnd hg hj, hnext, runTries_of_tries (s := (answered .done).setJob _ _) htries]
      rfl

end Sys2Proof.Machine
end

/-! PROOF. The grant ends of the CUSTODY job (R48 to R50), and of a job whose cancel-pending flag is set (R96, R53, R54, R135). -/

section
namespace Sys2Proof.Machine

variable {s : State}

/-! ### The one pass of a CUSTODY job (R48, R49) -/

theorem recordAll_custody {j : Job} {c : CustodyCtx} (hc : j.ctx = .custody c) (held : List Block) : s.recordAll j held = j := by
  have hrecord : ∀ res, s.record j res = j := fun res => by
    unfold State.record
    rw [hc]
  induction held with
  | nil => rfl
  | cons res held ih => rw [recordAll_cons, hrecord, ih]

theorem grantResults_single {g : Grant} (j : Job) (hsize : g.size = 1) (hheld : g.held = []) :
    s.grantResults j g = [g.work.result] := by
  simp [State.grantResults, hsize, hheld, State.passes]

section OnePass

variable {g : Grant} {j : Job} {c : CustodyCtx} {cer : Ceremony} (hctx : j.ctx = .custody c) (hc : j.cancelPending = false)
  (hsize : g.size = 1) (hheld : g.held = []) (hwork : g.work = s.passInput j) (hcer : s.ceremony = some cer)
include hctx hc hsize hheld hwork hcer

theorem moveJob_component (hd : c.due = .component) :
    s.moveJob j g = s.endComponentPass j c cer (encipher c.value 0) := by
  have hresult : g.work.result = encipher c.value 0 := by
    rw [hwork, State.passInput, hctx]
    dsimp only
    rw [State.custodyPass, hd]
    rfl
  rw [moveJob_custody hc (by rw [recordAll_custody hctx]; exact hctx), recordAll_custody hctx,
    grantResults_single j hsize hheld, hresult, State.moveCustody, hcer]
  dsimp only
  rw [hd]
  rfl

theorem moveJob_combination (hd : c.due = .combination) :
    s.moveJob j g = s.endCombinationPass j c cer (encipher cer.running 0) := by
  have hresult : g.work.result = encipher cer.running 0 := by
    rw [hwork, State.passInput, hctx]
    dsimp only
    rw [State.custodyPass, hd]
    dsimp only
    rw [hcer]
    rfl
  rw [moveJob_custody hc (by rw [recordAll_custody hctx]; exact hctx), recordAll_custody hctx,
    grantResults_single j hsize hheld, hresult, State.moveCustody, hcer]
  dsimp only
  rw [hd]
  rfl

end OnePass

/-- The CUSTODY job gone with its responses (R98). -/
def State.custodyGone (s : State) (slot : Nat) (rs : List Response) : State :=
  ((s.setPort .cp { s.port .cp with
    reserved := (s.port .cp).reserved - rs.length, occupied := (s.port .cp).occupied ++ rs }).setJob slot none).setLive .cp
      ((s.liveOf .cp).filter (· != slot))

theorem endJob_custodyAnswered {e : EndPlan} {j : Job} {c : CustodyCtx} {slot : Nat} (hj : s.job slot = some j)
    (ho : j.owner = .cp)
    (hctx : j.ctx = .custody c) (hoffers : e.offers = true) (hroom : e.answers.length ≤ (s.port .cp).reserved) :
    s.endJob e slot = (s.custodyGone slot e.answers).afterFree e.now slot .cp := by
  rw [endJob_custodyGone hj hoffers hctx, ho, respondAll_reserved s .cp _ hroom]
  rfl

section CustodyGone

variable (s) (slot : Nat) (rs : List Response)

theorem requests_custodyGone (p : Port) : ((s.custodyGone slot rs).port p).requests = (s.port p).requests := by
  unfold State.custodyGone
  rw [State.port_setLive, State.port_setJob]
  by_cases h : p = .cp
  · subst h
    rw [State.port_setPort_same]
  · rw [State.port_setPort_ne _ _ h]

end CustodyGone

/-- The end of the CUSTODY job where no head waits: the offer of slot 15 changes nothing. -/
theorem afterFree_custodyGone {slot : Nat} {now : Bool} {rs : List Response} (h15 : slot = 15) :
    ∃ tries, (s.custodyGone slot rs).afterFree now slot .cp = { s.custodyGone slot rs with tries := tries } :=
  afterFree_noWaiters now slot .cp (.inr (Nat.le_of_eq h15.symm))

/-- A head that waits for slot 15 is listed when the slot comes free (R89). -/
theorem afterFree_slot15 {now : Bool} (hwait : (s.port .cp).wait = .slot15) : s.afterFree now 15 .cp = s.addTry .cp := by
  have hlisted : s.addTryIf .cp .slot15 = s.addTry .cp := if_pos hwait
  have hge : ¬ 15 < Config.lineSlots := by decide
  have hother : ∀ w, w ≠ .slot15 → (s.addTry .cp).addTryIf .cp w = s.addTry .cp := fun w hw =>
    if_neg (by rw [State.port_addTry, hwait]; exact hw.symm)
  unfold State.afterFree
  dsimp only
  rw [if_neg hge, hlisted, hother _ (by simp), hother _ (by simp)]

/-! ### COMPONENT (R48, R49) -/

theorem endComponentPass_short {j : Job} {c : CustodyCtx} {cer : Ceremony} {res : Block}
    (h : cer.received.length + 1 < cer.required) : s.endComponentPass j c cer res =
      (s.setCeremony (cer.join c.custodian (firstThree res) c.value)).endJob
        (componentPlan j.tag (componentDone c.custodian (firstThree res) (cer.received.length + 1) cer.required .none 0)) 15 := by
  have hlen : (cer.join c.custodian (firstThree res) c.value).received.length = cer.received.length + 1 := by
    simp [Ceremony.join]
  unfold State.endComponentPass
  dsimp only
  rw [hlen]
  exact if_pos h

theorem endComponentPass_full {j : Job} {c : CustodyCtx} {cer : Ceremony} {res : Block}
    (h : cer.required ≤ cer.received.length + 1) : s.endComponentPass j c cer res =
      (s.setCeremony { cer.join c.custodian (firstThree res) c.value with combining := true }).setJob 15
        (some { j with state := .waiting, ctx := .custody { c with due := .combination } }) := by
  have hlen : (cer.join c.custodian (firstThree res) c.value).received.length = cer.received.length + 1 := by
    simp [Ceremony.join]
  unfold State.endComponentPass
  dsimp only
  rw [hlen]
  exact if_neg (Nat.not_lt.2 h)

/-- A COMPONENT at the head that waits for slot 15 becomes the CUSTODY job (R89, R47, R51). -/
theorem tryHead_component {now : Bool} {tag : Byte} {custodian : Nat} {value : Block} {cer : Ceremony}
    (hhead : s.onlyHead .cp ⟨0x21, tag, componentBody custodian value⟩) (hcust : custodian ≤ 255) (hcer : s.ceremony = some cer)
    (hpass : firstFailure (cer.componentTests custodian value) = none) (hj : s.job 15 = none) :
    State.tryHead now .cp s = (.admitted,
      (((s.headTaken .cp).placeJob 15 (custodyJob .cp tag cer custodian value)).arbitrateIf now).addTry .cp) := by
  obtain ⟨hadm, hreq, hfree, _⟩ := hhead
  have hcommon := commonRefusal_none s .cp .component ⟨0x21, tag, componentBody custodian value⟩ rfl rfl (.inl rfl)
    (by simp [ReqKind.lengthOk, componentBody])
  have hv := admitComponent_accepts (now := now) (p := .cp) (r := ⟨0x21, tag, componentBody custodian value⟩)
    (componentFields_body hcust) hcer hpass hj
  rw [beginAdmission_onlyHead s _ _ hreq] at hv
  exact tryWith_admits hadm hreq hfree hcommon hv

/-- Settles O36: the component joins the record, which is short of m or full. -/
theorem grantEndJoinsAComponent : Obligations.GrantEndJoinsAComponent := by
  intro s g j c cer hg hslot hj ho hctx hd hc hsize hheld hwork hcer htries check joined
  have hjg : s.job g.slot = some j := by rw [hslot]; exact hj
  have hmove := moveJob_component (s := s) hctx hc hsize hheld hwork hcer hd
  refine ⟨fun hshort hroom => ?_, fun hfull hheads => ?_⟩
  · intro ended
    have hmoved : s.moveJob j g = ended.afterFree false 15 .cp := by
      rw [hmove, endComponentPass_short hshort]
      exact endJob_custodyAnswered (s := s.setCeremony joined)
        (e := componentPlan j.tag (componentDone c.custodian check (cer.received.length + 1) cer.required .none 0)) hj ho hctx rfl
        hroom
    refine ⟨fun hheads => ?_, fun tag custodian value hcomb hwait hhead h1 h15 hnew h0 hret => ?_⟩
    · obtain ⟨tries, hafter⟩ := afterFree_noWaiters (s := ended) false 15 .cp (.inr (Nat.le_refl 15))
      rw [exec_grantEnd hg hjg, hmoved, hafter, runTries_noHeads (t := ended) htries fun p => ?empty]
      case empty => exact (requests_custodyGone (s.setCeremony joined) 15 [_] p).trans (noHeads_iff.1 hheads p)
    · have hport : ∀ p, ended.port p = (s.setPort .cp { s.port .cp with
          reserved := (s.port .cp).reserved - 1
          occupied := (s.port .cp).occupied ++ [plainResponse 0x21 j.tag .done ([byte c.custodian] ++ checkBytes check ++
            [byte (cer.received.length + 1), byte cer.required, 0x00] ++ [0, 0, 0])] }).port p := fun _ => rfl
      have hcp := (hport .cp).trans (State.port_setPort_same _ _ _)
      have htry := tryHead_component (now := false) (s := ended) (cer := joined) (onlyHead_answered hroom rfl hport hhead)
        (by omega) rfl (componentTests_pass hcomb h1 h15 hnew h0 hret) (State.job_setJob_same _ _ _ (by omega))
      have hqueue : (ended.port .cp).requests ≠ [] := by
        obtain ⟨_, hreq, _⟩ := hhead
        rw [hcp]
        simp [hreq]
      have hempty : (((ended.headTaken .cp).placeJob 15 (custodyJob .cp tag joined custodian value)).port .cp).requests = [] :=
        requests_headTaken ended .cp
      rw [exec_grantEnd hg hjg, hmoved, afterFree_slot15 (by rw [hcp]; exact hwait),
        runTries_listed (s := ended) htries hqueue htry htries hempty]
      rfl
  · intro combining
    rw [exec_grantEnd hg hjg, hmove, endComponentPass_full hfull, runTries_of_tries (s := (s.setCeremony _).setJob _ _) htries]
    exact congrArg Host.Outcome.next (arbitrate_custody (s := combining) rfl (State.job_setJob_same _ _ _ (by omega)) rfl)

/-! ### The combination (R50) -/

section Result

variable {cer : Ceremony} {combined : Check}

theorem result_weak (h : cer.running = 0) : cer.result combined = .weakKey := if_pos h

theorem result_mismatch (h : cer.running ≠ 0) (he : ∃ e, cer.expected = some e ∧ e ≠ combined) :
    cer.result combined = .kcvMismatch := by
  obtain ⟨e, he, hne⟩ := he
  unfold Ceremony.result
  rw [if_neg h, he, if_pos (by simpa using hne)]

theorem result_loaded (h : cer.running ≠ 0) (he : cer.expected = none ∨ cer.expected = some combined) :
    cer.result combined = .loaded := by
  unfold Ceremony.result
  rw [if_neg h]
  rcases he with he | he <;> rw [he] <;> simp

end Result

/-- The response of a combination, by its result (R50, Figure 15). -/
def combinedResponse (tag : Byte) (c : CustodyCtx) (cer : Ceremony) (result : Combination) (combined : Check) : Response :=
  plainResponse 0x21 tag .done (componentDone c.custodian ((cer.received.getLast?.map Prod.snd).getD 0) cer.received.length
    cer.required result (if result = Combination.weakKey then 0 else combined))

/-- The end of a combination pass, by its result. -/
theorem endCombinationPass_gone {j : Job} {c : CustodyCtx} {cer : Ceremony} {res : Block} {k : KeyEntry} {result : Combination}
    (hk : s.entry cer.slot = .key k) (hresult : cer.result (firstThree res) = result) (hj : s.job 15 = some j)
    (ho : j.owner = .cp)
    (hctx : j.ctx = .custody c) (hroom : 1 ≤ (s.port .cp).reserved) :
    s.endCombinationPass j c cer res = (State.custodyGone
      { s.setEntry cer.slot (.key (k.setCell cer.cell (cer.targetCell (firstThree res)))) with ceremony := none } 15
        [combinedResponse j.tag c cer result (firstThree res)]).afterFree false 15 .cp := by
  subst hresult
  unfold State.endCombinationPass State.modCell
  dsimp only
  rw [hk]
  exact endJob_custodyAnswered (s := { s.setEntry cer.slot _ with ceremony := none }) (e := componentPlan j.tag _) hj ho hctx rfl
    hroom

theorem targetCell_loaded {cer : Ceremony} {combined : Check} (h : cer.result combined = .loaded) :
    cer.targetCell combined = ⟨.ready, some cer.running, some combined, 0⟩ := by
  unfold Ceremony.targetCell
  rw [h]

theorem targetCell_blank {cer : Ceremony} {combined : Check} {result : Combination} (h : cer.result combined = result)
    (hne : result ≠ .loaded) : cer.targetCell combined = ⟨.blank, none, none, 0⟩ := by
  unfold Ceremony.targetCell
  rw [h]
  cases result with
  | loaded => exact absurd rfl hne
  | none | weakKey | kcvMismatch => rfl

/-- Settles O37: by the running value and the expected check value. -/
theorem grantEndCombinesTheComponents : Obligations.GrantEndCombinesTheComponents := by
  intro s g j c cer k hg hslot hj ho hctx hd hc hsize hheld hwork hcer hk htries hheads hroom combined own ends
  have hjg : s.job g.slot = some j := by rw [hslot]; exact hj
  have hmove := moveJob_combination (s := s) hctx hc hsize hheld hwork hcer hd
  have ended : ∀ {result : Combination} {cell : Cell} {shown : Check}, cer.result combined = result →
      cer.targetCell combined = cell → (if result = .weakKey then 0 else combined) = shown →
      exec .grantEnd s = ends cell result.code shown := fun {result cell shown} hres hcell hshown => by
    have hend := endCombinationPass_gone hk hres hj ho hctx hroom
    obtain ⟨u, hu, huport, hutries⟩ : ∃ u : State,
        { s.setEntry cer.slot (.key (k.setCell cer.cell (cer.targetCell combined))) with ceremony := none } = u ∧
        (∀ p, u.port p = s.port p) ∧ u.tries = [] := ⟨_, rfl, fun _ => rfl, htries⟩
    rw [hu] at hend
    have hrun := runTries_listsOnly (now := false) (afterFree_custodyGone (s := u) (now := false)
      (rs := [combinedResponse j.tag c cer result combined]) rfl) hutries fun p => by
        rw [requests_custodyGone, huport]
        exact noHeads_iff.1 hheads p
    rw [exec_grantEnd hg hjg, hmove, hend, hrun, ← hu, hcell, ← hshown]
    rfl
  refine ⟨fun h0 => ?_, fun h0 he => ?_, fun h0 he => ?_⟩
  · exact ended (result := .weakKey) (result_weak h0) (targetCell_blank (result_weak h0) (by simp)) (if_pos rfl)
  · exact ended (result := .kcvMismatch) (result_mismatch h0 he) (targetCell_blank (result_mismatch h0 he) (by simp))
      (if_neg (by simp))
  · exact ended (result := .loaded) (result_loaded h0 he) (targetCell_loaded (result_loaded h0 he)) (if_neg (by simp))

/-! ### The end of a cancelled job (R96, R53, R54, R135) -/

section Cancelled

variable {slot : Nat} {j : Job}

theorem endCancelled_derive {c : DeriveCtx} (hctx : j.ctx = .derive c) : s.endCancelled slot j =
    s.endJob (cancelPlan false [plainResponse 0x01 j.tag .cancelled []]) slot := by
  unfold State.endCancelled
  rw [owed_derive hctx, hctx]

theorem endCancelled_stream {c : StreamCtx} {tag : Byte} (hctx : j.ctx = .stream c) (hclose : c.closing = some tag) :
    s.endCancelled slot j = s.endJob (cancelPlan false (closeAnswers slot j c tag)) slot := by
  unfold State.endCancelled
  rw [hctx]
  dsimp only
  rw [hclose]

theorem endCancelled_custody {c : CustodyCtx} (hctx : j.ctx = .custody c) :
    s.endCancelled slot j = s.endCancelledCustody j c := by
  unfold State.endCancelled
  rw [hctx]

end Cancelled

theorem closeCeremony_tries (s : State) (tries : List Port) :
    State.closeCeremony { s with tries := tries } = { s.closeCeremony with tries := tries } := by
  rcases Option.eq_none_or_eq_some s.ceremony with hc | ⟨c, hc⟩
  · rw [closeCeremony_none hc, closeCeremony_none (s := { s with tries := tries }) hc]
  · rw [closeCeremony_some hc, closeCeremony_some (s := { s with tries := tries }) hc]
    unfold State.modCell
    have hentry : State.entry { s with tries := tries } c.slot = s.entry c.slot := rfl
    rw [hentry]
    cases s.entry c.slot <;> rfl

section Custody

variable {j : Job} {c : CustodyCtx}

theorem endCancelledCustody_component (ha : c.abandon = none) (hd : c.due = .component) : s.endCancelledCustody j c =
    s.endJob (cancelPlan false [plainResponse 0x21 j.tag .cancelled []]) 15 := by
  unfold State.endCancelledCustody
  dsimp only
  rw [ha]
  exact if_neg (by simp [hd])

theorem endCancelledCustody_combination (ha : c.abandon = none) (hd : c.due = .combination) : s.endCancelledCustody j c =
    (s.endJob (cancelPlan false [plainResponse 0x21 j.tag .cancelled []]) 15).closeCeremony := by
  unfold State.endCancelledCustody
  dsimp only
  rw [ha]
  exact if_pos hd

theorem endCancelledCustody_abandon {tag : Byte} {cer : Ceremony} (ha : c.abandon = some tag) (hcer : s.ceremony = some cer) :
    s.endCancelledCustody j c = (s.endJob (cancelPlan false [plainResponse 0x21 j.tag .cancelled []]) 15).closeCeremony.respond
      j.owner (plainResponse 0x22 tag .done (abandonBody cer)) := by
  unfold State.endCancelledCustody
  dsimp only
  rw [ha, hcer]
  rfl

theorem respond_tries (s : State) (p : Port) (r : Response) (tries : List Port) :
    State.respond { s with tries := tries } p r = { s.respond p r with tries := tries } := by
  unfold State.respond
  dsimp only
  show (if (s.port p).reserved = 0 then _ else _) = _
  split <;> rfl

theorem custodyGone_respond {slot : Nat} {rs : List Response} {r : Response} (hroom : rs.length + 1 ≤ (s.port .cp).reserved) :
    (s.custodyGone slot rs).respond .cp r = s.custodyGone slot (rs ++ [r]) := by
  have hgone : ∀ rs : List Response, rs.length ≤ (s.port .cp).reserved →
      s.custodyGone slot rs = (s.respondAll .cp rs).freeSlot slot .cp := fun rs h => by
    rw [respondAll_reserved s .cp rs h]
    rfl
  rw [hgone rs (by omega), hgone (rs ++ [r]) (by simpa using hroom),
    respond_commute (f := fun t => t.freeSlot slot .cp) (fun _ _ => rfl) (fun _ => rfl)]
  unfold State.respondAll
  rw [List.foldl_append]
  rfl

end Custody

/-- Settles O38: by the kind of the job, and for the CUSTODY job by what cancelled it. -/
theorem grantEndOfACancelledDeriveReleases : Obligations.GrantEndOfACancelledDeriveReleases := by
  intro s g j hg hj hc htries hw hheads answered
  have hmove := moveJob_cancelled (s := s) (g := g) hc
  have hempty : ∀ p, (s.port p).requests = [] := noHeads_iff.1 hheads
  have hanswered : ∀ (t : State) rs p, ((answered t rs).port p).requests = (t.port p).requests := fun t rs p => by
    by_cases hp : p = j.owner
    · subst hp
      rw [State.port_setPort_same]
    · rw [State.port_setPort_ne _ _ hp]
  have lineEnd : ∀ {rs : List Response} {l : LinePort}, g.slot < 15 → j.owner = .line l → (∀ c, j.ctx ≠ .custody c) →
      rs.length ≤ (s.port (.line l)).reserved → s.endCancelled g.slot j = s.endJob (cancelPlan false rs) g.slot →
      exec .grantEnd s =
        .next ({ State.jobGone (answered (s.settlePosition false j) rs) g.slot j with engine := none }.arbitrate) := by
    intro rs l hline ho hctx hroom hend
    have hresp : (s.settlePosition false j).respondAll j.owner rs = answered (s.settlePosition false j) rs :=
      respondAll_reserved _ _ _ (by rw [port_settlePosition, ho]; exact hroom)
    have hgone := endJob_gone (e := cancelPlan false rs) hj rfl hctx rfl
    obtain ⟨_, _, hsettle⟩ := settlePosition_touches false s j
    have htouch : (answered (s.settlePosition false j) rs).tries = [] ∧
        (answered (s.settlePosition false j) rs).waitList = [] := by
      rw [hsettle]
      exact ⟨htries, hw⟩
    have hrun := runTries_listsOnly (now := false) (afterFree_noWaiters
      (s := State.jobGone (answered (s.settlePosition false j) rs) g.slot j) false g.slot j.owner
      (.inl ((waitList_jobGone _ _ _).trans htouch.2))) ((tries_jobGone _ _ _).trans htouch.1) fun p => by
        rw [port_jobGone, hanswered, port_settlePosition]
        exact hempty p
    rw [exec_grantEnd hg hj, hmove, hend, hgone]
    show Host.Outcome.next (State.arbitrate { State.runTries false (State.afterFree false (State.jobGone
      (State.respondAll (s.settlePosition false j) j.owner rs) g.slot j) g.slot j.owner) with engine := none }) = _
    rw [hresp, hrun]
  refine ⟨fun c l hline ho hctx hroom => ?_, fun c l tag hline ho hctx hclose => ?_, fun c hslot ho hctx => ?_⟩
  · rw [lineEnd (rs := [_]) hline ho (by simp [hctx]) hroom (endCancelled_derive hctx), settlePosition_derive _ _ hctx]
    rfl
  · intro answers hroom
    rw [lineEnd hline ho (by simp [hctx]) hroom ((endCancelled_stream hctx hclose).trans (by rw [closeAnswers_eq])),
      settlePosition_stream _ _ hctx]
  · intro ended cancelled
    have hjc : s.job 15 = some j := by rw [← hslot]; exact hj
    have hended : ∀ rs, ended rs = s.custodyGone 15 rs := fun rs => by
      show State.setLive (State.setJob (s.setPort j.owner { s.port j.owner with
        reserved := (s.port j.owner).reserved - rs.length, occupied := (s.port j.owner).occupied ++ rs }) 15 none) .cp _ = _
      rw [ho]
      rfl
    have hgone : 1 ≤ (s.port .cp).reserved → ∃ tries,
        s.endJob (cancelPlan false [cancelled]) 15 = { s.custodyGone 15 [cancelled] with tries := tries } := fun hroom => by
      rw [endJob_custodyAnswered (e := cancelPlan false [cancelled]) hjc ho hctx rfl hroom]
      exact afterFree_custodyGone rfl
    have hend : ∀ {u t : State}, s.endCancelledCustody j c = u → (∃ tries, u = { t with tries := tries }) → t.tries = [] →
        (∀ p, (t.port p).requests = (s.port p).requests) →
        exec .grantEnd s = .next ({ t with engine := none }.arbitrate) := fun hu ht htries' hport => by
      rw [exec_grantEnd hg hj, hmove, endCancelled_custody hctx, hu,
        runTries_listsOnly ht htries' fun p => (hport p).trans (hempty p)]
    refine ⟨fun ha hroom => ⟨fun hd => ?_, fun hd => ?_⟩, fun tag cer ha hcer hroom => ?_⟩
    · rw [hended]
      exact hend (endCancelledCustody_component ha hd) (hgone hroom) htries (requests_custodyGone s 15 _)
    · obtain ⟨tries, h⟩ := hgone hroom
      rw [hended]
      refine hend (endCancelledCustody_combination ha hd) ⟨tries, by rw [h, closeCeremony_tries]⟩
        ((tries_closeCeremony _).trans htries) fun p => ?_
      rw [port_closeCeremony, requests_custodyGone]
    · obtain ⟨tries, h⟩ := hgone (by omega)
      rw [hended]
      refine hend (endCancelledCustody_abandon ha hcer) ⟨tries, ?_⟩ ((tries_closeCeremony _).trans htries) fun p => ?_
      · rw [h, closeCeremony_tries, respond_tries, ho,
          respond_commute (fun t u => closeCeremony_setPort t .cp u) (fun t => port_closeCeremony t .cp),
          custodyGone_respond (rs := [cancelled]) hroom]
        rfl
      · rw [port_closeCeremony, requests_custodyGone]

end Sys2Proof.Machine
end

/-! PROOF. The power-up sweep of a good store, and the read-back attempts that end a zeroisation (R161, R163, R168). -/

section
namespace Sys2Proof.Machine

variable {s : State}

/-! ### Notices raised one after the other (R152) -/

/-- Notices raised in order into a list. -/
def raiseAll (xs ns : List Notice) : List Notice := xs.foldl (fun ns x => raiseIn x.key x.content ns) ns

theorem raiseAll_append (xs ys ns : List Notice) : raiseAll (xs ++ ys) ns = raiseAll ys (raiseAll xs ns) := List.foldl_append

theorem raiseIn_new {k : NoticeKey} {content : Nat} {ns : List Notice} (h : k ∉ ns.map Notice.key) :
    raiseIn k content ns = ns ++ [⟨k, content⟩] := by
  have hnone : ns.any (·.key == k) = false := by
    rw [Bool.eq_false_iff]
    intro hany
    obtain ⟨n, hn, hk⟩ := List.any_eq_true.1 hany
    exact h (List.mem_map.2 ⟨n, hn, by simpa using hk⟩)
  unfold raiseIn
  rw [hnone]
  rfl

/-- Notices of kinds and subjects that are all new join the tail. -/
theorem raiseAll_new {xs ns : List Notice} (h : ((ns ++ xs).map Notice.key).Nodup) : raiseAll xs ns = ns ++ xs := by
  induction xs generalizing ns with
  | nil => exact (List.append_nil ns).symm
  | cons x xs ih =>
    have hsplit : ns ++ x :: xs = (ns ++ [x]) ++ xs := by simp
    have hnew : x.key ∉ ns.map Notice.key := by
      rw [List.map_append, List.nodup_append] at h
      obtain ⟨_, _, hdisjoint⟩ := h
      exact fun hmem => hdisjoint _ hmem x.key (by simp) rfl
    show raiseAll xs (raiseIn x.key x.content ns) = _
    rw [raiseIn_new hnew, hsplit]
    exact ih (by rw [← hsplit]; exact h)

theorem noticeSwept_eq (s : State) : s.noticeSwept = { s with
    notices := raiseAll (((List.range 32).filter fun n => (s.batch n).state == .closing).map fun n => ⟨.batchClosed n, 0⟩)
      s.notices } := by
  have h : ∀ (xs : List Nat) (t : State),
      xs.foldl (fun t n => if (s.batch n).state = .closing then t.notice (.batchClosed n) 0 else t) t = { t with
        notices := raiseAll ((xs.filter fun n => (s.batch n).state == .closing).map
          fun n => ⟨.batchClosed n, 0⟩) t.notices } := by
    intro xs
    induction xs with
    | nil => exact fun t => rfl
    | cons n xs ih =>
      intro t
      rw [List.foldl_cons]
      by_cases hc : (s.batch n).state = .closing
      · rw [if_pos hc, ih, List.filter_cons_of_pos (by simpa using hc)]
        rfl
      · rw [if_neg hc, ih, List.filter_cons_of_neg (by simpa using hc)]
  exact h _ s

/-! ### Steps 3 to 5 of the sweep (R168) -/

theorem takeHeld_noEvents {c : SweepCause} (h : s.eventsHeld c = false) : s.takeHeld c = s := by
  obtain ⟨hheld, hlines⟩ : s.heldTamper = [] ∧ (c = .storeLost → s.anyLineActive = false) := by
    unfold State.eventsHeld at h
    simp only [Bool.or_eq_false_iff, Bool.not_eq_false', List.isEmpty_iff] at h
    refine ⟨h.1, fun hc => ?_⟩
    subst hc
    exact h.2
  have hsame : { s with heldTamper := [] } = s := by rw [← hheld]
  cases c with
  | power | resetLine =>
    unfold State.takeHeld
    dsimp only
    rw [hheld]
    exact hsame
  | storeLost =>
    have hactive : allTamperLines.filter s.tamperPins.get = [] := by
      rw [List.filter_eq_nil_iff]
      intro l hl hget
      have hany : s.anyLineActive = true := List.any_eq_true.2 ⟨l, hl, hget⟩
      rw [hlines rfl] at hany
      cases hany
    unfold State.takeHeld
    dsimp only
    rw [hactive, hheld]
    exact hsame

/-- The state after step 5 of the sweep, with no head to try; `finishSweep_noHeads` ties it to the model. -/
def State.afterStepFive (s : State) (c : SweepCause) : State :=
  { s.powerUpValues with sweep := .idle, tries := [] }.notice .restarted c.code

theorem afterStepFive_touches (s : State) (c : SweepCause) : ∃ notices, s.afterStepFive c = { s with
    notices := notices, sweep := .idle, tries := []
    keys := mapVector Entry.swept s.keys, batches := mapVector Batch.afterSweep s.batches, ceremony := none
    slots := Vector.replicate 16 none, live := ⟨[], [], [], [], []⟩, waitList := [], engine := none, pointer := .l0
    deficits := ⟨0, 0, 0, 0⟩, seqs := Vector.replicate 15 0 } := by
  unfold State.afterStepFive State.powerUpValues
  rw [noticeSwept_eq]
  exact ⟨_, rfl⟩

theorem eventsHeld_congr {t : State} (c : SweepCause) (hheld : t.heldTamper = s.heldTamper)
    (hpins : t.tamperPins = s.tamperPins) :
    t.eventsHeld c = s.eventsHeld c := by
  unfold State.eventsHeld State.anyLineActive
  rw [hheld, hpins]

theorem finishSweep_noHeads (c : SweepCause) (hheads : ∀ p, (s.port p).requests = []) :
    s.finishSweep c =
      if (s.afterStepFive c).batteryBelow && (s.afterStepFive c).eventsHeld c then
        if Config.batteryNoticeFirst (s.afterStepFive c).choices then
          State.takeHeld c (State.measureBattery { s.afterStepFive c with choices := (s.afterStepFive c).choices + 1 })
        else State.measureBattery (State.takeHeld c { s.afterStepFive c with choices := (s.afterStepFive c).choices + 1 })
      else (s.afterStepFive c).measureBattery.takeHeld c := by
  obtain ⟨u, hu⟩ : ∃ u, { s.powerUpValues with sweep := .idle }.notice .restarted c.code = u := ⟨_, rfl⟩
  have huport : ∀ p, (u.port p).requests = [] := by
    intro p
    rw [← hu]
    unfold State.powerUpValues
    rw [noticeSwept_eq]
    exact hheads p
  have htries : State.runTries true (u.addTries allPorts) = { u with tries := [] } := by
    rw [runTries_done true _ (triesDue_of_noHeads fun p => by rw [requests_addTries]; exact huport p)]
    obtain ⟨tries, ht⟩ := addTries_touches allPorts u
    rw [ht]
  have hover : { u with tries := [] } = s.afterStepFive c := by
    rw [← hu]
    rfl
  unfold State.finishSweep
  dsimp only
  rw [hu, htries, hover]

/-- What steps 3 to 5 of the sweep and the measurement of the battery leave, with no head and no tamper event;
`finishSweep_noEvents` ties it to the model. -/
def State.sweptOut (s : State) (c : SweepCause) : State := (s.afterStepFive c).measureBattery

theorem sweptOut_touches (s : State) (c : SweepCause) : ∃ battery notices, s.sweptOut c = { s with
    battery := battery, notices := notices, sweep := .idle, tries := []
    keys := mapVector Entry.swept s.keys, batches := mapVector Batch.afterSweep s.batches, ceremony := none
    slots := Vector.replicate 16 none, live := ⟨[], [], [], [], []⟩, waitList := [], engine := none, pointer := .l0
    deficits := ⟨0, 0, 0, 0⟩, seqs := Vector.replicate 15 0 } := by
  obtain ⟨battery, notices, h⟩ := measureBattery_touches (s.afterStepFive c)
  obtain ⟨_, hover⟩ := afterStepFive_touches s c
  exact ⟨battery, notices, by rw [State.sweptOut, h, hover]⟩

theorem finishSweep_noEvents {c : SweepCause} (hheads : ∀ p, (s.port p).requests = []) (h : s.eventsHeld c = false) :
    s.finishSweep c = s.sweptOut c := by
  obtain ⟨_, hover⟩ := afterStepFive_touches s c
  obtain ⟨_, _, hout⟩ := sweptOut_touches s c
  have hevents : (s.afterStepFive c).eventsHeld c = false := (eventsHeld_congr c (by rw [hover]) (by rw [hover])).trans h
  have hlast : (s.sweptOut c).eventsHeld c = false := (eventsHeld_congr c (by rw [hout]) (by rw [hout])).trans h
  rw [finishSweep_noHeads c hheads, hevents, Bool.and_false, if_neg (by simp)]
  exact takeHeld_noEvents hlast

theorem battery_sweptOut (s : State) (c : SweepCause) : (s.sweptOut c).battery = if s.batteryBelow then .low else .good := by
  obtain ⟨_, h⟩ := afterStepFive_touches s c
  rw [State.sweptOut, measureBattery_battery, h]

theorem notices_sweptOut {c : SweepCause} (hgood : s.battery = .good) :
    (s.sweptOut c).notices = raiseAll (s.sweepNotices c) s.notices := by
  obtain ⟨_, h⟩ := afterStepFive_touches s c
  have hbelow : (s.afterStepFive c).batteryBelow = s.batteryBelow := by rw [h]
  have hbattery : (s.afterStepFive c).battery = .good := by rw [h]; exact hgood
  have hnotices : (s.afterStepFive c).notices =
      raiseAll ((((List.range 32).filter fun n => (s.batch n).state == .closing).map fun n => ⟨.batchClosed n, 0⟩) ++
        [⟨.restarted, c.code⟩]) s.notices := by
    rw [raiseAll_append]
    unfold State.afterStepFive State.powerUpValues
    rw [noticeSwept_eq]
    rfl
  unfold State.sweptOut State.measureBattery State.sweepNotices
  rw [hbelow, hbattery, raiseAll_append, ← hnotices]
  cases s.batteryBelow <;> rfl

theorem entry_sweptOut (s : State) (c : SweepCause) (n : Nat) : (s.sweptOut c).entry n = (s.entry n).swept := by
  obtain ⟨_, _, h⟩ := sweptOut_touches s c
  exact entry_swept (by rw [h]) n

theorem batch_sweptOut (s : State) (c : SweepCause) (n : Nat) : (s.sweptOut c).batch n = (s.batch n).afterSweep := by
  obtain ⟨_, _, h⟩ := sweptOut_touches s c
  exact batch_afterSweep (by rw [h]) n

/-- A cell after the sweep, as R21 writes it. -/
theorem sweptCell_fields (x : Cell) : sweptCell x =
    if x.state = .forming then ⟨.blank, none, none, 0⟩
    else { x with state := if x.state = .draining then .ready else x.state, inFlight := 0 } := by
  unfold sweptCell
  cases x.state <;> simp [blankCell]

theorem sweptPos_fields (x : PosState) :
    sweptPos x = if x = .reservedFresh then .fresh else if x = .reservedSpoilt then .spoilt else x := by cases x <;> rfl

/-- What the sweep leaves of a state with the same tables, record and battery level (R168). -/
theorem sweptOver_sweptOut {u : State} {c : SweepCause} (hkeys : u.keys = s.keys) (hbatches : u.batches = s.batches)
    (hbindings : u.bindings = s.bindings) (hcauses : u.causes = s.causes) (hfirst : u.firstCause = s.firstCause)
    (hbattery : u.batteryBelow = s.batteryBelow) : SweptOver s (u.sweptOut c) := by
  have hentry : ∀ n, u.entry n = s.entry n := fun n => by unfold State.entry; rw [hkeys]
  have hbatch : ∀ n, u.batch n = s.batch n := fun n => by unfold State.batch; rw [hbatches]
  obtain ⟨_, _, h⟩ := sweptOut_touches u c
  refine ⟨by rw [h], fun n => ?_, fun n => ?_, fun n => vector_replicate_job (by rw [h]) n, fun p => liveOf_empty (by rw [h]) p,
    by rw [h], by rw [h], by rw [h], fun l => deficit_zero (by rw [h]) l, fun n => ?_, by rw [h], by rw [h]; exact hbindings,
    by rw [h]; exact hcauses, by rw [h]; exact hfirst, by rw [battery_sweptOut, hbattery]⟩
  · rw [entry_sweptOut, hentry]
    cases s.entry n with
    | key k => simp only [Entry.swept, sweptCell_fields]
    | empty | gate => rfl
  · rw [batch_sweptOut, hbatch, afterSweep_fields, funext sweptPos_fields]
  · rw [h]
    unfold State.seq
    split
    · simp
    · rfl

/-! ### POWER_UP_SWEEP with a good store (R168) -/

theorem exec_powerUpSweep {c : SweepCause} (h : s.sweep = .running c) : exec .powerUpSweep s = .next (s.runSweep c) := by
  show Host.Outcome.next (match s.sweep with | .running c => s.runSweep c | _ => s) = _
  rw [h]

theorem sweepNotices_nodup (s : State) (c : SweepCause) : ((s.sweepNotices c).map Notice.key).Nodup := by
  have hclosed : ((((List.range 32).filter fun n => (s.batch n).state == .closing).map fun n =>
      (⟨.batchClosed n, 0⟩ : Notice)).map Notice.key).Nodup := by
    rw [List.map_map]
    exact (List.nodup_range.filter _).map fun a b hab => by simpa using hab
  have hnew : ∀ xs : List Notice, (∀ x ∈ xs, ∀ n, x.key ≠ .batchClosed n) →
      ∀ a ∈ (((List.range 32).filter fun n => (s.batch n).state == .closing).map fun n =>
        (⟨.batchClosed n, 0⟩ : Notice)).map Notice.key, ∀ b ∈ xs.map Notice.key, a ≠ b := by
    rintro xs hxs a ha b hb rfl
    obtain ⟨x, hx, rfl⟩ := List.mem_map.1 hb
    obtain ⟨y, hy, hkey⟩ := List.mem_map.1 ha
    obtain ⟨n, _, rfl⟩ := List.mem_map.1 hy
    exact hxs x hx n hkey.symm
  unfold State.sweepNotices
  cases s.batteryBelow
  · rw [if_neg (by simp), List.append_nil, List.map_append, List.nodup_append]
    exact ⟨hclosed, by simp, hnew [_] fun x hx => by rw [List.mem_singleton.1 hx]; simp⟩
  · rw [if_pos rfl, List.append_assoc, List.map_append, List.nodup_append]
    exact ⟨hclosed, by simp, hnew [_, _] fun x hx => by rcases List.mem_pair.1 hx with rfl | rfl <;> simp⟩

theorem eventsHeld_none {c : SweepCause} (hc : c ≠ .storeLost) (h : s.heldTamper = []) : s.eventsHeld c = false := by
  unfold State.eventsHeld
  rw [h]
  cases c with
  | storeLost => exact absurd rfl hc
  | power | resetLine => rfl

theorem suspend_fields (b : Batch) : b.suspend =
    { b with state := if b.state = .opened ∨ b.state = .paused then .suspended else b.state } := by
  unfold Batch.suspend
  split <;> rfl

/-- Settles O46: the sweep's values, or the zeroisation begun again. -/
theorem sweepPutsAGoodStoreRight : Obligations.SweepPutsAGoodStoreRight := by
  intro s c hsweep hcause hgood htries hheads hheld
  have hc : c ≠ .storeLost := by rintro rfl; simp at hcause
  have hrun : s.runSweep c = if s.zeroisePending then
      { s.sweepStart.startZeroisation.suspendBatches.clearCells with sweep := .clearing c } else s.sweepStart.finishSweep c := by
    unfold State.runSweep
    exact if_neg (by show ¬ ¬ s.markerGood = true; simp [hgood])
  rw [exec_powerUpSweep hsweep, hrun]
  refine ⟨fun hzero _ => ?_, fun hzero => ?_⟩
  · have hfinish := finishSweep_noEvents (s := s.sweepStart) (c := c) (noHeads_iff.1 hheads) (eventsHeld_none hc hheld)
    obtain ⟨_, _, htouch⟩ := sweptOut_touches s.sweepStart c
    rw [hzero, if_neg (by simp), hfinish]
    refine ⟨_, rfl, sweptOver_sweptOut rfl rfl rfl rfl rfl rfl, by rw [htouch]; rfl, ?_⟩
    exact (notices_sweptOut (s := s.sweepStart) rfl).trans (raiseAll_new (sweepNotices_nodup s.sweepStart c))
  · rw [hzero, if_pos rfl]
    refine ⟨_, rfl, ?_, fun n => entry_clearCells _ n, fun n => ?_⟩
    · rfl
    · exact (batch_suspendBatches s.sweepStart.startZeroisation n).trans (suspend_fields _)

end Sys2Proof.Machine
end

/-! PROOF. The sweep of a lost store (R170), and the read-back attempts that end a zeroisation (R161, R163, R168). -/

section
namespace Sys2Proof.Machine

variable {s : State}

/-! ### The sweep of a lost store (R170) -/

/-- The tables as a store-loss sweep leaves them, whatever events follow it. -/
structure State.Emptied (s : State) : Prop where
  jobs : ∀ n, s.job n = none
  ceremony : s.ceremony = none
  entries : ∀ n, s.entry n = .empty
  batches : ∀ n, s.batch n = unusedBatch
  marker : s.markerGood = true
  bindings : s.bindings = ⟨defaultBinding, defaultBinding, defaultBinding, defaultBinding⟩

theorem State.Emptied.withChoices (h : s.Emptied) (k : Nat) : State.Emptied { s with choices := k } :=
  ⟨h.jobs, h.ceremony, h.entries, h.batches, h.marker, h.bindings⟩

theorem tamperJobs_without_jobs (h : ∀ n, s.job n = none) : s.tamperJobs = s := by
  unfold State.tamperJobs
  generalize List.range 16 = ns
  induction ns with
  | nil => rfl
  | cons n ns ih => rw [List.foldl_cons, tamperJob_free (h n), ih]

theorem State.Emptied.suspended (h : s.Emptied) : s.suspendBatches.clearCells.Emptied := by
  refine ⟨h.jobs, h.ceremony, fun n => ?_, fun n => ?_, h.marker, h.bindings⟩
  · rw [entry_clearCells]
    exact congrArg Entry.zeroised (h.entries n)
  · show s.suspendBatches.batch n = _
    rw [batch_suspendBatches, h.batches]
    rfl

theorem State.Emptied.enterZeroising (h : s.Emptied) : s.enterZeroising.Emptied := by
  have hstart : s.startZeroisation.Emptied := ⟨h.jobs, h.ceremony, h.entries, h.batches, h.marker, h.bindings⟩
  unfold State.enterZeroising
  dsimp only
  split
  · have hclear : s.startZeroisation.clearEngine.Emptied := ⟨h.jobs, h.ceremony, h.entries, h.batches, h.marker, h.bindings⟩
    rw [tamperJobs_without_jobs hstart.jobs, closeCeremony_none hclear.ceremony]
    exact hclear.suspended
  · exact hstart.suspended

theorem State.Emptied.tamperNotice (h : s.Emptied) (l : TamperLine) : (s.tamperNotice l).Emptied := by
  unfold State.tamperNotice
  split
  · exact ⟨h.jobs, h.ceremony, h.entries, h.batches, h.marker, h.bindings⟩
  · exact h

theorem State.Emptied.takeTamper (h : s.Emptied) (l : TamperLine) : (s.takeTamper l).Emptied := by
  have hcause : (s.addCause (.line l)).Emptied := ⟨h.jobs, h.ceremony, h.entries, h.batches, h.marker, h.bindings⟩
  have hchoice := hcause.withChoices (s.choices + 1)
  unfold State.takeTamper
  dsimp only
  split
  · split
    · split
      · exact (hchoice.tamperNotice l).enterZeroising
      · exact hchoice.enterZeroising.tamperNotice l
    · exact (hcause.tamperNotice l).enterZeroising
  · exact hcause.tamperNotice l

theorem State.Emptied.takeTampers (ls : List TamperLine) (h : s.Emptied) : (s.takeTampers ls).Emptied := by
  induction ls generalizing s with
  | nil => exact h
  | cons l ls ih => exact ih (h.takeTamper l)

theorem State.Emptied.takeInSomeOrder (n : Nat) (ls : List TamperLine) (h : s.Emptied) :
    (State.takeInSomeOrder n ls s).Emptied := by
  induction n generalizing s ls with
  | zero => exact h
  | succ n ih =>
    match ls with
    | [] => exact h
    | [l] => exact h.takeTamper l
    | l :: m :: ls =>
      exact ih _ ((h.withChoices (s.choices + 1)).takeTamper _)

theorem State.Emptied.takeHeld (h : s.Emptied) (c : SweepCause) : (s.takeHeld c).Emptied := by
  have hheld : State.Emptied { s with heldTamper := [] } := ⟨h.jobs, h.ceremony, h.entries, h.batches, h.marker, h.bindings⟩
  cases c with
  | storeLost => exact hheld.takeInSomeOrder _ _
  | power | resetLine => exact hheld.takeTampers _

theorem State.Emptied.measureBattery (h : s.Emptied) : s.measureBattery.Emptied := by
  obtain ⟨_, _, ht⟩ := measureBattery_touches s
  rw [ht]
  exact ⟨h.jobs, h.ceremony, h.entries, h.batches, h.marker, h.bindings⟩

theorem emptied_afterStepFive (c : SweepCause) : (s.storeLossValues.afterStepFive c).Emptied := by
  obtain ⟨_, h⟩ := afterStepFive_touches s.storeLossValues c
  refine ⟨fun n => vector_replicate_job (by rw [h]) n, by rw [h], fun n => ?_, fun n => ?_, by rw [h]; rfl, by rw [h]; rfl⟩
  · exact (entry_swept (s := s.storeLossValues) (by rw [h]) n).trans (swept_empty (s := s.storeLossValues) rfl n)
  · rw [batch_afterSweep (s := s.storeLossValues) (by rw [h]) n, batch_emptied (s := s.storeLossValues) rfl rfl n]
    exact unusedBatch_afterSweep

/-- The store-loss sweep empties the tables, whatever tamper events wait for its end. -/
theorem emptied_finishSweep (c : SweepCause) (hheads : ∀ p, (s.port p).requests = []) :
    (s.storeLossValues.finishSweep c).Emptied := by
  have h := emptied_afterStepFive (s := s) c
  have hchoice := h.withChoices ((s.storeLossValues.afterStepFive c).choices + 1)
  rw [finishSweep_noHeads (s := s.storeLossValues) c hheads]
  split
  · split
    · exact hchoice.measureBattery.takeHeld c
    · exact (hchoice.takeHeld c).measureBattery
  · exact h.measureBattery.takeHeld c

theorem runSweep_storeLost {c : SweepCause} (h : s.markerGood = false) :
    s.runSweep c = s.sweepStart.storeLossValues.finishSweep .storeLost := by
  unfold State.runSweep
  exact if_pos (by show ¬ s.markerGood = true; simp [h])

/-- Settles O47: the tables empty in every case, and the record and the notices where no tamper event waits. -/
theorem storeLossEmptiesTheTables : Obligations.StoreLossEmptiesTheTables := by
  intro s c hsweep hbad hheads
  have hempty : ∀ p, (s.sweepStart.storeLossValues.port p).requests = [] := noHeads_iff.1 hheads
  have h := emptied_finishSweep (s := s.sweepStart) .storeLost (noHeads_iff.1 hheads)
  rw [exec_powerUpSweep hsweep, runSweep_storeLost hbad]
  refine ⟨_, rfl, h.entries, h.batches, h.marker, fun l => ?_, fun hlines hheld => ?_⟩
  · unfold State.binding
    rw [h.bindings]
    cases l <;> rfl
  · have hinactive : s.anyLineActive = false := Bool.eq_false_iff.2 fun hany => by
      obtain ⟨l, hl⟩ := anyLineActive_iff.1 hany
      simp [hlines l] at hl
    have hevents : s.sweepStart.storeLossValues.eventsHeld .storeLost = false := by
      refine (eventsHeld_congr (s := s) (t := s.sweepStart.storeLossValues) .storeLost rfl rfl).trans ?_
      unfold State.eventsHeld
      rw [hheld, hinactive]
      rfl
    obtain ⟨_, _, hout⟩ := sweptOut_touches s.sweepStart.storeLossValues .storeLost
    have hnotices := notices_sweptOut (s := s.sweepStart.storeLossValues) (c := .storeLost) rfl
    rw [finishSweep_noEvents hempty hevents]
    refine ⟨by rw [hout]; rfl, by rw [hout]; rfl, by rw [hout]; rfl, by rw [hout]; rfl, by rw [hout]; rfl, by rw [hout], ?_⟩
    have hnone : ((List.range 32).filter fun n => (s.sweepStart.storeLossValues.batch n).state == .closing) = [] := by
      rw [List.filter_eq_nil_iff]
      intro n _
      rw [batch_emptied (s := s.sweepStart.storeLossValues) rfl rfl n]
      decide
    refine (hnotices.trans (raiseAll_new (ns := []) (sweepNotices_nodup _ _))).trans ?_
    rw [State.sweepNotices, hnone]
    rfl

/-! ### Read-back attempts (R161, R163, R164, R168) -/

section ReadBack

variable {n : Nat} (hz : s.zeroRun = some n)
include hz

theorem exec_readBack_passed : exec (.readBackAttemptEnd true) s = .next (s.passReadBack (n + 1)) := by
  show Host.Outcome.next (match s.zeroRun with | none => s | some made => _) = _
  rw [hz]
  rfl

theorem exec_readBack_counted (h : n + 1 < 3) :
    exec (.readBackAttemptEnd false) s = .next { s.clearCells with zeroRun := some (n + 1) } := by
  have hlt : n + 1 < Config.maxAttempts := h
  show Host.Outcome.next (match s.zeroRun with | none => s | some made => _) = _
  rw [hz]
  dsimp only
  rw [if_neg (by simp), if_pos hlt]

theorem exec_readBack_failed (h : 3 ≤ n + 1) : exec (.readBackAttemptEnd false) s = .next (s.failZeroisation (n + 1)) := by
  have hge : ¬ n + 1 < Config.maxAttempts := Nat.not_lt.2 h
  show Host.Outcome.next (match s.zeroRun with | none => s | some made => _) = _
  rw [hz]
  dsimp only
  rw [if_neg (by simp), if_neg hge]

end ReadBack

section AfterZeroisation

theorem afterZeroisation_idle (h : s.sweep = .idle) (ht : s.tries = []) (hheads : ∀ p, (s.port p).requests = []) :
    s.afterZeroisation = s := by
  unfold State.afterZeroisation
  rw [h]
  dsimp only
  split
  · exact runTries_listsOnly (addTries_touches allPorts s) ht hheads
  · rfl

theorem afterZeroisation_due {c : SweepCause} (h : s.sweep = .due c) :
    s.afterZeroisation = { s with sweep := .running c, mode := storedMode s.mode } := by
  unfold State.afterZeroisation
  rw [h]

theorem afterZeroisation_clearing {c : SweepCause} (h : s.sweep = .clearing c) : s.afterZeroisation = s.finishSweep c := by
  unfold State.afterZeroisation
  rw [h]

end AfterZeroisation

/-- The zeroisation that a passing attempt ends, and the one that a third failure ends, before the sweep goes on; alive part
(R161). -/
def State.zeroised (s : State) (passed : Bool) (n : Nat) : State :=
  if passed then
    ({ s with zeroisePending := false, mode := .lockout, zeroRun := none }.notice .zeroised 0).answerZeroiseAll .lockout n
  else { s with zeroRun := none, mode := .failed }.answerZeroiseAll .failed n

theorem passReadBack_alive (n : Nat) (h : s.alive = true) : s.passReadBack n = (s.zeroised true n).afterZeroisation := by
  unfold State.passReadBack State.zeroised
  dsimp only
  rw [if_pos h, if_pos rfl]

theorem passReadBack_off (n : Nat) (h : s.alive = false) : s.passReadBack n =
    State.afterZeroisation { s with zeroisePending := false, mode := .lockout, zeroRun := none } := by
  unfold State.passReadBack
  dsimp only
  rw [if_neg (by simp [h])]

theorem failZeroisation_alive (n : Nat) (h : s.alive = true) : s.failZeroisation n = (s.zeroised false n).afterZeroisation := by
  unfold State.failZeroisation State.zeroised
  dsimp only
  rw [if_pos h, if_neg (by simp)]

theorem failZeroisation_off (n : Nat) (h : s.alive = false) : s.failZeroisation n =
    State.afterZeroisation { s with zeroRun := none } := by
  unfold State.failZeroisation
  dsimp only
  rw [if_neg (by simp [h])]

/-- The answer of the ZEROISE-ALL that started the zeroisation touches its port and its tag alone (R159). -/
theorem answerZeroiseAll_eq (m : PartMode) (n : Nat) (hroom : s.zeroTag.isSome → 1 ≤ (s.port .cp).reserved) :
    s.answerZeroiseAll m n = match s.zeroTag with
      | none => s
      | some tag => { s.setPort .cp { s.port .cp with
          reserved := (s.port .cp).reserved - 1
          occupied := (s.port .cp).occupied ++ [plainResponse 0x30 tag .done [m.code, byte n]] } with zeroTag := none } := by
  unfold State.answerZeroiseAll
  cases hz : s.zeroTag with
  | none => rfl
  | some tag =>
    dsimp only
    rw [respond_reserved s .cp _ (hroom (by simp [hz]))]
    rfl

theorem answerZeroiseAll_touches (m : PartMode) (n : Nat) (hroom : s.zeroTag.isSome → 1 ≤ (s.port .cp).reserved) :
    (∃ ports zeroTag, s.answerZeroiseAll m n = { s with ports := ports, zeroTag := zeroTag }) ∧
    ∀ p, ((s.answerZeroiseAll m n).port p).requests = (s.port p).requests := by
  rw [answerZeroiseAll_eq m n hroom]
  split
  · exact ⟨⟨s.ports, s.zeroTag, rfl⟩, fun _ => rfl⟩
  · refine ⟨⟨_, _, rfl⟩, fun p => ?_⟩
    show ((s.setPort .cp _).port p).requests = _
    by_cases hp : p = .cp
    · subst hp
      rw [State.port_setPort_same]
    · rw [State.port_setPort_ne _ _ hp]

/-- The state that the end of a zeroisation leaves, at work: its record, mode and notices, and nothing else but the answer. -/
theorem zeroised_touches (passed : Bool) (n : Nat) (hroom : s.zeroTag.isSome → 1 ≤ (s.port .cp).reserved) :
    (∃ ports zeroTag, s.zeroised passed n = { s with
      ports := ports, zeroTag := zeroTag, zeroRun := none
      zeroisePending := if passed then false else s.zeroisePending, mode := if passed then .lockout else .failed
      notices := if passed then raiseIn .zeroised 0 s.notices else s.notices }) ∧
    ∀ p, ((s.zeroised passed n).port p).requests = (s.port p).requests := by
  cases passed with
  | true =>
    exact answerZeroiseAll_touches (s := { s with
      zeroisePending := false, mode := .lockout, zeroRun := none }.notice .zeroised 0) .lockout n hroom
  | false => exact answerZeroiseAll_touches (s := { s with zeroRun := none, mode := .failed }) .failed n hroom

/-- Settles O42: by the attempt, the power and the sweep. -/
theorem readBackEndsTheZeroisation : Obligations.ReadBackEndsTheZeroisation := by
  intro s n hz htries hheads answered passed failed
  have hempty : ∀ p, (s.port p).requests = [] := noHeads_iff.1 hheads
  refine ⟨exec_readBack_counted hz, fun hoff hsweep => ⟨?_, fun hm h3 => ?_⟩, fun hon hroom => ?_⟩
  · rw [exec_readBack_passed hz, passReadBack_off _ hoff,
      afterZeroisation_idle (s := { s with zeroisePending := false, mode := .lockout, zeroRun := none }) hsweep htries hempty]
  · rw [exec_readBack_failed hz h3, failZeroisation_off _ hoff,
      afterZeroisation_idle (s := { s with zeroRun := none }) hsweep htries hempty, ← hm]
  · have hpassed : s.zeroised true (n + 1) = passed := by
      have h := answerZeroiseAll_eq (s := { s with
        zeroisePending := false, mode := .lockout, zeroRun := none }.notice .zeroised 0) .lockout (n + 1) hroom
      exact h
    have hfailed : s.zeroised false (n + 1) = failed :=
      answerZeroiseAll_eq (s := { s with zeroRun := none, mode := .failed }) .failed (n + 1) hroom
    have hpass : exec (.readBackAttemptEnd true) s = .next (s.zeroised true (n + 1)).afterZeroisation := by
      rw [exec_readBack_passed hz, passReadBack_alive _ hon]
    have hfail : 3 ≤ n + 1 → exec (.readBackAttemptEnd false) s = .next (s.zeroised false (n + 1)).afterZeroisation :=
      fun h3 => by
      rw [exec_readBack_failed hz h3, failZeroisation_alive _ hon]
    have htouch := fun b => zeroised_touches (s := s) b (n + 1) hroom
    refine ⟨fun hsweep => ?_, fun c hsweep => ?_, fun c hsweep hc hheld => ?_⟩
    · have hafter : ∀ b, (s.zeroised b (n + 1)).afterZeroisation = s.zeroised b (n + 1) := fun b => by
        obtain ⟨⟨_, _, h⟩, hport⟩ := htouch b
        exact afterZeroisation_idle (by rw [h]; exact hsweep) (by rw [h]; exact htries) fun p => (hport p).trans (hempty p)
      rw [hpass, hafter, hpassed]
      exact ⟨rfl, fun h3 => by rw [hfail h3, hafter, hfailed]⟩
    · have hafter : ∀ b, (s.zeroised b (n + 1)).afterZeroisation =
          { s.zeroised b (n + 1) with sweep := .running c, mode := storedMode (s.zeroised b (n + 1)).mode } := fun b => by
        obtain ⟨⟨_, _, h⟩, _⟩ := htouch b
        exact afterZeroisation_due (by rw [h]; exact hsweep)
      obtain ⟨⟨_, _, hp⟩, _⟩ := htouch true
      obtain ⟨⟨_, _, hf⟩, _⟩ := htouch false
      rw [hpass, hafter, ← hpassed]
      refine ⟨by rw [hp]; rfl, fun h3 => ?_⟩
      rw [hfail h3, hafter, ← hfailed, hf]
      rfl
    · intro raised
      have hafter : ∀ b, (s.zeroised b (n + 1)).afterZeroisation = (s.zeroised b (n + 1)).sweptOut c := fun b => by
        obtain ⟨⟨_, _, h⟩, hport⟩ := htouch b
        rw [afterZeroisation_clearing (c := c) (by rw [h]; exact hsweep),
          finishSweep_noEvents (fun p => (hport p).trans (hempty p)) (eventsHeld_none hc (by rw [h]; exact hheld))]
      have hswept : ∀ b, SweptOver s ((s.zeroised b (n + 1)).sweptOut c) := fun b => by
        obtain ⟨⟨_, _, h⟩, _⟩ := htouch b
        exact sweptOver_sweptOut (by rw [h]) (by rw [h]) (by rw [h]) (by rw [h]) (by rw [h]) (by rw [h])
      have hnotices : s.battery = .good → ∀ b, ((s.zeroised b (n + 1)).sweptOut c).notices =
          raiseAll (s.sweepNotices c) (if b then raiseIn .zeroised 0 s.notices else s.notices) := fun hgood b => by
        obtain ⟨⟨_, _, h⟩, _⟩ := htouch b
        rw [notices_sweptOut (by rw [h]; exact hgood), h]
        rfl
      have hmode : ∀ b, ((s.zeroised b (n + 1)).sweptOut c).mode = (if b then .lockout else .failed) ∧
          ((s.zeroised b (n + 1)).sweptOut c).zeroisePending = (if b then false else s.zeroisePending) ∧
          ((s.zeroised b (n + 1)).sweptOut c).zeroRun = none := fun b => by
        obtain ⟨⟨_, _, h⟩, _⟩ := htouch b
        obtain ⟨_, _, hout⟩ := sweptOut_touches (s.zeroised b (n + 1)) c
        rw [hout, h]
        exact ⟨rfl, rfl, rfl⟩
      obtain ⟨hpm, hpz, hpr⟩ := hmode true
      obtain ⟨hfm, hfz, hfr⟩ := hmode false
      refine ⟨fun hgood => ?_, fun hgood h3 => ?_⟩
      · rw [hpass, hafter]
        exact ⟨_, rfl, hswept true, hpm, hpz, hpr, hnotices hgood true⟩
      · rw [hfail h3, hafter]
        exact ⟨_, rfl, hswept false, hfm, hfr, hfz, hnotices hgood false⟩

end Sys2Proof.Machine
end

/-! SUPPORT. The end of every job with TAMPER and the entry to ZEROISING with the part at work (R101, R160, R113, R22, R80). -/

section
namespace Sys2Proof.Machine

variable {s t : State}

/-! ### Notices that an event adds -/

/-- A notice list to which an event has added notices of its own: every notice is an old one or the event's, every kind and
subject stays, and so does every notice without content. -/
structure Raised (own : Notice → Prop) (old new : List Notice) : Prop where
  source : ∀ x ∈ new, x ∈ old ∨ own x
  keys : ∀ x ∈ old, ∃ y ∈ new, y.key = x.key
  plain : ∀ x ∈ old, x.content = 0 → x ∈ new

section Raised

variable {own : Notice → Prop} {old new ns : List Notice}

theorem Raised.refl : Raised own old old := ⟨fun _ h => .inl h, fun x h => ⟨x, h, rfl⟩, fun _ h _ => h⟩

theorem mem_raiseIn {k : NoticeKey} {content : Nat} {x : Notice} :
    x ∈ raiseIn k content old ↔ x = ⟨k, content⟩ ∨ x ∈ old ∧ x.key ≠ k := by
  unfold raiseIn
  split
  · next hany =>
    obtain ⟨n, hn, hkey⟩ := List.any_eq_true.1 hany
    rw [beq_iff_eq] at hkey
    rw [List.mem_map]
    constructor
    · rintro ⟨y, hy, rfl⟩
      by_cases h : y.key = k
      · simp [h]
      · simp [h, hy]
    · rintro (rfl | ⟨hx, hne⟩)
      · exact ⟨n, hn, by simp [hkey]⟩
      · exact ⟨x, hx, by simp [hne]⟩
  · next hnone =>
    have hne : ∀ y ∈ old, y.key ≠ k := fun y hy hkey => hnone (List.any_eq_true.2 ⟨y, hy, by simp [hkey]⟩)
    rw [List.mem_append, List.mem_singleton]
    constructor
    · rintro (h | h)
      · exact .inr ⟨h, hne x h⟩
      · exact .inl h
    · rintro (h | ⟨h, _⟩)
      · exact .inr h
      · exact .inl h

theorem Raised.raise {k : NoticeKey} (hk : own ⟨k, 0⟩) (h : Raised own old new) : Raised own old (raiseIn k 0 new) := by
  refine ⟨fun x hx => ?_, fun x hx => ?_, fun x hx h0 => ?_⟩
  · rcases mem_raiseIn.1 hx with rfl | ⟨hx, _⟩
    · exact .inr hk
    · exact h.source x hx
  · obtain ⟨y, hy, hkey⟩ := h.keys x hx
    by_cases hyk : y.key = k
    · exact ⟨⟨k, 0⟩, mem_raiseIn.2 (.inl rfl), hyk.symm.trans hkey⟩
    · exact ⟨y, mem_raiseIn.2 (.inr ⟨hy, hyk⟩), hkey⟩
  · have hx := h.plain x hx h0
    by_cases hxk : x.key = k
    · refine mem_raiseIn.2 (.inl ?_)
      cases x
      cases hxk
      cases h0
      rfl
    · exact mem_raiseIn.2 (.inr ⟨hx, hxk⟩)

theorem Raised.trans (h1 : Raised own old ns) (h2 : Raised own ns new) : Raised own old new := by
  refine ⟨fun x hx => ?_, fun x hx => ?_, fun x hx h0 => h2.plain x (h1.plain x hx h0) h0⟩
  · exact (h2.source x hx).elim (h1.source x) .inr
  · obtain ⟨y, hy, hyx⟩ := h1.keys x hx
    obtain ⟨z, hz, hzy⟩ := h2.keys y hy
    exact ⟨z, hz, hzy.trans hyx⟩

end Raised

/-! ### The batches as the jobs end -/

/-- A record some of whose reserved positions have been given back (R74): it is changed in those positions and their counts alone,
but that a CLOSING one may be CLOSED (R68). -/
structure Batch.GivesBack (b b' : Batch) : Prop where
  rest : b' = { b with state := b'.state, map := b'.map, freshRes := b'.freshRes, reissueRes := b'.reissueRes }
  state : b'.state = b.state ∨ b.state = .closing ∧ b'.state = .closed
  map : ∀ i : Nat, b'.map[i]? = b.map[i]? ∨ b.map[i]? = some .reservedFresh ∧ b'.map[i]? = some .fresh ∨
    b.map[i]? = some .reservedSpoilt ∧ b'.map[i]? = some .spoilt

theorem Batch.GivesBack.refl (b : Batch) : b.GivesBack b := ⟨rfl, .inl rfl, fun _ => .inl rfl⟩

theorem drained_rest (b : Batch) : b.drained = { b with state := b.drained.state } := by
  unfold Batch.drained
  split <;> rfl

theorem drained_state (b : Batch) : b.drained.state = b.state ∨ b.state = .closing ∧ b.drained.state = .closed := by
  unfold Batch.drained
  split
  · next h => exact .inr ⟨h.1, rfl⟩
  · exact .inl rfl

theorem givesBack_settled (b : Batch) (pos : Nat) : b.GivesBack (b.settled false pos) := by
  have given : ∀ (x y : PosState) (f r : Nat), b.map[pos]? = some x →
      (x = .reservedFresh ∧ y = .fresh ∨ x = .reservedSpoilt ∧ y = .spoilt) →
      b.GivesBack ({ b with map := b.map.set pos y, freshRes := f, reissueRes := r } : Batch).drained := by
    intro x y f r hx hxy
    refine ⟨?_, drained_state _, fun i => ?_⟩
    · rw [drained_rest]
    · rw [(drained_fields _).1]
      dsimp only
      rw [set_getElem? y hx]
      split
      · next hi =>
        subst hi
        rcases hxy with ⟨rfl, rfl⟩ | ⟨rfl, rfl⟩
        · exact .inr (.inl ⟨hx, rfl⟩)
        · exact .inr (.inr ⟨hx, rfl⟩)
      · exact .inl rfl
  cases hpos : b.map[pos]? with
  | none => simpa [Batch.settled, hpos] using Batch.GivesBack.refl b
  | some x =>
    cases x with
    | reservedFresh => simpa [Batch.settled, hpos] using given _ .fresh (b.freshRes - 1) b.reissueRes hpos (by simp)
    | reservedSpoilt => simpa [Batch.settled, hpos] using given _ .spoilt b.freshRes (b.reissueRes - 1) hpos (by simp)
    | fresh | issued | spoilt => simpa [Batch.settled, hpos] using Batch.GivesBack.refl b

theorem Batch.GivesBack.trans {b c d : Batch} (h1 : b.GivesBack c) (h2 : c.GivesBack d) : b.GivesBack d := by
  refine ⟨?_, ?_, fun i => ?_⟩
  · rw [h2.rest, h1.rest]
  · rcases h2.state with hd | ⟨hc, hd⟩
    · rw [hd]; exact h1.state
    · rcases h1.state with hb | ⟨_, hb⟩
      · exact .inr ⟨hb ▸ hc, hd⟩
      · rw [hb] at hc; cases hc
  · rcases h2.map i with hd | ⟨hc, hd⟩ | ⟨hc, hd⟩
    · rw [hd]; exact h1.map i
    · rcases h1.map i with hb | ⟨_, hb⟩ | ⟨_, hb⟩
      · exact .inr (.inl ⟨hb ▸ hc, hd⟩)
      · rw [hb] at hc; cases hc
      · rw [hb] at hc; cases hc
    · rcases h1.map i with hb | ⟨_, hb⟩ | ⟨_, hb⟩
      · exact .inr (.inr ⟨hb ▸ hc, hd⟩)
      · rw [hb] at hc; cases hc
      · rw [hb] at hc; cases hc

/-- A release raises BATCH_CLOSED exactly when it closes the batch (R68). -/
theorem notices_releasePos (s : State) (n pos : Nat) :
    (s.releasePos n pos).notices =
      if (s.batch n).state = .closing ∧ ((s.batch n).settled false pos).state = .closed then raiseIn (.batchClosed n) 0 s.notices
      else s.notices := by
  have closes : ∀ (b : Batch), n < 32 → b.state = (s.batch n).state →
      ((s.setBatch n b).closeIfDrained n).notices =
        if (s.batch n).state = .closing ∧ b.drained.state = .closed then raiseIn (.batchClosed n) 0 s.notices else s.notices := by
    intro b hn hb
    unfold Batch.drained
    by_cases h : b.state = .closing ∧ b.freshRes + b.reissueRes = 0
    · rw [closeIfDrained_setBatch_closes hn h.1 h.2, if_pos h, if_pos ⟨hb ▸ h.1, rfl⟩]
      rfl
    · rw [closeIfDrained_setBatch_stays hn h, if_neg h, if_neg fun hc => by rw [hb, hc.1] at hc; cases hc.2]
      rfl
  have stays : ∀ {b : Batch}, ¬ (b.state = .closing ∧ b.state = .closed) := fun h => by rw [h.1] at h; cases h.2
  unfold State.releasePos
  dsimp only
  cases hpos : (s.batch n).map[pos]? with
  | none => simp [Batch.settled, hpos, stays]
  | some x =>
    cases x with
    | reservedFresh | reservedSpoilt =>
      simp only [Batch.settled, hpos]
      exact closes _ (lt_of_position hpos) rfl
    | fresh | issued | spoilt => simp [Batch.settled, hpos, stays]

/-! ### The cells as the jobs end -/

theorem notices_releaseCells_quiet (xs : List (Nat × CellId)) (s : State) :
    (xs.foldl (State.releaseCell false) s).notices = s.notices := by
  induction xs generalizing s with
  | nil => rfl
  | cons x xs ih =>
    rw [List.foldl_cons, ih]
    unfold State.releaseCell
    split <;> rfl

theorem zeroised_modCell (e : Entry) (c : CellId) (f : Cell → Cell) : (e.modCell c f).zeroised = e.zeroised := by
  cases e with
  | key k => cases c <;> rfl
  | empty | gate => rfl

theorem zeroised_released (e : Entry) (cs : List CellId) : (e.released cs).zeroised = e.zeroised :=
  Entry.released_keeps (I := fun x => x.zeroised = e.zeroised) (fun x c hx => (zeroised_modCell x c _).trans hx) cs rfl

theorem zeroised_closeCeremony (s : State) (n : Nat) : (s.closeCeremony.entry n).zeroised = (s.entry n).zeroised := by
  cases hc : s.ceremony with
  | none => rw [closeCeremony_none hc]
  | some cer =>
    rw [entry_closeCeremony hc]
    split
    · next h => rw [zeroised_modCell, h]
    · rfl

/-! ### The end of every job with TAMPER -/

/-- The notices that the end of the jobs of a state can raise: BATCH_CLOSED for a batch that is CLOSING (R68). -/
def State.closesBatch (s : State) (x : Notice) : Prop := ∃ n, (s.batch n).state = .closing ∧ x = ⟨.batchClosed n, 0⟩

/-- What has become of the batches, notices and cells of a state while its jobs end with TAMPER (R101). -/
structure State.JobsEnd (s t : State) : Prop where
  batches : ∀ n, (s.batch n).GivesBack (t.batch n)
  closed : ∀ n, (s.batch n).state = .closing → (t.batch n).state = .closed → ⟨.batchClosed n, 0⟩ ∈ t.notices
  notices : Raised s.closesBatch s.notices t.notices
  cells : ∀ n, (t.entry n).zeroised = (s.entry n).zeroised

theorem State.JobsEnd.refl (s : State) : s.JobsEnd s :=
  ⟨fun _ => .refl _, fun n h1 h2 => (by rw [h1] at h2; cases h2), .refl, fun _ => rfl⟩

theorem notices_settleJob_quiet (s : State) (answers : List Response) (j : Job) :
    (s.settleJob false false answers j).notices = (s.settlePosition false j).notices := by
  obtain ⟨_, h⟩ := respondAll_touches ((s.settlePosition false j).releaseCaptured false j) j.owner answers
  rw [State.settleJob, h, releaseCaptured_eq]
  exact notices_releaseCells_quiet _ _

theorem State.JobsEnd.settle (h : s.JobsEnd t) (answers : List Response) (j : Job) :
    s.JobsEnd (t.settleJob false false answers j) := by
  have hcells : ∀ n, ((t.settleJob false false answers j).entry n).zeroised = (s.entry n).zeroised := fun n => by
    rw [entry_settleJob, zeroised_released, h.cells]
  cases hctx : j.ctx with
  | stream | custody =>
    have hb : ∀ n, (t.settleJob false false answers j).batch n = t.batch n := fun n => by rw [batch_settleJob, hctx]
    have hn : (t.settleJob false false answers j).notices = t.notices := by
      rw [notices_settleJob_quiet]
      unfold State.settlePosition
      rw [hctx]
    exact ⟨fun n => by rw [hb]; exact h.batches n, fun n => by rw [hb, hn]; exact h.closed n, by rw [hn]; exact h.notices, hcells⟩
  | derive c =>
    have hb : ∀ n, (t.settleJob false false answers j).batch n =
        if n = c.batch then (t.batch n).settled false c.pos else t.batch n := fun n => by rw [batch_settleJob, hctx]
    have hn : (t.settleJob false false answers j).notices = (t.releasePos c.batch c.pos).notices := by
      rw [notices_settleJob_quiet, settlePosition_derive false t hctx, if_neg (by simp)]
    rw [notices_releasePos] at hn
    have hsource : (t.batch c.batch).state = .closing → (s.batch c.batch).state = .closing := fun hc => by
      rcases (h.batches c.batch).state with hs | ⟨hs, _⟩
      · rw [← hs]; exact hc
      · exact hs
    refine ⟨fun n => ?_, fun n h1 h2 => ?_, ?_, hcells⟩
    · rw [hb]
      split
      · exact (h.batches n).trans (givesBack_settled _ _)
      · exact h.batches n
    · have hold : (t.batch n).state = .closed → ⟨.batchClosed n, 0⟩ ∈ (t.settleJob false false answers j).notices := fun hcl => by
        rw [hn]
        split
        · exact (Raised.raise (own := fun _ => True) trivial .refl).plain _ (h.closed n h1 hcl) rfl
        · exact h.closed n h1 hcl
      rw [hb] at h2
      split at h2
      · next heq =>
        subst heq
        rcases (h.batches c.batch).state with hs | ⟨_, hs⟩
        · rw [hn, if_pos ⟨hs.trans h1, h2⟩]
          exact mem_raiseIn.2 (.inl rfl)
        · exact hold hs
      · exact hold h2
    · rw [hn]
      split
      · next hc => exact h.notices.raise ⟨c.batch, hsource hc.1, rfl⟩
      · exact h.notices

theorem jobsEnd_tamperJobs (s : State) : s.JobsEnd s.tamperJobs :=
  tamperJobs_keeps (I := s.JobsEnd) (fun t slot j _ h => by
    have hend := h.settle (j.owed .tamper) j
    exact ⟨hend.batches, hend.closed, hend.notices, hend.cells⟩) (.refl s)

/-! ### The responses of the jobs that end -/

/-- The TAMPER responses that the jobs in the slots listed owe to a port. -/
def State.tamperOwed (s : State) (p : Port) (ns : List Nat) : List Response :=
  ns.flatMap fun n =>
    match s.job n with
    | some j => if j.owner = p then j.owed .tamper else []
    | none => []

theorem tamperOwed_congr {p : Port} {ns : List Nat} (h : ∀ n ∈ ns, t.job n = s.job n) : t.tamperOwed p ns = s.tamperOwed p ns :=
  List.flatMap_congr fun n hn => by rw [h n hn]

theorem port_respondAll_ne {p q : Port} (rs : List Response) (h : q ≠ p) : (s.respondAll p rs).port q = s.port q := by
  induction rs generalizing s with
  | nil => rfl
  | cons r rs ih =>
    show ((s.respond p r).respondAll p rs).port q = _
    rw [ih]
    unfold State.respond
    dsimp only
    split
    · rfl
    · exact State.port_setPort_ne _ _ h

theorem port_settleJob {p : Port} (commits loud : Bool) {answers : List Response} {j : Job}
    (hroom : j.owner = p → answers.length ≤ (s.port p).reserved) :
    (s.settleJob commits loud answers j).port p = { s.port p with
      reserved := (s.port p).reserved - (if j.owner = p then answers else []).length
      occupied := (s.port p).occupied ++ if j.owner = p then answers else [] } := by
  have hport : ∀ q, ((s.settlePosition commits j).releaseCaptured loud j).port q = s.port q := fun q => by
    rw [releaseCaptured_eq, port_releaseCells, port_settlePosition]
  unfold State.settleJob
  by_cases ho : j.owner = p
  · subst ho
    rw [respondAll_reserved _ _ _ (by rw [hport]; exact hroom rfl), State.port_setPort_same, hport, if_pos rfl]
  · rw [port_respondAll_ne _ (Ne.symm ho), hport, if_neg ho]
    simp

theorem port_tamperFold {p : Port} {ns : List Nat} (hns : ns.Nodup) (hroom : (s.tamperOwed p ns).length ≤ (s.port p).reserved) :
    (ns.foldl State.tamperJob s).port p = { s.port p with
      reserved := (s.port p).reserved - (s.tamperOwed p ns).length
      occupied := (s.port p).occupied ++ s.tamperOwed p ns } := by
  induction ns generalizing s with
  | nil => simp [State.tamperOwed]
  | cons n ns ih =>
    obtain ⟨hn, hns⟩ := List.nodup_cons.1 hns
    have howed : (s.tamperJob n).tamperOwed p ns = s.tamperOwed p ns := tamperOwed_congr fun m hm => by
      rw [tamperJob_job, if_neg fun (h : m = n) => hn (h ▸ hm)]
    rw [List.foldl_cons]
    cases hj : s.job n with
    | none =>
      have hcons : s.tamperOwed p (n :: ns) = s.tamperOwed p ns := by simp [State.tamperOwed, hj]
      rw [hcons] at hroom ⊢
      rw [tamperJob_free hj]
      exact ih hns hroom
    | some j =>
      have hcons : s.tamperOwed p (n :: ns) = (if j.owner = p then j.owed .tamper else []) ++ s.tamperOwed p ns := by
        simp [State.tamperOwed, hj]
      rw [hcons, List.length_append] at hroom
      have hport : (s.tamperJob n).port p = { s.port p with
          reserved := (s.port p).reserved - (if j.owner = p then j.owed .tamper else []).length
          occupied := (s.port p).occupied ++ if j.owner = p then j.owed .tamper else [] } := by
        rw [tamperJob_live hj, port_freeSlot]
        exact port_settleJob _ _ fun ho => by rw [if_pos ho] at hroom; omega
      rw [ih hns (by rw [howed, hport]; dsimp only; omega), howed, hport, hcons, List.length_append, ← Nat.sub_sub,
        List.append_assoc]

theorem port_tamperJobs {p : Port} (hroom : (s.tamperResponses p).length ≤ (s.port p).reserved) :
    s.tamperJobs.port p = { s.port p with
      reserved := (s.port p).reserved - (s.tamperResponses p).length
      occupied := (s.port p).occupied ++ s.tamperResponses p } :=
  port_tamperFold (ns := List.range 16) List.nodup_range hroom

/-! ### The records once no position is reserved -/

theorem countIn_absent {x : PosState} {map : List PosState} (h : x ∉ map) : countIn [x] map = 0 := by
  unfold countIn
  rw [List.countP_eq_zero]
  intro y hy hc
  rw [List.contains_eq_mem, decide_eq_true_eq, List.mem_singleton] at hc
  exact h (hc ▸ hy)

/-- A record all of whose reserved positions have been given back, as the entry to ZEROISING leaves it (R80, R81). -/
theorem givesBack_all {b b' : Batch} (h : b.GivesBack b') (hfree : ∀ (i : Nat) (x : PosState), b'.map[i]? = some x → ¬ x.reserved)
    (hagrees : b'.agrees) (hfits : b'.stateFits) :
    b'.suspend = { b with
      state := match b.state with
        | .opened => .suspended
        | .paused => .suspended
        | .closing => .closed
        | st => st
      map := b.map.map fun x => if x = .reservedFresh then .fresh else if x = .reservedSpoilt then .spoilt else x
      freshRes := 0, reissueRes := 0 } ∧
      (b.state = .closing → b'.state = .closed) := by
  have hout : ∀ x : PosState, x.reserved → x ∉ b'.map := fun x hx hmem => by
    obtain ⟨i, hi⟩ := List.mem_iff_getElem?.1 hmem
    exact hfree i x hi hx
  obtain ⟨_, _, hfresh, hreissue, _⟩ := hagrees
  rw [countIn_absent (hout _ (.inl rfl))] at hfresh
  rw [countIn_absent (hout _ (.inr rfl))] at hreissue
  have hclosing : b'.state ≠ .closing := fun hc => by
    have := hfits.2 hc
    omega
  have hmap : b'.map = b.map.map fun x => if x = .reservedFresh then .fresh else if x = .reservedSpoilt then .spoilt else x := by
    refine List.ext_getElem? fun i => ?_
    rw [List.getElem?_map]
    rcases h.map i with hi | ⟨hi, hi'⟩ | ⟨hi, hi'⟩
    · cases hx : b.map[i]? with
      | none => rw [hi, hx]; rfl
      | some x =>
        have hnot := hfree i x (hi.trans hx)
        have h1 : x ≠ .reservedFresh := fun hc => hnot (.inl hc)
        have h2 : x ≠ .reservedSpoilt := fun hc => hnot (.inr hc)
        rw [hi, hx, Option.map_some, if_neg h1, if_neg h2]
    · rw [hi, hi']; rfl
    · rw [hi, hi']; rfl
  have hclosed : b.state = .closing → b'.state = .closed := fun hc => by
    rcases h.state with hs | ⟨_, hs⟩
    · exact absurd (hs.trans hc) hclosing
    · exact hs
  refine ⟨?_, hclosed⟩
  obtain ⟨st, hst⟩ : ∃ st, b'.state = st := ⟨_, rfl⟩
  have hrest := h.rest
  rw [hfresh, hreissue, hmap, hst] at hrest
  have hstate := h.state
  rw [hst] at hstate hclosing
  rw [hrest]
  unfold Batch.suspend
  rcases hstate with rfl | ⟨hc, rfl⟩
  · cases hb : b.state with
    | opened | paused | suspended | unused | closed => simp
    | closing => exact absurd hb hclosing
  · rw [hc]
    rfl

/-! ### The entry to ZEROISING with the part at work (R160) -/

section Enter

variable (ha : s.alive = true)

include ha

theorem entry_enterZeroising_on (n : Nat) : s.enterZeroising.entry n = (s.entry n).zeroised := by
  rw [enterZeroising_on ha, entry_clearCells, entry_suspendBatches, zeroised_closeCeremony, entry_clearEngine,
    (jobsEnd_tamperJobs _).cells]
  rfl

theorem notices_enterZeroising_on : s.enterZeroising.notices = s.startZeroisation.tamperJobs.notices := by
  obtain ⟨_, _, he⟩ := enterZeroising_on_touches ha
  rw [he]

theorem raised_enterZeroising_on : Raised s.closesBatch s.notices s.enterZeroising.notices := by
  rw [notices_enterZeroising_on ha]
  exact (jobsEnd_tamperJobs s.startZeroisation).notices

theorem port_enterZeroising_on {p : Port} (hroom : (s.tamperResponses p).length ≤ (s.port p).reserved) :
    s.enterZeroising.port p = { s.port p with
      reserved := (s.port p).reserved - (s.tamperResponses p).length
      occupied := (s.port p).occupied ++ s.tamperResponses p } := by
  obtain ⟨_, _, he⟩ := enterZeroising_on_touches ha
  have hports : s.enterZeroising.ports = s.startZeroisation.tamperJobs.ports := by rw [he]
  rw [port_congr hports]
  exact port_tamperJobs (s := s.startZeroisation) hroom

theorem job_enterZeroising_on (n : Nat) : s.enterZeroising.job n = none := by
  obtain ⟨_, _, he⟩ := enterZeroising_on_touches ha
  have hslots : s.enterZeroising.slots = s.startZeroisation.tamperJobs.slots := by rw [he]
  rw [job_congr hslots]
  exact tamperJobs_job _ n

theorem liveOf_enterZeroising_on (h : s.jobsListed) (p : Port) : s.enterZeroising.liveOf p = [] := by
  obtain ⟨_, _, he⟩ := enterZeroising_on_touches ha
  have hlive : s.enterZeroising.live = s.startZeroisation.tamperJobs.live := by rw [he]
  obtain ⟨hlisted, _⟩ := jobsListed_tamperJobs (s := s.startZeroisation) h
  rw [liveOf_congr hlive, List.eq_nil_iff_forall_not_mem]
  intro n hn
  obtain ⟨j, hj, _⟩ := (hlisted p n).1 hn
  rw [tamperJobs_job] at hj
  cases hj

theorem suspended_enterZeroising_on (n : Nat) :
    (s.enterZeroising.batch n).state ≠ .opened ∧ (s.enterZeroising.batch n).state ≠ .paused := by
  rw [batch_enterZeroising_on ha]
  unfold Batch.suspend
  split
  · simp
  · next h => exact not_or.1 h

/-- With every reservation held by a live job, none is left (R62, R80). -/
theorem batches_enterZeroising_on (hi : s.sweep = .idle) (h : s.positionsHeld) (n : Nat) :
    s.enterZeroising.batch n = { s.batch n with
      state := match (s.batch n).state with
        | .opened => .suspended
        | .paused => .suspended
        | .closing => .closed
        | st => st
      map := (s.batch n).map.map fun x =>
        if x = .reservedFresh then .fresh else if x = .reservedSpoilt then .spoilt else x
      freshRes := 0, reissueRes := 0 } ∧
    ((s.batch n).state = .closing → ⟨.batchClosed n, 0⟩ ∈ s.enterZeroising.notices) := by
  have hend := jobsEnd_tamperJobs s.startZeroisation
  obtain ⟨_, _, _, _, _, _, htouch⟩ := tamperJobs_touches s.startZeroisation
  have halive : s.startZeroisation.tamperJobs.alive = true := by rw [htouch]; exact ha
  have hsweep : s.startZeroisation.tamperJobs.sweep = .idle := by rw [htouch]; exact hi
  obtain ⟨hagrees, hfits, hheld⟩ := positionsHeld_tamperJobs (s := s.startZeroisation) h
  obtain ⟨_, hholder, _⟩ := hheld halive hsweep
  have hfree : ∀ (i : Nat) (x : PosState), (s.startZeroisation.tamperJobs.batch n).map[i]? = some x → ¬ x.reserved := by
    intro i x hx hr
    obtain ⟨m, j, c, hj, _⟩ := hholder n i (hr.imp (fun e => hx.trans (congrArg some e)) fun e => hx.trans (congrArg some e))
    rw [tamperJobs_job] at hj
    cases hj
  obtain ⟨hbatch, hclosed⟩ := givesBack_all (hend.batches n) hfree (hagrees n) (hfits n)
  rw [batch_enterZeroising_on ha, hbatch, notices_enterZeroising_on ha]
  exact ⟨rfl, fun hc => hend.closed n hc (hclosed hc)⟩

end Enter

/-- The notice of a tamper line, where a line is the cause (R157). -/
def Cause.raises (cause : Cause) (x : Notice) : Prop := ∃ l, cause = .line l ∧ x = ⟨.tamper l, 0⟩

theorem mem_allCauses (c : Cause) : c ∈ allCauses := by
  cases c with
  | line l => cases l <;> decide
  | requested | storeLost => decide

/-- The entry to ZEROISING for a cause, with the notice of the cause raised before or after it, is as R160 says. -/
theorem enteredZeroising {u : State} {cause : Cause} {ns : List Notice} (ha : s.alive = true) (hi : s.sweep = .idle)
    (hall : ∀ x ∈ s.causes, x ∈ allCauses)
    (hu : ∃ pins choices before, u = { s.addCause cause with tamperPins := pins, choices := choices, notices := before })
    (hbefore : Raised cause.raises s.notices u.notices) (hafter : Raised cause.raises u.enterZeroising.notices ns)
    (ht : ∃ tag, t = { u.enterZeroising with notices := ns, zeroTag := tag }) : EnteredZeroising cause s t := by
  have hua : u.alive = true := by obtain ⟨_, _, _, rfl⟩ := hu; exact ha
  have hui : u.sweep = .idle := by obtain ⟨_, _, _, rfl⟩ := hu; exact hi
  have hentry : ∀ n, u.entry n = s.entry n := by obtain ⟨_, _, _, rfl⟩ := hu; exact fun _ => rfl
  have hbatch : ∀ n, u.batch n = s.batch n := by obtain ⟨_, _, _, rfl⟩ := hu; exact fun _ => rfl
  have hport : ∀ p, u.port p = s.port p := by obtain ⟨_, _, _, rfl⟩ := hu; exact fun _ => rfl
  have howed : ∀ p, u.tamperResponses p = s.tamperResponses p := by obtain ⟨_, _, _, rfl⟩ := hu; exact fun _ => rfl
  have hlisted : s.jobsListed → u.jobsListed := by obtain ⟨_, _, _, rfl⟩ := hu; exact id
  have hheld : s.positionsHeld → u.positionsHeld := by obtain ⟨_, _, _, rfl⟩ := hu; exact id
  have hcauses : u.causes = allCauses.filter fun x => x == cause || s.causes.contains x := by
    obtain ⟨_, _, _, rfl⟩ := hu; rfl
  have hfirst : u.firstCause = if s.causes.isEmpty then some cause else s.firstCause := by
    obtain ⟨_, _, _, rfl⟩ := hu; rfl
  have hbind : u.bindings = s.bindings := by obtain ⟨_, _, _, rfl⟩ := hu; rfl
  have hraised := raised_enterZeroising_on hua
  obtain ⟨_, _, he⟩ := enterZeroising_on_touches hua
  obtain ⟨tag, rfl⟩ := ht
  refine ⟨by rw [he], by rw [he], by rw [he], fun x => ?_, ?_, job_enterZeroising_on hua, by rw [he], by rw [he], by rw [he],
    fun l => ?_, by rw [he], fun h => liveOf_enterZeroising_on hua (hlisted h),
    fun n => (entry_enterZeroising_on hua n).trans (by rw [hentry]), suspended_enterZeroising_on hua, fun h =>
    ⟨fun n => ?_, fun n hc => ?_⟩,
    fun x hx => ?_, fun x hx => ?_, fun p hroom => ?_, ?_⟩
  · have : u.enterZeroising.causes = u.causes := by rw [he]
    dsimp only
    rw [this, hcauses, List.mem_filter, Bool.or_eq_true, beq_iff_eq, List.contains_iff_mem]
    constructor
    · exact fun h => h.2.symm
    · exact fun h => ⟨h.elim (hall x) fun hx => hx ▸ mem_allCauses _, h.symm⟩
  · have : u.enterZeroising.firstCause = u.firstCause := by rw [he]
    dsimp only
    rw [this, hfirst]
    simp
  · have : u.enterZeroising.deficits = ⟨0, 0, 0, 0⟩ := by rw [he]
    show u.enterZeroising.deficits.get l = 0
    rw [this]
    cases l <;> rfl
  · rw [← hbatch]
    exact (batches_enterZeroising_on hua hui (hheld h) n).1
  · rw [← hbatch] at hc
    exact hafter.plain _ ((batches_enterZeroising_on hua hui (hheld h) n).2 hc) rfl
  · rcases hafter.source x hx with hx | hx
    · rcases hraised.source x hx with hx | ⟨n, hc, rfl⟩
      · exact (hbefore.source x hx).imp_right .inr
      · exact .inr (.inl ⟨n, hbatch n ▸ hc, rfl⟩)
    · exact .inr (.inr hx)
  · obtain ⟨y, hy, hyx⟩ := hbefore.keys x hx
    obtain ⟨z, hz, hzy⟩ := hraised.keys y hy
    obtain ⟨w, hw, hwz⟩ := hafter.keys z hz
    exact ⟨w, hw, hwz.trans (hzy.trans hyx)⟩
  · rw [← howed, ← hport] at hroom
    rw [← howed, ← hport]
    exact port_enterZeroising_on hua hroom
  · have : u.enterZeroising.bindings = u.bindings := by rw [he]
    exact this.trans hbind

end Sys2Proof.Machine
end

/-! PROOF. ZEROISE-ALL and tamper events in OPERATING and LOCKOUT (R157, R159, R160, R164, R168, R169). -/

section
namespace Sys2Proof.Machine

variable {s : State}

/-! ### ZEROISE-ALL (R159) -/

theorem requests_respondAll (s : State) (p q : Port) (rs : List Response) :
    ((s.respondAll p rs).port q).requests = (s.port q).requests := by
  induction rs generalizing s with
  | nil => rfl
  | cons r rs ih =>
    show (((s.respond p r).respondAll p rs).port q).requests = _
    rw [ih]
    unfold State.respond
    dsimp only
    split
    · rfl
    · by_cases hq : q = p
      · rw [hq, State.port_setPort_same]
      · rw [State.port_setPort_ne _ _ hq]

/-- The end of the jobs with TAMPER leaves every placed request (R160). -/
theorem requests_tamperJobs (s : State) (p : Port) : (s.tamperJobs.port p).requests = (s.port p).requests := by
  refine tamperJobs_keeps (I := fun t => (t.port p).requests = (s.port p).requests) (fun t slot j _ h => ?_) rfl
  rw [port_freeSlot, State.settleJob, requests_respondAll, releaseCaptured_eq, port_releaseCells, port_settlePosition, h]

theorem requests_enterZeroising_on (ha : s.alive = true) (p : Port) :
    (s.enterZeroising.port p).requests = (s.port p).requests := by
  obtain ⟨_, _, he⟩ := enterZeroising_on_touches ha
  have hports : s.enterZeroising.ports = s.startZeroisation.tamperJobs.ports := by rw [he]
  rw [port_congr hports]
  exact requests_tamperJobs s.startZeroisation p

theorem tamperResponses_none {p : Port} (h : ∀ n j, s.job n = some j → j.owner ≠ p) : s.tamperResponses p = [] := by
  refine List.flatMap_eq_nil_iff.2 fun n _ => ?_
  cases hj : s.job n with
  | none => rfl
  | some j => exact if_neg (h n j hj)

theorem alive_of_quiet {p : Port} (hq : s.quiet p = true) : s.alive = true ∧ s.sweep = .idle := by
  have hadm : s.admitting = true := by
    simp only [State.quiet, Bool.and_eq_true] at hq
    exact hq.1.1.1.1.1
  simp only [State.admitting, Bool.and_eq_true, beq_iff_eq] at hadm
  exact ⟨hadm.2, hadm.1.2⟩

/-- Settles O31: the request is admitted, and the part enters ZEROISING from the state in which its response entry is reserved. -/
theorem zeroiseAllEntersZeroising : Obligations.ZeroiseAllEntersZeroising := by
  intro s flags tag hq hall
  obtain ⟨ha, hi⟩ := alive_of_quiet hq
  have hta : (s.taken .cp).alive = true := ha
  have hti : (s.taken .cp).sweep = .idle := hi
  have htc : (s.taken .cp).causes = s.causes := rfl
  obtain ⟨u, hu⟩ : ∃ u, (s.taken .cp).addCause .requested = u := ⟨_, rfl⟩
  have hua : u.alive = true := by rw [← hu]; exact hta
  have huport : ∀ p, u.port p = (s.taken .cp).port p := by rw [← hu]; exact fun _ => rfl
  have hv : admitKind true .zeroiseAll .cp ⟨0x30, tag, []⟩ (s.withRequest .cp ⟨0x30, tag, []⟩) =
      .accept { u.enterZeroising with zeroTag := some tag } := by
    show Verdict.accept { (((s.withRequest .cp ⟨0x30, tag, []⟩).beginAdmission .cp).addCause .requested).enterZeroising with
      zeroTag := some tag } = _
    rw [beginAdmission_withRequest hq, hu]
  have hrequests : (u.enterZeroising.port .cp).requests = [] := by
    rw [requests_enterZeroising_on hua, huport, State.requests_taken]
    exact requests_of_quiet hq
  have htries : u.enterZeroising.tries = [] := by
    obtain ⟨_, _, he⟩ := enterZeroising_on_touches hua
    rw [he, ← hu]
    exact (State.tries_taken s .cp).trans (tries_of_quiet hq)
  refine ⟨{ u.enterZeroising with zeroTag := some tag },
    exec_admitted (k := .zeroiseAll) hq (by simp) rfl (.inl rfl) rfl hv hrequests htries, ?_, rfl, hrequests, fun hnone => ?_⟩
  · exact enteredZeroising (u := u) (ns := u.enterZeroising.notices) hta hti (by rw [htc]; exact hall) ⟨_, _, _, hu.symm⟩
      (by rw [← hu]; exact .refl) .refl ⟨some tag, rfl⟩
  · have hnone' : u.tamperResponses .cp = [] := tamperResponses_none fun n j hj => hnone n j (by
      rw [← hu] at hj
      exact hj)
    show (u.enterZeroising.port .cp).reserved = _
    rw [port_enterZeroising_on hua (by simp [hnone']), hnone', huport]
    simp [State.taken]

/-! ### Tamper events in OPERATING and LOCKOUT (R157) -/

theorem holdOrTakeTamper_held {l : TamperLine} (h : ∃ c, s.sweep = .running c ∨ s.sweep = .clearing c) :
    s.holdOrTakeTamper l = { s with heldTamper := s.heldTamper ++ [l] } := by
  unfold State.holdOrTakeTamper
  obtain ⟨c, h | h⟩ := h <;> rw [h]

/-- Without the part at work the event enters ZEROISING without a notice (R164, R169). -/
theorem takeTamper_off {l : TamperLine} (hm : s.mode = .operating ∨ s.mode = .lockout) (ha : s.alive = false) :
    s.takeTamper l = (s.addCause (.line l)).startZeroisation.suspendBatches.clearCells := by
  have hoff : (s.addCause (.line l)).alive = false := ha
  unfold State.takeTamper
  dsimp only
  rw [if_pos hm, ha, Bool.false_and, if_neg (by simp), tamperNotice_off _ hoff, enterZeroising_off hoff]

/-- With the part at work the event enters ZEROISING, with its notice raised before the entry or after it (R157; log 12). -/
theorem takeTamper_on {l : TamperLine} (hm : s.mode = .operating ∨ s.mode = .lockout) (ha : s.alive = true) :
    ∃ k, s.takeTamper l = (({ s.addCause (.line l) with choices := k } : State).notice (.tamper l) 0).enterZeroising ∨
      s.takeTamper l = ({ s.addCause (.line l) with choices := k } : State).enterZeroising.notice (.tamper l) 0 := by
  have hon : ∀ k, ({ s.addCause (.line l) with choices := k } : State).alive = true := fun _ => ha
  unfold State.takeTamper
  dsimp only
  rw [if_pos hm]
  split
  · refine ⟨s.choices + 1, ?_⟩
    split
    · rw [tamperNotice_alive _ (hon _)]
      exact .inl rfl
    · obtain ⟨_, _, _, halive, _⟩ := enterZeroising_mode { s.addCause (.line l) with choices := s.choices + 1 }
      rw [tamperNotice_alive _ (halive.trans (hon _))]
      exact .inr rfl
  · refine ⟨s.choices, .inl ?_⟩
    rw [tamperNotice_alive (s := s.addCause (.line l)) l ha]
    rfl

theorem takeTamper_entered {l : TamperLine} (hm : s.mode = .operating ∨ s.mode = .lockout) (ha : s.alive = true)
    (hi : s.sweep = .idle) (hall : ∀ x ∈ s.causes, x ∈ allCauses) :
    EnteredZeroising (.line l) s (s.takeTamper l) ∧ (s.takeTamper l).tamperPins = s.tamperPins ∧
      ∃ n ∈ (s.takeTamper l).notices, n.key = .tamper l := by
  have own : Cause.raises (.line l) ⟨.tamper l, 0⟩ := ⟨l, rfl, rfl⟩
  obtain ⟨k, h | h⟩ := takeTamper_on (l := l) hm ha
  · obtain ⟨u, hu⟩ : ∃ u, ({ s.addCause (.line l) with choices := k } : State).notice (.tamper l) 0 = u := ⟨_, rfl⟩
    rw [hu] at h
    have hua : u.alive = true := by rw [← hu]; exact ha
    have hnotices : u.notices = raiseIn (.tamper l) 0 s.notices := by rw [← hu]; rfl
    obtain ⟨_, _, he⟩ := enterZeroising_on_touches hua
    rw [h]
    refine ⟨enteredZeroising (u := u) (ns := u.enterZeroising.notices) ha hi hall ⟨_, _, _, hu.symm⟩
      (by rw [hnotices]; exact Raised.raise own .refl) .refl ⟨u.enterZeroising.zeroTag, rfl⟩, ?_, ?_⟩
    · rw [he, ← hu]
      rfl
    · obtain ⟨y, hy, hkey⟩ := (raised_enterZeroising_on hua).keys ⟨.tamper l, 0⟩
        (by rw [hnotices]; exact mem_raiseIn.2 (.inl rfl))
      exact ⟨y, hy, hkey⟩
  · obtain ⟨u, hu⟩ : ∃ u, ({ s.addCause (.line l) with choices := k } : State) = u := ⟨_, rfl⟩
    rw [hu] at h
    have hua : u.alive = true := by rw [← hu]; exact ha
    obtain ⟨_, _, he⟩ := enterZeroising_on_touches hua
    rw [h]
    refine ⟨enteredZeroising (u := u) (ns := raiseIn (.tamper l) 0 u.enterZeroising.notices) ha hi hall ⟨_, _, _, hu.symm⟩
      (by rw [← hu]; exact .refl) (Raised.raise own .refl) ⟨u.enterZeroising.zeroTag, rfl⟩, ?_, ⟨.tamper l, 0⟩,
      mem_raiseIn.2 (.inl rfl), rfl⟩
    show u.enterZeroising.tamperPins = _
    rw [he, ← hu]
    rfl

/-- Settles O40: by the state of power and sweep. -/
theorem tamperEventEntersZeroising : Obligations.TamperEventEntersZeroising := by
  intro s l hpin
  refine ⟨fun ha hi hm hall => ?_, fun hoff hi hm => ?_, fun hw hsweep => ?_⟩
  · have htaken : exec (.tamperEvent l) s = .next ((s.lineActive l).takeTamper l) := by
      rw [exec_tamperEvent_watched hpin (by rw [mainPower_of_alive ha, Bool.true_or]),
        holdOrTakeTamper_taken (s := s.lineActive l) (.inl hi)]
    exact ⟨_, htaken, takeTamper_entered (s := s.lineActive l) (l := l) hm ha hi hall⟩
  · obtain ⟨ha, hw⟩ := alive_of_supplied hoff
    have htaken : exec (.tamperEvent l) s =
        .next ((s.lineActive l).addCause (.line l)).startZeroisation.suspendBatches.clearCells := by
      rw [exec_tamperEvent_watched hpin hw, holdOrTakeTamper_taken (s := s.lineActive l) (.inl hi),
        takeTamper_off (s := s.lineActive l) hm ha]
    refine ⟨_, htaken, ?_, fun n => ?_, fun n => ?_⟩
    · unfold State.addCause State.startZeroisation State.suspendBatches State.clearCells State.lineActive
      rfl
    · rw [entry_clearCells]
      rfl
    · rw [batch_clearCells, batch_suspendBatches]
      show (s.batch n).suspend = _
      unfold Batch.suspend
      split <;> rfl
  · have hwatched : (s.mainPower || !s.holdingLost) = true := by simpa using hw
    rw [exec_tamperEvent_watched hpin hwatched, holdOrTakeTamper_held (s := s.lineActive l) hsweep]
    rfl

end Sys2Proof.Machine
end

/-! SUPPORT. What the requests of the other ports leave of a port whose queue is empty: its unit and its live-job list (R89 to
R92, R98). -/

section
namespace Sys2Proof.Machine

variable {s t : State} {now : Bool} {p q : Port} {r : Request}

/-- An event has left a port's unit and live-job list as they were. -/
structure State.Spares (p : Port) (s t : State) : Prop where
  port : t.port p = s.port p
  live : t.liveOf p = s.liveOf p

theorem State.Spares.refl (p : Port) (s : State) : s.Spares p s := ⟨rfl, rfl⟩

theorem State.Spares.trans {u : State} (h1 : s.Spares p t) (h2 : t.Spares p u) : s.Spares p u :=
  ⟨h2.port.trans h1.port, h2.live.trans h1.live⟩

theorem State.Spares.requests (h : s.Spares p t) (he : (s.port p).requests = []) : (t.port p).requests = [] := by
  rw [h.port, he]

/-! ### The port that a request comes from -/

theorem spares_setPort (hne : p ≠ q) (u : PortUnit) : s.Spares p (s.setPort q u) := ⟨State.port_setPort_ne _ _ hne, rfl⟩

theorem spares_leaveWaitList : s.Spares p (s.leaveWaitList q) := ⟨by simp, by simp⟩

theorem spares_joinWaitList : s.Spares p (s.joinWaitList q) := ⟨by simp, by simp⟩

theorem spares_respondAll (hne : p ≠ q) (rs : List Response) : s.Spares p (s.respondAll q rs) := by
  refine ⟨port_respondAll_ne rs hne, ?_⟩
  obtain ⟨_, h⟩ := respondAll_touches s q rs
  rw [h]
  rfl

theorem spares_respond (hne : p ≠ q) (x : Response) : s.Spares p (s.respond q x) := spares_respondAll hne [x]

theorem spares_addTry : s.Spares p (s.addTry q) := ⟨rfl, rfl⟩

theorem spares_addTries (ps : List Port) : s.Spares p (s.addTries ps) := by
  obtain ⟨_, h⟩ := addTries_touches ps s
  rw [h]
  exact ⟨rfl, rfl⟩

theorem spares_addTryIf (w : HeadWait) : s.Spares p (s.addTryIf q w) := by
  unfold State.addTryIf
  split
  · exact spares_addTry
  · exact .refl p s

theorem spares_beginAdmission (hne : p ≠ q) : s.Spares p (s.beginAdmission q) :=
  (spares_setPort hne _).trans spares_leaveWaitList

theorem spares_answer (hne : p ≠ q) (a : Answer) (body : List Byte) : s.Spares p (s.answer q r a body) := spares_respond hne _

theorem spares_refuseHead (hne : p ≠ q) (x : RefusalRec) : s.Spares p (s.refuseHead q r x) :=
  ((spares_beginAdmission hne).trans (spares_respond hne _)).trans spares_addTry

theorem spares_headWaits (hne : p ≠ q) (w : HeadWait) : s.Spares p (s.headWaits q r w) := by
  have hwait : s.Spares p (s.setWait q w) := spares_setPort hne _
  unfold State.headWaits
  dsimp only
  split_ifs
  · exact hwait
  · exact hwait.trans spares_joinWaitList
  · exact hwait
  · exact hwait.trans spares_leaveWaitList

/-! ### Jobs that begin and end -/

theorem spares_arbitrate : s.Spares p s.arbitrate := by
  obtain ⟨_, _, _, _, h⟩ := arbitrate_touches s
  rw [h]
  exact ⟨rfl, rfl⟩

theorem spares_arbitrateIf : s.Spares p (s.arbitrateIf now) := by
  cases now with
  | true => exact spares_arbitrate
  | false => exact .refl p s

theorem spares_captures (x y : Nat × CellId) : s.Spares p ((s.capture x.1 x.2).capture y.1 y.2) := by
  obtain ⟨_, h⟩ := captures_touch s x y
  rw [h]
  exact ⟨rfl, rfl⟩

theorem spares_placeJob {j : Job} (ho : p ≠ j.owner) (slot : Nat) : s.Spares p (s.placeJob slot j) :=
  ⟨rfl, State.liveOf_setLive_ne _ _ ho⟩

theorem spares_closeCeremony : s.Spares p s.closeCeremony := by
  obtain ⟨_, h⟩ := closeCeremony_touches s
  rw [h]
  exact ⟨rfl, rfl⟩

/-- A rule accepts without effect on the port. -/
def Verdict.spares (p : Port) (s : State) (v : Verdict) : Prop := ∀ t, v = .accept t → s.Spares p t

theorem Verdict.spares_refuse (x : RefusalRec) : Verdict.spares p s (.refuse x) := fun _ h => by cases h

theorem Verdict.spares_wait (w : HeadWait) : Verdict.spares p s (.wait w) := fun _ h => by cases h

theorem Verdict.spares_accept (h : s.Spares p t) : Verdict.spares p s (.accept t) := fun _ ht => by cases ht; exact h

theorem spares_admitDerive (hne : p ≠ q) : Verdict.spares p s (admitDerive now q r s) := by
  unfold admitDerive
  split
  · dsimp only
    split
    · exact Verdict.spares_refuse _
    · split
      · exact Verdict.spares_refuse _
      · next mk _ =>
        split
        · exact Verdict.spares_refuse _
        · next tk _ =>
          split
          · exact Verdict.spares_refuse _
          · split
            · exact Verdict.spares_wait _
            · refine Verdict.spares_accept ?_
              have hbatch : ∀ (u : State) n b, u.Spares p (u.setBatch n b) := fun _ _ _ => ⟨rfl, rfl⟩
              exact ((((spares_beginAdmission hne).trans (hbatch _ _ _)).trans (spares_captures mk tk)).trans
                (spares_placeJob hne _)).trans spares_arbitrateIf
  · exact Verdict.spares_refuse _

theorem spares_admitStreamOpen (hne : p ≠ q) : Verdict.spares p s (admitStreamOpen q r s) := by
  unfold admitStreamOpen
  split
  · exact Verdict.spares_refuse _
  · dsimp only
    split
    · exact Verdict.spares_refuse _
    · split
      · exact Verdict.spares_refuse _
      · next sk _ =>
        split
        · exact Verdict.spares_refuse _
        · next dk _ =>
          split
          · exact Verdict.spares_wait _
          · refine Verdict.spares_accept ?_
            have hseq : ∀ (u : State) n v, u.Spares p (u.setSeq n v) := fun _ _ _ => ⟨rfl, rfl⟩
            exact (((spares_beginAdmission hne).trans (spares_captures sk dk)).trans (spares_placeJob hne _)).trans
              ((hseq _ _ _).trans (spares_answer hne _ _))

/-- A try leaves the port alone where its queue is empty and the own rules of the other ports leave it alone. -/
theorem spares_tryWith {own : Port → Request → State → Verdict} (he : (s.port p).requests = [])
    (hown : p ≠ q → ∀ r, s.commonRefusal q r = none → Verdict.spares p s (own q r s)) : s.Spares p (s.tryWith own q).2 := by
  rcases tryWith_cases own q s with ⟨_, h⟩ | ⟨r, rest, hrq, h⟩
  · rw [h]; exact .refl p s
  · have hne : p ≠ q := by
      rintro rfl
      rw [he] at hrq
      cases hrq
    rcases h with ⟨w, h⟩ | ⟨_, _, ⟨x, h⟩ | ⟨t, ht, hc, h⟩⟩
    · rw [h]; exact spares_headWaits hne w
    · rw [h]; exact spares_refuseHead hne x
    · rw [h]; exact (hown hne r hc t ht).trans spares_addTry

theorem spares_offer (he : (s.port p).requests = []) (ls : List LinePort) : s.Spares p (State.offer now ls s) := by
  induction ls generalizing s with
  | nil => exact .refl p s
  | cons l ls ih =>
    have htry : s.Spares p (s.tryWith (admitSlotRequest now) (.line l)).2 := spares_tryWith he fun hne r _ => by
      unfold admitSlotRequest
      split
      · exact spares_admitDerive hne
      · exact spares_admitStreamOpen hne
    have goesOn : ∀ {u}, s.Spares p u → s.Spares p (State.offer now ls u) := fun hu => hu.trans (ih (hu.requests he))
    unfold State.offer
    split
    · exact goesOn spares_leaveWaitList
    · split
      · split
        · next s' hs => rw [hs] at htry; exact htry
        · next s' hs => rw [hs] at htry; exact goesOn htry
      · exact goesOn (spares_leaveWaitList.trans spares_addTry)

theorem spares_afterFree (he : (s.port p).requests = []) (slot : Nat) : s.Spares p (s.afterFree now slot q) := by
  unfold State.afterFree
  dsimp only
  refine State.Spares.trans (State.Spares.trans ?_ (spares_addTryIf _)) (spares_addTryIf _)
  split
  · exact spares_offer he _
  · exact spares_addTryIf _

/-- A job of another port, or one that is answered nothing, leaves the port's unit as it was when it ends; its own list is then
the only one to change. -/
theorem endJob_outcome {e : EndPlan} {slot : Nat} {j : Job} (he : (s.port p).requests = []) (hj : s.job slot = some j)
    (hanswers : p ≠ j.owner ∨ e.answers = []) : (s.endJob e slot).port p = s.port p ∧
      (s.endJob e slot).liveOf p = if p = j.owner then (s.liveOf p).filter (· != slot) else s.liveOf p := by
  have hsettled : s.Spares p (s.settleJob e.commits e.loud e.answers j) := by
    have hreleased : s.Spares p ((s.settlePosition e.commits j).releaseCaptured e.loud j) := by
      obtain ⟨_, _, h1⟩ := settlePosition_touches e.commits s j
      obtain ⟨_, _, h2⟩ := releaseCaptured_touches e.loud (s.settlePosition e.commits j) j
      rw [h2, h1]
      exact ⟨rfl, rfl⟩
    refine hreleased.trans ?_
    rcases hanswers with hne | hnone
    · exact spares_respondAll hne _
    · rw [hnone]
      exact .refl p _
  obtain ⟨u, hu, hport, hlive⟩ : ∃ u, (s.settleJob e.commits e.loud e.answers j).freeSlot slot j.owner = u ∧
      u.port p = s.port p ∧ u.liveOf p = if p = j.owner then (s.liveOf p).filter (· != slot) else s.liveOf p := by
    refine ⟨_, rfl, hsettled.port, ?_⟩
    unfold State.freeSlot
    split
    · next ho =>
      subst ho
      rw [State.liveOf_setLive_same, hsettled.live]
    · next ho =>
      rw [State.liveOf_setLive_ne _ _ ho]
      exact hsettled.live
  rw [endJob_live e slot s j hj]
  dsimp only
  have hafter : u.Spares p (u.afterFree e.now slot j.owner) := spares_afterFree (by rw [hport, he]) slot
  split
  · show (State.afterFree e.now ((s.settleJob e.commits e.loud e.answers j).freeSlot slot j.owner) slot j.owner).port p = _ ∧
      (State.afterFree e.now ((s.settleJob e.commits e.loud e.answers j).freeSlot slot j.owner) slot j.owner).liveOf p = _
    rw [hu]
    exact ⟨hafter.port.trans hport, hafter.live.trans hlive⟩
  · show ((s.settleJob e.commits e.loud e.answers j).freeSlot slot j.owner).port p = _ ∧
      ((s.settleJob e.commits e.loud e.answers j).freeSlot slot j.owner).liveOf p = _
    rw [hu]
    exact ⟨hport, hlive⟩

theorem spares_endJob {e : EndPlan} {slot : Nat} (he : (s.port p).requests = [])
    (ho : ∀ j, s.job slot = some j → p ≠ j.owner) : s.Spares p (s.endJob e slot) := by
  cases hj : s.job slot with
  | none => rw [endJob_free e slot s hj]; exact .refl p s
  | some j =>
    have hne := ho j hj
    obtain ⟨hport, hlive⟩ := endJob_outcome (e := e) he hj (.inl hne)
    rw [if_neg hne] at hlive
    exact ⟨hport, hlive⟩

/-! ### The own rules of the requests -/

theorem spares_answered {body : List Byte} {effect : State → State} (hne : p ≠ q)
    (heffect : (s.beginAdmission q).Spares p (effect (s.beginAdmission q))) :
    Verdict.spares p s (s.answered q r body effect) :=
  Verdict.spares_accept (((spares_beginAdmission hne).trans heffect).trans (spares_answer hne _ _))

theorem spares_admitStreamChunk (hne : p ≠ q) : Verdict.spares p s (admitStreamChunk now q r s) := by
  have hjob : ∀ (u : State) n j, u.Spares p (u.setJob n j) := fun _ _ _ => ⟨rfl, rfl⟩
  unfold admitStreamChunk
  dsimp only
  split
  · split
    · exact Verdict.spares_refuse _
    · split
      · exact Verdict.spares_refuse _
      · unfold State.placeChunk
        split
        · exact Verdict.spares_accept (((spares_beginAdmission hne).trans (hjob _ _ _)).trans spares_arbitrateIf)
        · split
          · exact Verdict.spares_accept ((spares_beginAdmission hne).trans (hjob _ _ _))
          · exact Verdict.spares_wait _
  · exact Verdict.spares_refuse _

theorem spares_admitStreamClose (hne : p ≠ q) (he : (s.port p).requests = []) :
    Verdict.spares p s (admitStreamClose now q r s) := by
  have hbegin : s.Spares p (s.beginAdmission q) := spares_beginAdmission hne
  unfold admitStreamClose
  dsimp only
  split
  · exact Verdict.spares_refuse _
  · next j c hnamed =>
    obtain ⟨_, hj, _, ho, _⟩ := streamNamed_some hnamed
    split
    · exact Verdict.spares_refuse _
    · split
      · exact Verdict.spares_accept (hbegin.trans ⟨rfl, rfl⟩)
      · refine Verdict.spares_accept (hbegin.trans (spares_endJob (hbegin.requests he) fun x hx => ?_))
        rw [job_beginAdmission, hj] at hx
        cases hx
        rw [ho]
        exact hne

theorem spares_cancelWaiting {slot : Nat} {j : Job} (he : (s.port p).requests = [])
    (ho : ∀ x, s.job slot = some x → p ≠ x.owner) : s.Spares p (s.cancelWaiting now slot j) := by
  unfold State.cancelWaiting
  split
  · dsimp only
    split
    · exact (spares_endJob he ho).trans spares_closeCeremony
    · exact spares_endJob he ho
  · exact spares_endJob he ho

theorem spares_admitCancel (hne : p ≠ q) (he : (s.port p).requests = []) (hlist : s.jobsListed) :
    Verdict.spares p s (admitCancel now q r s) := by
  have hbegin : s.Spares p (s.beginAdmission q) := spares_beginAdmission hne
  unfold admitCancel
  dsimp only
  split
  · exact Verdict.spares_accept (hbegin.trans (spares_answer hne _ _))
  · next slot hfind =>
    have hrun : s.Spares p ((s.beginAdmission q).answer q r .accepted []) := hbegin.trans (spares_answer hne _ _)
    split
    · exact Verdict.spares_accept hrun
    · next j hj =>
      split
      · exact Verdict.spares_accept hrun
      · split
        · exact Verdict.spares_accept (hrun.trans ⟨rfl, rfl⟩)
        · refine Verdict.spares_accept (hrun.trans (spares_cancelWaiting (hrun.requests he) fun x hx => ?_))
          rw [State.answer, respond_job, job_beginAdmission] at hx
          obtain ⟨y, hy, ho⟩ := (hlist.1 q slot).1 (List.mem_of_find?_eq_some hfind)
          rw [hy] at hx
          cases hx
          rw [ho]
          exact hne

theorem spares_admitComponent (hne : p ≠ .cp) : Verdict.spares p s (admitComponent now .cp r s) := by
  unfold admitComponent
  dsimp only
  split
  · exact Verdict.spares_refuse _
  · split
    · exact Verdict.spares_refuse _
    · split
      · exact Verdict.spares_wait _
      · exact Verdict.spares_accept (((spares_beginAdmission hne).trans (spares_placeJob hne _)).trans spares_arbitrateIf)

theorem spares_admitAbandonCeremony (hne : p ≠ .cp) (he : (s.port p).requests = []) (hlist : s.jobsListed) :
    Verdict.spares p s (admitAbandonCeremony now .cp r s) := by
  have hbegin : s.Spares p (s.beginAdmission .cp) := spares_beginAdmission hne
  unfold admitAbandonCeremony
  dsimp only
  split
  · exact Verdict.spares_refuse _
  · split
    · exact Verdict.spares_accept ((hbegin.trans spares_closeCeremony).trans (spares_answer hne _ _))
    · split
      · exact Verdict.spares_refuse _
      · split
        · exact Verdict.spares_accept (hbegin.trans ⟨rfl, rfl⟩)
        · refine Verdict.spares_accept (((hbegin.trans (spares_endJob (hbegin.requests he) fun x hx => ?_)).trans
            spares_closeCeremony).trans (spares_answer hne _ _))
          rw [job_beginAdmission] at hx
          obtain ⟨_, _, hplace, _⟩ := hlist
          rw [((hplace _ x hx).1).2 rfl]
          exact hne

/-- The entry to ZEROISING leaves a port without jobs alone, but for its empty list. -/
theorem spares_enterZeroising (ha : s.alive = true) (hlist : s.jobsListed) (hnone : s.liveOf p = []) :
    s.Spares p s.enterZeroising := by
  have howed : s.tamperResponses p = [] := tamperResponses_none fun n j hj ho => by
    have hmem := (hlist.1 p n).2 ⟨j, hj, ho⟩
    rw [hnone] at hmem
    cases hmem
  refine ⟨?_, (liveOf_enterZeroising_on ha hlist p).trans hnone.symm⟩
  rw [port_enterZeroising_on ha (by simp [howed]), howed]
  simp

theorem spares_admitZeroiseAll (hne : p ≠ q) (ha : s.alive = true) (hlist : s.jobsListed) (hnone : s.liveOf p = []) :
    Verdict.spares p s (admitZeroiseAll q r s) := by
  have hbegin : s.Spares p (s.beginAdmission q) := spares_beginAdmission hne
  obtain ⟨_, _, htouch⟩ := beginAdmission_touches s q
  have hcause : s.Spares p ((s.beginAdmission q).addCause .requested) := hbegin.trans ⟨rfl, rfl⟩
  have halive : ((s.beginAdmission q).addCause .requested).alive = true := by rw [htouch]; exact ha
  have hlist' : ((s.beginAdmission q).addCause .requested).jobsListed := by rw [htouch]; exact hlist
  refine Verdict.spares_accept ((hcause.trans (spares_enterZeroising halive hlist' (hcause.live.trans hnone))).trans ⟨rfl, rfl⟩)

theorem spares_admitClearLockout (hne : p ≠ q) : Verdict.spares p s (admitClearLockout q r s) := by
  unfold admitClearLockout
  split
  · exact Verdict.spares_refuse _
  · have hunlock : ∀ u : State, u.Spares p { u with causes := [], firstCause := none, mode := .operating } := fun _ => ⟨rfl, rfl⟩
    exact Verdict.spares_accept ((((spares_beginAdmission hne).trans (hunlock _)).trans (spares_answer hne _ _)).trans
      (spares_addTries _))

/-! ### The requests that are answered at once -/

section AnsweredAtOnce

variable (hne : p ≠ q)
include hne

theorem spares_answered_nothing {body : List Byte} : Verdict.spares p s (s.answered q r body id) :=
  spares_answered hne (.refl p _)

theorem spares_answered_entry {body : List Byte} {n : Nat} {e : Entry} :
    Verdict.spares p s (s.answered q r body fun t => t.setEntry n e) := spares_answered hne ⟨rfl, rfl⟩

theorem spares_answered_batch {body : List Byte} {n : Nat} {b : Batch} :
    Verdict.spares p s (s.answered q r body fun t => t.setBatch n b) := spares_answered hne ⟨rfl, rfl⟩

theorem spares_admitCreateKeyEntry : Verdict.spares p s (admitCreateKeyEntry q r s) := by
  unfold admitCreateKeyEntry
  dsimp only
  split
  · exact Verdict.spares_refuse _
  · split
    · split
      · exact Verdict.spares_refuse _
      · exact spares_answered_entry hne
    · exact Verdict.spares_refuse _

theorem spares_admitRemoveEntry : Verdict.spares p s (admitRemoveEntry q r s) := by
  unfold admitRemoveEntry
  dsimp only
  split
  · exact Verdict.spares_refuse _
  · exact spares_answered_entry hne

theorem spares_admitSwapCell : Verdict.spares p s (admitSwapCell q r s) := by
  unfold admitSwapCell
  dsimp only
  split
  · exact Verdict.spares_refuse _
  · split
    · split
      · exact spares_answered_entry hne
      · exact Verdict.spares_refuse _
    · exact Verdict.spares_refuse _

theorem spares_admitDiscardCell : Verdict.spares p s (admitDiscardCell q r s) := by
  unfold admitDiscardCell
  dsimp only
  split
  · exact Verdict.spares_refuse _
  · split
    · exact Verdict.spares_refuse _
    · split
      · split
        · exact spares_answered_entry hne
        all_goals exact Verdict.spares_refuse _
      · exact Verdict.spares_refuse _

theorem spares_admitCreateGate : Verdict.spares p s (admitCreateGate q r s) := by
  unfold admitCreateGate
  dsimp only
  split
  · exact Verdict.spares_refuse _
  · split
    · exact Verdict.spares_refuse _
    · split
      · exact spares_answered_entry hne
      · exact Verdict.spares_refuse _

theorem spares_admitReadEntry : Verdict.spares p s (admitReadEntry q r s) := by
  unfold admitReadEntry
  dsimp only
  split
  · exact Verdict.spares_refuse _
  · exact spares_answered_nothing hne

theorem spares_admitBindPort : Verdict.spares p s (admitBindPort q r s) := by
  unfold admitBindPort
  split
  · exact spares_answered hne ⟨rfl, rfl⟩
  · exact Verdict.spares_refuse _

theorem spares_admitBeginCeremony : Verdict.spares p s (admitBeginCeremony q r s) := by
  unfold admitBeginCeremony
  dsimp only
  split
  · exact Verdict.spares_refuse _
  · split
    · exact Verdict.spares_refuse _
    · split
      · split
        · exact Verdict.spares_refuse _
        · split
          · exact Verdict.spares_refuse _
          · exact spares_answered hne ⟨rfl, rfl⟩
      · exact Verdict.spares_refuse _

theorem spares_admitOpenBatch : Verdict.spares p s (admitOpenBatch q r s) := by
  unfold admitOpenBatch
  dsimp only
  split
  · exact Verdict.spares_refuse _
  · exact spares_answered_batch hne

theorem spares_admitPauseBatch : Verdict.spares p s (admitPauseBatch q r s) := by
  unfold admitPauseBatch
  dsimp only
  split
  · exact Verdict.spares_refuse _
  · exact spares_answered_batch hne

theorem spares_admitResumeBatch : Verdict.spares p s (admitResumeBatch q r s) := by
  unfold admitResumeBatch
  dsimp only
  split
  · exact Verdict.spares_refuse _
  · exact spares_answered_batch hne

theorem spares_admitCloseBatch : Verdict.spares p s (admitCloseBatch q r s) := by
  unfold admitCloseBatch
  dsimp only
  split
  · exact Verdict.spares_refuse _
  · refine spares_answered hne ?_
    split_ifs
    all_goals exact ⟨rfl, rfl⟩

theorem spares_admitReadMap : Verdict.spares p s (admitReadMap q r s) := by
  unfold admitReadMap
  dsimp only
  split
  · exact Verdict.spares_refuse _
  · exact spares_answered_nothing hne

theorem spares_admitQueryBatch : Verdict.spares p s (admitQueryBatch q r s) := by
  unfold admitQueryBatch
  dsimp only
  split
  · exact Verdict.spares_refuse _
  · exact spares_answered_nothing hne

theorem spares_admitSpoil : Verdict.spares p s (admitSpoil q r s) := by
  unfold admitSpoil
  dsimp only
  split
  · exact Verdict.spares_refuse _
  · exact spares_answered_batch hne

theorem spares_admitSetAttn : Verdict.spares p s (admitSetAttn q r s) := by
  unfold admitSetAttn
  split
  · exact Verdict.spares_refuse _
  · split
    · exact Verdict.spares_refuse _
    · exact spares_answered hne (spares_setPort hne _)

theorem spares_admitStatus : Verdict.spares p s (admitStatus q r s) := by
  unfold admitStatus
  exact spares_answered hne ⟨rfl, rfl⟩

end AnsweredAtOnce

/-! ### The tries of an event -/

/-- A port without requests and jobs, with the jobs of the part listed as R83 to R88 say. -/
structure State.AtRest (s : State) (p : Port) : Prop where
  requests : (s.port p).requests = []
  live : s.liveOf p = []
  listed : s.jobsListed

theorem spares_admitRequest (hrest : s.AtRest p) (ha : s.alive = true) (hne : p ≠ q) (hc : s.commonRefusal q r = none) :
    Verdict.spares p s (admitRequest now q r s) := by
  obtain ⟨he, hnone, hlist⟩ := hrest
  unfold admitRequest
  unfold State.commonRefusal at hc
  cases hk : kindOf r.code with
  | none => exact Verdict.spares_refuse _
  | some k =>
    rw [hk] at hc
    obtain ⟨hall, _⟩ := firstFailure_cons_none.1 hc
    cases k with
    | derive => exact spares_admitDerive hne
    | spoil => exact spares_admitSpoil hne
    | streamOpen => exact spares_admitStreamOpen hne
    | streamChunk => exact spares_admitStreamChunk hne
    | streamClose => exact spares_admitStreamClose hne he
    | cancel => exact spares_admitCancel hne he hlist
    | setAttn => exact spares_admitSetAttn hne
    | queryBatch => exact spares_admitQueryBatch hne
    | createKeyEntry => exact spares_admitCreateKeyEntry hne
    | removeEntry => exact spares_admitRemoveEntry hne
    | swapCell => exact spares_admitSwapCell hne
    | discardCell => exact spares_admitDiscardCell hne
    | readEntry => exact spares_admitReadEntry hne
    | createGate => exact spares_admitCreateGate hne
    | bindPort => exact spares_admitBindPort hne
    | beginCeremony => exact spares_admitBeginCeremony hne
    | component =>
      have hq := custody_of_allowed rfl hall
      subst hq
      exact spares_admitComponent hne
    | abandonCeremony =>
      have hq := custody_of_allowed rfl hall
      subst hq
      exact spares_admitAbandonCeremony hne he hlist
    | openBatch => exact spares_admitOpenBatch hne
    | pauseBatch => exact spares_admitPauseBatch hne
    | resumeBatch => exact spares_admitResumeBatch hne
    | closeBatch => exact spares_admitCloseBatch hne
    | readMap => exact spares_admitReadMap hne
    | zeroiseAll => exact spares_admitZeroiseAll hne ha hlist hnone
    | clearLockout => exact spares_admitClearLockout hne
    | status => exact spares_admitStatus hne

/-- The tries of an event leave a port without requests and jobs alone. -/
theorem spares_settle (n : Nat) (hrest : s.AtRest p) (ha : s.alive = true) : s.Spares p (State.settle now n s) := by
  induction n generalizing s with
  | zero => exact ⟨rfl, rfl⟩
  | succ n ih =>
    unfold State.settle
    split
    · exact ⟨rfl, rfl⟩
    · next q u hpick =>
      obtain ⟨_, tries, choices, hu⟩ := pickTry_due s u q hpick
      have haside : s.Spares p u := by rw [hu]; exact ⟨rfl, rfl⟩
      have hlist : u.jobsListed := by rw [hu]; exact hrest.listed
      have hua : u.alive = true := by rw [hu]; exact ha
      have hurest : u.AtRest p := ⟨haside.requests hrest.requests, haside.live.trans hrest.live, hlist⟩
      have htried : u.Spares p (u.tryHead now q).2 :=
        spares_tryWith hurest.requests fun hne r hc => spares_admitRequest hurest hua hne hc
      have hmoves : Moves False now u (u.tryHead now q).2 := moves_tryHead q False.elim
      refine (haside.trans htried).trans (ih ⟨htried.requests hurest.requests, htried.live.trans hurest.live, ?_⟩ ?_)
      · exact hmoves.keeps_jobsListed hlist
      · exact hmoves.alive.trans hua

theorem spares_runTries (hrest : s.AtRest p) (ha : s.alive = true) : s.Spares p (s.runTries now) := spares_settle _ hrest ha

end Sys2Proof.Machine
end

/-! PROOF. A port reset and its release (R154, R100, R112, R56). -/

section
namespace Sys2Proof.Machine

variable {s t : State} {now : Bool} {p : Port}

/-! ### The port's jobs end (R100) -/

/-- The end of one of the port's jobs by the reset: the job leaves the port's list, and the rest of the port stays as it is. -/
theorem endJob_reset {n : Nat} {ns : List Nat} (he : (s.port p).requests = []) (hlist : s.jobsListed)
    (hlive : s.liveOf p = n :: ns) :
    (∃ j, s.job n = some j ∧ j.owner = p) ∧ (s.endJob (resetPlan now) n).port p = s.port p ∧
      (s.endJob (resetPlan now) n).liveOf p = ns ∧ (s.endJob (resetPlan now) n).jobsListed ∧
      (s.endJob (resetPlan now) n).alive = s.alive := by
  obtain ⟨j, hj, ho⟩ := (hlist.1 p n).1 (by rw [hlive]; exact List.mem_cons_self)
  obtain ⟨hport, hrest⟩ := endJob_outcome (e := resetPlan now) he hj (.inr rfl)
  have hmoves : Moves False now s (s.endJob (resetPlan now) n) := moves_endJob rfl False.elim
  refine ⟨⟨j, hj, ho⟩, hport, ?_, hmoves.keeps_jobsListed hlist, hmoves.alive⟩
  have hnodup : (n :: ns).Nodup := hlive ▸ hlist.2.1 p
  rw [hrest, if_pos ho.symm, hlive, List.filter_cons_of_neg (by simp), List.filter_eq_self]
  intro m hm
  have : m ≠ n := fun hmn => (List.nodup_cons.1 hnodup).1 (hmn ▸ hm)
  simpa using this

/-- All of the port's jobs end, whatever heads of other ports take the slots that come free. -/
theorem endJobs_reset (ns : List Nat) (he : (s.port p).requests = []) (hlist : s.jobsListed) (hlive : s.liveOf p = ns) :
    (ns.foldl (fun t slot => t.endJob (resetPlan now) slot) s).port p = s.port p ∧
      (ns.foldl (fun t slot => t.endJob (resetPlan now) slot) s).liveOf p = [] ∧
      (ns.foldl (fun t slot => t.endJob (resetPlan now) slot) s).jobsListed ∧
      (ns.foldl (fun t slot => t.endJob (resetPlan now) slot) s).alive = s.alive := by
  induction ns generalizing s with
  | nil => exact ⟨rfl, hlive, hlist, rfl⟩
  | cons n ns ih =>
    obtain ⟨_, hport, hlive', hlist', halive⟩ := endJob_reset (now := now) he hlist hlive
    obtain ⟨h1, h2, h3, h4⟩ := ih (by rw [hport, he]) hlist' hlive'
    exact ⟨h1.trans hport, h2, h3, h4.trans halive⟩

theorem spares_resetRest {q : Port} : s.Spares p (s.resetRest q) ∧ (s.jobsListed → (s.resetRest q).jobsListed) ∧
    (s.resetRest q).alive = s.alive ∧ (s.resetRest q).tries = s.tries := by
  cases q with
  | line l => exact ⟨⟨rfl, rfl⟩, id, rfl, rfl⟩
  | cp =>
    obtain ⟨_, h⟩ := closeCeremony_touches s
    unfold State.resetRest
    rw [h]
    exact ⟨⟨rfl, rfl⟩, id, rfl, rfl⟩

/-- A port after its reset has no job, and its unit has the values of the reset (R154 steps 1 to 5). -/
theorem resetPort_outcome (ha : s.alive = true) (hlist : s.jobsListed) :
    (s.resetPort p).port p = (s.port p).resetValues ∧ (s.resetPort p).liveOf p = [] := by
  obtain ⟨now, hnow⟩ : ∃ now, now = (!s.grantOwnedBy p && !(s.liveOf p).any s.waitingAt) := ⟨_, rfl⟩
  obtain ⟨u, hu⟩ : ∃ u, u = if s.grantOwnedBy p then { s.portEmptied p with engine := none } else s.portEmptied p := ⟨_, rfl⟩
  have hfields : u.port p = (s.port p).resetValues ∧ u.liveOf p = s.liveOf p ∧ u.jobsListed ∧ u.alive = true := by
    have hport : (s.portEmptied p).port p = (s.port p).resetValues := by
      rw [State.portEmptied, State.port_leaveWaitList, State.port_setPort_same]
    have hmoves : Moves False false s (s.portEmptied p) := moves_portEmptied p
    have hlist' := hmoves.keeps_jobsListed hlist
    have halive : (s.portEmptied p).alive = true := hmoves.alive.trans ha
    rw [hu]
    split
    · exact ⟨hport, liveOf_portEmptied s p p, hlist', halive⟩
    · exact ⟨hport, liveOf_portEmptied s p p, hlist', halive⟩
  obtain ⟨hport, hlive, hulist, hua⟩ := hfields
  obtain ⟨v, hv⟩ : ∃ v, v = u.endJobsOf now p := ⟨_, rfl⟩
  obtain ⟨hvport, hvlive, hvlist, hva⟩ : v.port p = u.port p ∧ v.liveOf p = [] ∧ v.jobsListed ∧ v.alive = u.alive := by
    rw [hv]
    exact endJobs_reset (now := now) (u.liveOf p) (by rw [hport]; rfl) hulist rfl
  obtain ⟨hrest, hrestlist, hrestalive, _⟩ := spares_resetRest (s := v) (p := p) (q := p)
  have htries : (v.resetRest p).Spares p ((v.resetRest p).runTries now) :=
    spares_runTries ⟨by rw [hrest.port, hvport, hport]; rfl, hrest.live.trans hvlive, hrestlist hvlist⟩
      (hrestalive.trans (hva.trans hua))
  have htotal : v.Spares p (s.resetPort p) := by
    have hreset : s.resetPort p = if s.grantOwnedBy p then ((v.resetRest p).runTries now).arbitrate
        else (v.resetRest p).runTries now := by rw [hv, hu, hnow]; rfl
    rw [hreset]
    split
    · exact (hrest.trans htries).trans spares_arbitrate
    · exact hrest.trans htries
  exact ⟨by rw [htotal.port, hvport, hport], htotal.live.trans hvlive⟩

/-! ### Where nothing else waits -/

section JobReset

variable {n : Nat} {j : Job} (hj : s.job n = some j)
include hj

theorem jobReset_derive {c : DeriveCtx} (hctx : j.ctx = .derive c) :
    s.jobReset n = State.jobGone (s.releasePos c.batch c.pos) n j := by
  unfold State.jobReset
  rw [hj]
  dsimp only
  rw [hctx]

theorem jobReset_stream {c : StreamCtx} (hctx : j.ctx = .stream c) : s.jobReset n = State.jobGone s n j := by
  unfold State.jobReset
  rw [hj]
  dsimp only
  rw [hctx]

theorem jobReset_custody {c : CustodyCtx} (hctx : j.ctx = .custody c) : s.jobReset n = s.freeSlot n j.owner := by
  unfold State.jobReset
  rw [hj]
  dsimp only
  rw [hctx]
  rfl

end JobReset

/-- Where no port waits for a slot, and no head of the owner waits, a job's end by the reset is that of R100 alone. -/
theorem endJob_jobReset {n : Nat} {j : Job} (hj : s.job n = some j) (hlist : s.jobsListed) (hw : s.waitList = [])
    (hwait : (s.port j.owner).wait = .none) : s.endJob (resetPlan now) n = s.jobReset n := by
  obtain ⟨_, _, hplace, _⟩ := hlist
  obtain ⟨howner, hcustody⟩ := hplace n j hj
  have hline : (∀ c, j.ctx ≠ .custody c) → n < 15 := fun hc => by
    have h15 : n ≠ 15 := fun h => by
      obtain ⟨c, hctx⟩ := hcustody.2 h
      exact hc c hctx
    have := State.lt_of_job hj
    omega
  cases hctx : j.ctx with
  | derive c =>
    rw [endJob_rested (e := resetPlan now) hj rfl (.inl hw) hwait (by simp [hctx]) rfl (hline (by simp [hctx])),
      jobReset_derive hj hctx]
    exact congrArg (State.jobGone · n j) (settlePosition_derive false s hctx)
  | stream c =>
    rw [endJob_rested (e := resetPlan now) hj rfl (.inl hw) hwait (by simp [hctx]) rfl (hline (by simp [hctx])),
      jobReset_stream hj hctx]
    exact congrArg (State.jobGone · n j) (settlePosition_stream false s hctx)
  | custody c =>
    have hcp : j.owner = .cp := howner.2 (hcustody.1 ⟨c, hctx⟩)
    rw [endJob_custodyRested (e := resetPlan now) hj rfl (.inl hw) hwait hctx hcp, jobReset_custody hj hctx, hcp]
    rfl

theorem jobReset_touches (s : State) (n : Nat) : ∃ keys batches notices slots live, s.jobReset n =
    { s with keys := keys, batches := batches, notices := notices, slots := slots, live := live } := by
  unfold State.jobReset
  split
  · exact ⟨s.keys, s.batches, s.notices, s.slots, s.live, rfl⟩
  · next j _ =>
    split
    · next c _ =>
      obtain ⟨_, _, h1⟩ := releasePos_touches s c.batch c.pos
      obtain ⟨_, _, _, _, h2⟩ := jobGone_touches (s.releasePos c.batch c.pos) n j
      rw [h2, h1]
      exact ⟨_, _, _, _, _, rfl⟩
    · obtain ⟨_, _, _, _, h⟩ := jobGone_touches s n j
      rw [h]
      exact ⟨_, s.batches, _, _, _, rfl⟩
    · exact ⟨s.keys, s.batches, s.notices, _, _, rfl⟩

/-- The jobs of a port that is emptied end one after the other by R100 alone, where no port waits for a slot. -/
theorem endJobs_jobReset (ns : List Nat) (he : (s.port p).requests = []) (hlist : s.jobsListed) (hlive : s.liveOf p = ns)
    (hw : s.waitList = []) (hwait : (s.port p).wait = .none) :
    ns.foldl (fun t slot => t.endJob (resetPlan now) slot) s = ns.foldl State.jobReset s := by
  induction ns generalizing s with
  | nil => rfl
  | cons n ns ih =>
    obtain ⟨⟨j, hj, ho⟩, hport, hlive', hlist', _⟩ := endJob_reset (now := now) he hlist hlive
    have hstep := endJob_jobReset (now := now) hj hlist hw (by rw [ho]; exact hwait)
    obtain ⟨_, _, _, _, _, htouch⟩ := jobReset_touches s n
    rw [List.foldl_cons, List.foldl_cons]
    rw [hstep] at hport hlive' hlist' ⊢
    exact ih (by rw [hport, he]) hlist' hlive' (by rw [htouch]; exact hw) (by rw [hport, hwait])

theorem tries_jobResets (ns : List Nat) (s : State) : (ns.foldl State.jobReset s).tries = s.tries := by
  induction ns generalizing s with
  | nil => rfl
  | cons n ns ih =>
    obtain ⟨_, _, _, _, _, htouch⟩ := jobReset_touches s n
    rw [List.foldl_cons, ih, htouch]

theorem exec_portReset (ha : s.alive = true) (hr : (s.port p).resetIn = false) :
    exec (.portReset p) s = .next (s.resetPort p) := by
  have h : exec (.portReset p) s = execPortReset p s := rfl
  rw [h]
  unfold execPortReset
  rw [hr, ha]
  rfl

theorem grantOwnedBy_iff : s.grantOwnedBy p = true ↔ ∃ g j, s.engine = some g ∧ s.job g.slot = some j ∧ j.owner = p := by
  unfold State.grantOwnedBy
  cases s.engine with
  | none => simp
  | some g => cases hj : s.job g.slot <;> simp [hj]

/-- The reset of a port where no head stands at another port: the emptying, the ends of its jobs and what becomes of the rest. -/
theorem resetPort_alone (ht : s.tries = []) (hlist : s.jobsListed) (hw : s.waitList = []) :
    s.resetPort p =
      if s.grantOwnedBy p then
        (((s.liveOf p).foldl State.jobReset
          (State.setPort { s with engine := none } p (s.port p).resetValues)).resetRest p).arbitrate
      else ((s.liveOf p).foldl State.jobReset (s.setPort p (s.port p).resetValues)).resetRest p := by
  have hrun : ∀ (u : State) (now : Bool), u.tries = [] → (u.port p) = (s.port p).resetValues → u.jobsListed →
      u.liveOf p = s.liveOf p → u.waitList = [] →
      ((u.endJobsOf now p).resetRest p).runTries now = ((s.liveOf p).foldl State.jobReset u).resetRest p := by
    intro u now hut hup hul hulive huw
    have hends : u.endJobsOf now p = (s.liveOf p).foldl State.jobReset u := by
      unfold State.endJobsOf
      rw [hulive]
      exact endJobs_jobReset _ (by rw [hup]; rfl) hul hulive huw (by rw [hup]; rfl)
    rw [hends]
    refine runTries_of_tries ?_
    obtain ⟨_, _, _, htries⟩ := spares_resetRest (s := (s.liveOf p).foldl State.jobReset u) (p := p) (q := p)
    rw [htries, tries_jobResets, hut]
  have hempty : s.portEmptied p = s.setPort p (s.port p).resetValues := leaveWaitList_empty hw
  unfold State.resetPort
  dsimp only
  rw [show (s.setPort p (s.port p).resetValues).leaveWaitList p = s.setPort p (s.port p).resetValues from hempty]
  cases s.grantOwnedBy p with
  | true =>
    simp only [if_true]
    rw [hrun { s.setPort p (s.port p).resetValues with engine := none } _ ht (State.port_setPort_same _ _ _) hlist rfl hw]
    rfl
  | false =>
    simp only [Bool.false_eq_true, if_false]
    exact hrun (s.setPort p (s.port p).resetValues) _ ht (State.port_setPort_same _ _ _) hlist rfl hw

/-- Settles O39: the port's own state whatever heads wait, then the whole next state where none does. -/
theorem portResetEmptiesThePort : Obligations.PortResetEmptiesThePort := by
  intro s p unit
  have hunit : (s.port p).resetValues = unit := rfl
  refine ⟨fun ha hr _ hlist => ?_, fun ha hr ht hlive howned => ?_, fun ha hr ht hlist hw _ => ?_, rfl⟩
  · obtain ⟨hport, hlive⟩ := resetPort_outcome (p := p) ha hlist
    have hdown : (s.resetPort p).linkTakes p = false := by simp [State.linkTakes, hport, hunit, unit]
    refine ⟨_, exec_portReset ha hr, hlive, hport.trans hunit, ?_, ?_, ?_⟩
    · rw [State.ready, hdown]
      rfl
    · rw [State.attnHigh, hdown]
      rfl
    · rw [State.dataOut, hport]
      rfl
  · have hreset : s.resetPort p = ((s.setPort p unit).leaveWaitList p).resetRest p := by
      obtain ⟨u, hu, hut, hulive⟩ : ∃ u, (s.setPort p unit).leaveWaitList p = u ∧ u.tries = [] ∧ u.liveOf p = [] :=
        ⟨_, rfl, by rw [State.leaveWaitList_tries]; exact ht, by simpa using hlive⟩
      unfold State.resetPort State.endJobsOf
      dsimp only
      rw [howned, hunit, hu]
      simp only [Bool.false_eq_true, if_false]
      rw [hulive]
      exact runTries_of_tries (by
        obtain ⟨_, _, _, htries⟩ := spares_resetRest (s := u) (p := p) (q := p)
        exact htries.trans hut)
    rw [exec_portReset ha hr, hreset]
    refine ⟨?_, ?_⟩
    · rintro l rfl
      rfl
    · rintro rfl
      rfl
  · intro ended cleared
    have hcleared : ∀ u : State, (ended u).resetRest p = cleared u := fun u => by cases p <;> rfl
    have hreset := resetPort_alone (p := p) ht hlist hw
    rw [exec_portReset ha hr, hreset]
    refine ⟨fun hother => ?_, fun g j hg hj ho => ?_⟩
    · have howned : s.grantOwnedBy p = false := by
        rw [Bool.eq_false_iff]
        intro h
        obtain ⟨g, j, hg, hj, ho⟩ := grantOwnedBy_iff.1 h
        exact hother g j hg hj ho
      rw [howned, if_neg (by simp)]
      exact congrArg _ (hcleared s)
    · rw [grantOwnedBy_iff.2 ⟨g, j, hg, hj, ho⟩, if_pos rfl]
      exact congrArg (fun u : State => Host.Outcome.next u.arbitrate) (hcleared { s with engine := none })

end Sys2Proof.Machine
end

/-! PROOF. The end of a request frame: what it places or discards, and the tries that it causes (R141, R142, R144, R89, R93,
R95). -/

section
namespace Sys2Proof.Machine

variable {s t : State} {p : Port}

/-! ### The frame that ends -/

theorem exec_frameEnd (p : Port) (bytes : List Byte) (s : State) :
    exec (.frameEnd p bytes) s = .next (((s.clockBytes p bytes).selectRises p).triesAtFrameEnd p) := rfl

/-- The bytes of a frame in progress that does not turn out to be a fetch frame are kept in order (R141). -/
theorem clockBytes_kept {got bytes : List Byte} (hf : (s.port p).frame = .placing got) (hg : got = [] → bytes.head? ≠ some 0x0F) :
    s.clockBytes p bytes = s.setPort p { s.port p with frame := .placing (got ++ bytes) } := by
  have hport : s.port p = { s.port p with frame := .placing got } := by rw [← hf]
  cases got with
  | cons g got => exact clockBytes_placing s p g got bytes (s.port p) hport
  | nil =>
    cases bytes with
    | nil =>
      rw [List.append_nil, ← hport]
      exact (State.setPort_self s p).symm
    | cons b bs =>
      refine clockBytes_start s p b bs (s.port p) hport fun hb => hg rfl ?_
      rw [hb]
      rfl

theorem clockBytes_ignored (bytes : List Byte) (hf : (s.port p).frame = .ignored) : s.clockBytes p bytes = s := by
  induction bytes with
  | nil => rfl
  | cons b bs ih =>
    have hstep : State.clockByte p s b = s := by
      unfold State.clockByte
      dsimp only
      rw [hf]
    show State.clockBytes (State.clockByte p s b) p bs = s
    rw [hstep]
    exact ih

/-- A frame end without a head to try. -/
theorem triesAtFrameEnd_quiet (h : s.tries = []) : s.triesAtFrameEnd p = s := by
  unfold State.triesAtFrameEnd
  rw [if_neg (by simp [h]), runTries_of_tries h]

/-- A frame end that meets no reset of its port. -/
theorem triesAtFrameEnd_tried (h : s.pending.head? ≠ some (.portReset p)) : s.triesAtFrameEnd p = s.runTries true := by
  unfold State.triesAtFrameEnd
  rw [if_neg fun hc => h hc.1]

/-- A frame end that may meet a reset of its port, whose head alone is to be tried (log 39). -/
theorem triesAtFrameEnd_meets (hp : s.pending.head? = some (.portReset p)) (hl : s.linkTakes p = true) (ht : s.tries = [p]) :
    s.triesAtFrameEnd p = { s with choices := s.choices + 1, tries := [] } ∨
      s.triesAtFrameEnd p = ({ s with choices := s.choices + 1 } : State).runTries true := by
  unfold State.triesAtFrameEnd
  rw [if_pos ⟨hp, hl, by rw [ht]; exact List.mem_singleton_self p⟩]
  dsimp only
  split
  · refine .inl ?_
    rw [show s.tries.filter (· != p) = [] by rw [ht]; simp]
    exact runTries_of_tries rfl
  · exact .inr rfl

/-- The port once frame select is high again. -/
def PortUnit.released (u : PortUnit) : PortUnit := { u with frame := .none, selectLow := false }

section Placing

variable {got bytes : List Byte} (hf : (s.port p).frame = .placing got) (hg : got = [] → bytes.head? ≠ some 0x0F)
include hf hg

theorem selectRises_request {flags : Byte} {r : Request} (hr : frameRequest (got ++ bytes) = some (flags, r)) :
    (s.clockBytes p bytes).selectRises p = (s.setPort p (s.port p).released).placeRequest p flags r := by
  rw [clockBytes_kept hf hg]
  unfold State.selectRises
  rw [State.port_setPort_same]
  dsimp only
  rw [hr, State.setPort_setPort]
  rfl

theorem selectRises_discarded (hr : frameRequest (got ++ bytes) = none) :
    (s.clockBytes p bytes).selectRises p = s.setPort p ((s.port p).released.recordFault .frameLength) := by
  rw [clockBytes_kept hf hg]
  unfold State.selectRises
  rw [State.port_setPort_same]
  dsimp only
  rw [hr]
  dsimp only
  rw [State.port_setPort_same, State.setPort_setPort, State.setPort_setPort]
  rfl

end Placing

theorem frameRequest_of {code flags tag len : Byte} {body all : List Byte} (h : all = code :: flags :: tag :: len :: body)
    (hlen : len.toNat ≤ 88) (hbody : body.length = len.toNat) : frameRequest all = some (flags, ⟨code, tag, body⟩) := by
  subst h
  exact if_pos ⟨hlen, hbody⟩

/-- A frame that fails a test of R142. -/
theorem frameRequest_none {all : List Byte}
    (h : ¬ (4 ≤ all.length ∧ (all.getD 3 0).toNat ≤ 88 ∧ all.length = 4 + (all.getD 3 0).toNat)) : frameRequest all = none := by
  unfold frameRequest
  split
  · next code flags tag len body =>
    refine if_neg fun hc => h ⟨by simp, hc.1, ?_⟩
    obtain ⟨_, hlength⟩ := hc
    simp only [List.length_cons, List.getD_cons_succ, List.getD_cons_zero]
    omega
  · rfl

/-! ### The request that is placed -/

theorem kindOf_some {code : Byte} {k : ReqKind} (h : kindOf code = some k) : code = k.code := by
  by_cases hknown : code ∈ knownCodes
  · simp only [knownCodes, List.mem_cons, List.not_mem_nil, or_false] at hknown
    rcases hknown with rfl | rfl | rfl | rfl | rfl | rfl | rfl | rfl | rfl | rfl | rfl | rfl | rfl | rfl | rfl | rfl | rfl | rfl |
      rfl | rfl | rfl | rfl | rfl | rfl | rfl | rfl <;> (cases h; rfl)
  · rw [kindOf_unknown hknown] at h
    cases h

theorem placedAtTop_iff {flags code : Byte} :
    placedAtTop flags code = true ↔ flags = 0x01 ∧ code ∈ [(0x08 : Byte), 0x09, 0x0A, 0x32] := by
  unfold placedAtTop
  rw [Bool.and_eq_true, beq_iff_eq]
  refine and_congr_right fun _ => ⟨fun h => ?_, fun h => ?_⟩
  · split at h
    · next k hk =>
      rw [kindOf_some hk]
      cases k with
      | cancel | setAttn | queryBatch | status => decide
      | _ => cases h
    · cases h
  · simp only [List.mem_cons, List.not_mem_nil, or_false] at h
    rcases h with rfl | rfl | rfl | rfl <;> rfl

/-- An urgent request needs no line slot (R93). -/
theorem needsSlot_urgent {code tag : Byte} {body : List Byte} (h : code ∈ [(0x08 : Byte), 0x09, 0x0A, 0x32]) :
    needsSlot p ⟨code, tag, body⟩ = false := by
  simp only [List.mem_cons, List.not_mem_nil, or_false] at h
  unfold needsSlot
  rcases h with rfl | rfl | rfl | rfl <;> exact Bool.and_false _

/-- The port with a request at the head of its queue, which waits for nothing yet. -/
def PortUnit.headed (u : PortUnit) (r : Request) : PortUnit := { u.released with requests := r :: u.requests, wait := .none }

theorem placeRequest_tail {flags : Byte} {r : Request} (htop : placedAtTop flags r.code = false)
    (hne : (s.port p).requests ≠ []) :
    (s.setPort p (s.port p).released).placeRequest p flags r =
      s.setPort p { (s.port p).released with requests := (s.port p).requests ++ [r] } := by
  unfold State.placeRequest
  rw [State.port_setPort_same]
  dsimp only
  rw [htop, if_neg (by simp), if_neg (by simpa [PortUnit.released] using hne), State.setPort_setPort]
  rfl

theorem placeRequest_head {flags : Byte} {r : Request} (h : (s.port p).requests = [] ∨ placedAtTop flags r.code = true) :
    (s.setPort p (s.port p).released).placeRequest p flags r = (s.setPort p ((s.port p).headed r)).addTry p := by
  unfold State.placeRequest
  rw [State.port_setPort_same]
  dsimp only
  split
  · rw [State.setPort_setPort]
    rfl
  · next htop =>
    have hnone := h.resolve_right htop
    rw [if_pos (by rw [PortUnit.released, hnone]; rfl), State.setPort_setPort, PortUnit.headed, hnone]

/-! ### One try after the other -/

/-- The try of the one head that is due. -/
theorem settle_listed {now : Bool} (n : Nat) (hs : s.tries = []) (hreq : (s.port p).requests ≠ []) :
    State.settle now (n + 1) (s.addTry p) = State.settle now n (State.tryHead now p s).2 := by
  have htries : (s.addTry p).tries = [p] := by simp [State.addTry, hs]
  have hdue : (s.addTry p).triesDue = [p] := by
    unfold State.triesDue
    rw [htries]
    simp [hreq]
  have hpick : (s.addTry p).pickTry = some (p, { s.addTry p with tries := [] }) := by simp [State.pickTry, hdue]
  rw [State.settle, hpick]
  exact congrArg (fun u => State.settle now n (State.tryHead now p u).2) (addTry_cleared s p hs)

theorem tryBound_addTry (hs : s.tries = []) : ∃ n, (s.addTry p).tryBound = n + 2 := by
  have htries : (s.addTry p).tries = [p] := by simp [State.addTry, hs]
  unfold State.tryBound
  rw [htries]
  exact ⟨6 * (s.addTry p).placedRequests, rfl⟩

/-- The one head that is due waits, and no other head is due. -/
theorem runTries_waits {now : Bool} {what : Tried} (hs : s.tries = []) (hreq : (s.port p).requests ≠ [])
    (htry : State.tryHead now p s = (what, t)) (ht : t.tries = []) : (s.addTry p).runTries now = t := by
  obtain ⟨n, hn⟩ := tryBound_addTry (s := s) (p := p) hs
  unfold State.runTries
  rw [hn, settle_listed _ hs hreq, htry, settle_done _ _ _ (triesDue_of_tries t ht)]
  exact tries_cleared ht

/-- The one head that is due is taken, and the head behind it waits (R89). -/
theorem runTries_next {now : Bool} {u : State} {what : Tried} (hs : s.tries = []) (hreq : (s.port p).requests ≠ [])
    (hfirst : State.tryHead now p s = (what, u.addTry p)) (hu : u.tries = []) (hureq : (u.port p).requests ≠ [])
    (hnext : State.tryHead now p u = (.waits, t)) (ht : t.tries = []) : (s.addTry p).runTries now = t := by
  obtain ⟨n, hn⟩ := tryBound_addTry (s := s) (p := p) hs
  unfold State.runTries
  rw [hn, settle_listed _ hs hreq, hfirst, settle_listed _ hu hureq, hnext, settle_done _ _ _ (triesDue_of_tries t ht)]
  exact tries_cleared ht

theorem headWaits_unneeded {r : Request} {w : HeadWait} (hw : w ≠ .mode) (hn : needsSlot p r = false) :
    s.headWaits p r w = (s.setWait p w).leaveWaitList p := by
  unfold State.headWaits
  dsimp only
  rw [if_neg hw, hn, if_neg (by simp)]

theorem leaveWaitList_leaveWaitList (s : State) (p : Port) : (s.leaveWaitList p).leaveWaitList p = s.leaveWaitList p := by
  cases p with
  | cp => rfl
  | line l =>
    unfold State.leaveWaitList
    dsimp only
    rw [List.filter_filter]
    simp only [Bool.and_self]

/-- A head that waits for anything but a slot, behind one that has just left the queue: the port is off the slot wait list. -/
theorem headWaits_left {r : Request} {w : HeadWait} (hm : w ≠ .mode) (hs : w ≠ .slot) (v : PortUnit) :
    ((s.setPort p v).leaveWaitList p).headWaits p r w = (s.setPort p { v with wait := w }).leaveWaitList p := by
  have hwait : ((s.setPort p v).leaveWaitList p).setWait p w = (s.setPort p { v with wait := w }).leaveWaitList p := by
    rw [State.setWait, State.port_leaveWaitList, State.port_setPort_same, setPort_leaveWaitList, State.setPort_setPort]
  unfold State.headWaits
  dsimp only
  rw [if_neg hm, hwait]
  split_ifs
  · rfl
  · exact leaveWaitList_leaveWaitList _ _

/-- A head that waits for a line slot puts its port, which had left the slot wait list, back at the tail (R93). -/
theorem headWaits_rejoins {l : LinePort} {r : Request} (hn : needsSlot (.line l) r = true) (v : PortUnit) :
    ((s.setPort (.line l) v).leaveWaitList (.line l)).headWaits (.line l) r .slot =
      { (s.setPort (.line l) { v with wait := .slot }).leaveWaitList (.line l) with
        waitList := s.waitList.filter (· != l) ++ [l] } := by
  have hwait : ((s.setPort (.line l) v).leaveWaitList (.line l)).setWait (.line l) .slot =
      (s.setPort (.line l) { v with wait := .slot }).leaveWaitList (.line l) := by
    rw [State.setWait, State.port_leaveWaitList, State.port_setPort_same, setPort_leaveWaitList, State.setPort_setPort]
  have hout : l ∉ ((s.setPort (.line l) { v with wait := .slot }).leaveWaitList (.line l)).waitList := by
    show l ∉ s.waitList.filter (· != l)
    simp
  unfold State.headWaits
  dsimp only
  rw [if_neg (by simp), hwait, hn, if_pos rfl, if_pos rfl]
  unfold State.joinWaitList
  dsimp only
  rw [if_neg hout]
  rfl

theorem tryWith_waits {own : Port → Request → State → Verdict} {r : Request} {rs : List Request} {w : HeadWait}
    (hadm : s.admitting = true) (hreq : (s.port p).requests = r :: rs) (hfree : (s.port p).responsesFull = false)
    (hcommon : s.commonRefusal p r = none) (hv : own p r s = .wait w) : s.tryWith own p = (.waits, s.headWaits p r w) := by
  simp [State.tryWith, hreq, hadm, hfree, hcommon, hv]

/-! ### An urgent CANCEL that finds no job -/

/-- The port after the CANCEL above its queue has been answered NOT_FOUND (R96). -/
def PortUnit.notFound (u : PortUnit) (tag : Byte) : PortUnit :=
  { u.released with wait := .none, occupied := u.occupied ++ [plainResponse 0x08 tag .notFound []] }

section Displaced

variable {tag target : Byte} (hadm : s.admitting = true) (hm : p = .cp ∨ s.mode = .operating)
  (hfind : (s.liveOf p).find? (s.cancelTarget target) = none) (hroom : (s.port p).occupied.length + (s.port p).reserved < 16)
include hadm hm hfind hroom

/-- It is admitted and answered, whatever request it displaced. -/
theorem tryHead_notFound :
    State.tryHead true p (s.setPort p ((s.port p).headed ⟨0x08, tag, [target]⟩)) =
      (.admitted, ((s.setPort p ((s.port p).notFound tag)).leaveWaitList p).addTry p) := by
  obtain ⟨u, hu, huadm, humode, hulive, hufind, huport⟩ : ∃ u, s.setPort p ((s.port p).headed ⟨0x08, tag, [target]⟩) = u ∧
      u.admitting = true ∧ (p = .cp ∨ u.mode ≠ .lockout) ∧ u.liveOf p = s.liveOf p ∧
      u.cancelTarget target = s.cancelTarget target ∧
      u.port p = (s.port p).headed ⟨0x08, tag, [target]⟩ :=
    ⟨_, rfl, hadm, not_lockout_of_operating hm, rfl, rfl, State.port_setPort_same _ _ _⟩
  have hfree : (u.port p).responsesFull = false := by
    rw [huport]
    exact decide_eq_false (Nat.not_le.2 hroom)
  have hcommon : u.commonRefusal p ⟨0x08, tag, [target]⟩ = none :=
    commonRefusal_none u p .cancel _ rfl (by cases p <;> rfl) humode rfl
  have hbegin : (u.beginAdmission p).answer p ⟨0x08, tag, [target]⟩ .notFound [] =
      (s.setPort p ((s.port p).notFound tag)).leaveWaitList p := by
    unfold State.beginAdmission State.answer
    dsimp only
    rw [respond_reserved _ _ _ (by rw [State.port_leaveWaitList, State.port_setPort_same]; simp), State.port_leaveWaitList,
      State.port_setPort_same, huport, setPort_leaveWaitList, ← hu, State.setPort_setPort, State.setPort_setPort]
    rfl
  have hv : admitRequest true p ⟨0x08, tag, [target]⟩ u = .accept ((s.setPort p ((s.port p).notFound tag)).leaveWaitList p) := by
    have hnone : (u.liveOf p).find? (u.cancelTarget target) = none := by rw [hulive, hufind, hfind]
    have hcancel := admitCancel_notFound (now := true) (s := u) (p := p) (r := ⟨0x08, tag, [target]⟩) hnone
    rw [hbegin] at hcancel
    exact hcancel
  rw [hu]
  exact tryWith_admits huadm (by rw [huport]; rfl) hfree hcommon hv

/-- The head that it displaced is tried behind it. -/
theorem runTries_displaced {v : State} {r : Request} {rest : List Request} (ht : s.tries = [])
    (hreq : (s.port p).requests = r :: rest)
    (hnext : State.tryHead true p ((s.setPort p ((s.port p).notFound tag)).leaveWaitList p) = (.waits, v)) (hv : v.tries = []) :
    ((s.setPort p ((s.port p).headed ⟨0x08, tag, [target]⟩)).addTry p).runTries true = v := by
  refine runTries_next (s := s.setPort p ((s.port p).headed ⟨0x08, tag, [target]⟩)) ht ?_
    (tryHead_notFound hadm hm hfind hroom) ?_ ?_ hnext hv
  · rw [State.port_setPort_same]
    exact List.cons_ne_nil _ _
  · rw [State.leaveWaitList_tries]
    exact ht
  · rw [State.port_leaveWaitList, State.port_setPort_same]
    show (s.port p).requests ≠ []
    rw [hreq]
    exact List.cons_ne_nil _ _

end Displaced

end Sys2Proof.Machine
end

/-! PROOF. The end of a frame, by the frame and by what it places (R141, R142, R144, R154; logs 22, 39). -/

section
namespace Sys2Proof.Machine

variable {s : State} {p : Port} {bytes : List Byte}

theorem exec_frameEnd_quiet {t : State} (hrises : (s.clockBytes p bytes).selectRises p = t) (ht : t.tries = []) :
    exec (.frameEnd p bytes) s = .next t := by
  rw [exec_frameEnd, hrises, triesAtFrameEnd_quiet ht]

theorem selectRises_ignored {t : State} (h : (t.port p).frame = .ignored) :
    t.selectRises p = t.setPort p { t.port p with frame := .none, selectLow := false } := by
  unfold State.selectRises
  dsimp only
  rw [h]

theorem selectRises_unplaced {t : State} (h : (t.port p).frame = .unplaced) :
    t.selectRises p = t.setPort p ((t.port p).released.recordFault .startWhileFull) := by
  unfold State.selectRises
  dsimp only
  rw [h]
  dsimp only
  rw [State.port_setPort_same, State.setPort_setPort]
  rfl

/-- An unplaced frame that is no fetch frame ends with START_WHILE_FULL, whether a byte of it was clocked or none (R141). -/
theorem frameEnd_unplaced (hf : (s.port p).frame = .unplaced) (hb : bytes.head? ≠ some 0x0F) :
    (s.clockBytes p bytes).selectRises p = s.setPort p ((s.port p).released.recordFault .startWhileFull) := by
  cases bytes with
  | nil => exact selectRises_unplaced hf
  | cons b bs =>
    have hb : b ≠ 0x0F := fun h => hb (by rw [h]; rfl)
    have hstep : State.clockByte p s b =
        s.setPort p { (s.port p).recordFault .startWhileFull with frame := .ignored } := by
      unfold State.clockByte
      dsimp only
      rw [hf]
      exact if_neg hb
    show ((State.clockByte p s b).clockBytes p bs).selectRises p = _
    rw [hstep, clockBytes_ignored bs (by rw [State.port_setPort_same]), selectRises_ignored (by rw [State.port_setPort_same]),
      State.port_setPort_same, State.setPort_setPort]
    rfl

section Placing

variable {got : List Byte} {flags : Byte} {r : Request} (ht : s.tries = []) (hf : (s.port p).frame = .placing got)
  (hg : got = [] → bytes.head? ≠ some 0x0F) (hr : frameRequest (got ++ bytes) = some (flags, r))
include hf hg hr

theorem exec_frameEnd_head (hhead : (s.port p).requests = [] ∨ placedAtTop flags r.code = true)
    (hp : s.pending.head? ≠ some (.portReset p)) :
    exec (.frameEnd p bytes) s = .next (((s.setPort p ((s.port p).headed r)).addTry p).runTries true) := by
  rw [exec_frameEnd, selectRises_request hf hg hr, placeRequest_head hhead]
  exact congrArg Host.Outcome.next (triesAtFrameEnd_tried hp)

include ht

theorem exec_frameEnd_tail (htop : placedAtTop flags r.code = false) (hne : (s.port p).requests ≠ []) :
    exec (.frameEnd p bytes) s =
      .next (s.setPort p { (s.port p).released with requests := (s.port p).requests ++ [r] }) :=
  exec_frameEnd_quiet ((selectRises_request hf hg hr).trans (placeRequest_tail htop hne)) ht

/-- Where a reset of the port may meet the frame end, the head is tried or not (R154; log 39). -/
theorem exec_frameEnd_meets (hhead : (s.port p).requests = [] ∨ placedAtTop flags r.code = true)
    (hl : s.linkTakes p = true) (hp : s.pending.head? = some (.portReset p)) :
    exec (.frameEnd p bytes) s = .next { s.setPort p ((s.port p).headed r) with choices := s.choices + 1 } ∨
      exec (.frameEnd p bytes) s =
        .next (({ s.setPort p ((s.port p).headed r) with choices := s.choices + 1, tries := [p] } : State).runTries true) := by
  have hlink : ((s.setPort p ((s.port p).headed r)).addTry p).linkTakes p = true := by
    unfold State.linkTakes at hl ⊢
    rw [State.port_addTry, State.port_setPort_same]
    exact hl
  obtain ⟨u, hu, hadd⟩ : ∃ u, s.setPort p ((s.port p).headed r) = u ∧ u.addTry p = { u with tries := [p] } := by
    refine ⟨_, rfl, ?_⟩
    unfold State.addTry
    rw [State.setPort_tries, ht]
    rfl
  rw [hu] at hlink
  have hchoices : u.choices = s.choices := by rw [← hu]; rfl
  have hutries : u.tries = [] := by rw [← hu]; exact ht
  have hpending : (u.addTry p).pending.head? = some (.portReset p) := by
    rw [hadd, ← hu]
    exact hp
  rw [exec_frameEnd, selectRises_request hf hg hr, placeRequest_head hhead, hu, ← hchoices]
  rcases triesAtFrameEnd_meets hpending hlink (by rw [hadd]) with h | h
  · refine .inl ?_
    rw [h, hadd]
    exact congrArg (fun ts => Host.Outcome.next { u with choices := u.choices + 1, tries := ts }) hutries.symm
  · refine .inr ?_
    rw [h, hadd]

end Placing

/-- Settles O6: by the frame that ends, and for a placing one by where its request is placed. -/
theorem frameEndPlacesOrDiscards : Obligations.FrameEndPlacesOrDiscards := by
  intro s p bytes ht recorded
  refine ⟨fun hf hb => exec_frameEnd_quiet (frameEnd_unplaced hf hb) ht, fun hf => ?_, fun got hf hg =>
    ⟨fun code flags tag len body hall hlen hbody hne => ⟨fun hnot => ?_, fun hflags hcode hadm hfull hp => ?_⟩,
     fun code flags tag len body hall hlen hbody hhead hl hp => ?_, fun tag target hall hp hadm hm hfind => ?_, fun hbad => ?_⟩⟩
  · refine exec_frameEnd_quiet ?_ ht
    rw [clockBytes_ignored bytes hf]
    exact selectRises_ignored hf
  · have htop : placedAtTop flags code = false := Bool.eq_false_iff.2 fun h => hnot (placedAtTop_iff.1 h)
    exact exec_frameEnd_tail ht hf hg (frameRequest_of hall hlen hbody) htop hne
  · rw [exec_frameEnd_head hf hg (frameRequest_of hall hlen hbody) (.inr (placedAtTop_iff.2 ⟨hflags, hcode⟩)) hp]
    refine congrArg Host.Outcome.next (runTries_waits (what := .waits) ht ?_ ?_ ?_)
    · rw [State.port_setPort_same]
      exact List.cons_ne_nil _ _
    · have hwaits : State.tryHead true p (s.setPort p ((s.port p).headed ⟨code, tag, body⟩)) =
          (.waits, (s.setPort p ((s.port p).headed ⟨code, tag, body⟩)).headWaits p ⟨code, tag, body⟩ .entry) :=
        tryWith_full hadm (by rw [State.port_setPort_same]; rfl) (by rw [State.port_setPort_same]; exact hfull)
      rw [hwaits, headWaits_unneeded (by simp) (needsSlot_urgent hcode), State.setWait, State.port_setPort_same,
        State.setPort_setPort]
      rfl
    · rw [State.leaveWaitList_tries]
      exact ht
  · exact exec_frameEnd_meets ht hf hg (frameRequest_of hall hlen hbody) (hhead.imp_right placedAtTop_iff.2) hl hp
  · intro displaced
    have hexec := exec_frameEnd_head hf hg (r := ⟨0x08, tag, [target]⟩)
      (frameRequest_of (len := 0x01) hall (by decide) rfl) (.inr rfl) hp
    obtain ⟨u, hu, huport, huadm, hutries⟩ : ∃ u, (s.setPort p ((s.port p).notFound tag)).leaveWaitList p = u ∧
        u.port p = (s.port p).notFound tag ∧ u.admitting = true ∧ u.tries = [] :=
      ⟨_, rfl, by rw [State.port_leaveWaitList, State.port_setPort_same], by cases p <;> exact hadm,
        by rw [State.leaveWaitList_tries]; exact ht⟩
    have hleft : ∀ {r w}, w ≠ .mode → w ≠ .slot → u.headWaits p r w = displaced w := fun hmode hslot => by
      rw [← hu, headWaits_left hmode hslot]
      rfl
    have hdisplaced : ∀ w, (displaced w).tries = [] := fun w => by
      rw [State.leaveWaitList_tries]
      exact ht
    have next : ∀ {v : State} {r rest}, (s.port p).requests = r :: rest →
        (s.port p).occupied.length + (s.port p).reserved < 16 → State.tryHead true p u = (.waits, v) → v.tries = [] →
        exec (.frameEnd p bytes) s = .next v := fun hreq hroom hnext hv => by
      rw [hexec, runTries_displaced hadm hm hfind hroom ht hreq (by rw [hu]; exact hnext) hv]
    refine ⟨fun hne hfull => ?_, ?_⟩
    · obtain ⟨r, rest, hreq⟩ := List.exists_cons_of_ne_nil hne
      have hufull : (u.port p).responsesFull = true := by
        rw [huport]
        refine decide_eq_true ?_
        simp only [PortUnit.notFound, PortUnit.released, List.length_append, List.length_singleton, Config.responseEntries]
        omega
      refine next hreq (by omega) ?_ (hdisplaced .entry)
      rw [← hleft (r := r) (by simp) (by simp)]
      exact tryWith_full huadm (by rw [huport]; exact hreq) hufull
    · rintro l t b serial m k keys mk tk prior rest rfl hreq hfits hroom
      have hmode : s.mode = .operating := hm.resolve_left (by simp)
      obtain ⟨humode, hufits, hujobs, hulive⟩ : u.mode = .operating ∧ u.deriveFits l b serial m k keys mk tk prior ∧
          (∀ n, u.job n = s.job n) ∧ u.liveOf (.line l) = s.liveOf (.line l) := by
        rw [← hu]
        exact ⟨hmode, hfits, fun _ => rfl, rfl⟩
      have hfree : (u.port (.line l)).responsesFull = false := by
        rw [huport]
        refine decide_eq_false (Nat.not_le.2 ?_)
        simp only [PortUnit.notFound, PortUnit.released, List.length_append, List.length_singleton, Config.responseEntries]
        omega
      have waits : ∀ {w : HeadWait}, u.lineSlotFor (.line l) = .error w → State.tryHead true (.line l) u =
          (.waits, u.headWaits (.line l) ⟨0x01, t, deriveBody b serial m k keys⟩ w) := fun {w} hw => by
        have hv : admitRequest true (.line l) ⟨0x01, t, deriveBody b serial m k keys⟩ u = .wait w :=
          (admitRequest_derive rfl).trans (admitDerive_fits_waits rfl hufits hw)
        have hureq : (u.port (.line l)).requests = ⟨0x01, t, deriveBody b serial m k keys⟩ :: rest := by
          rw [huport]
          exact hreq
        exact tryWith_waits huadm hureq hfree (commonRefusal_derive humode) hv
      refine ⟨fun hquota => next hreq (by omega) ?_ (hdisplaced .quota), fun hless hall => next hreq (by omega) ?_ ?_⟩
      · rw [← hleft (r := ⟨0x01, t, deriveBody b serial m k keys⟩) (by simp) (by simp)]
        exact waits (lineSlotFor_quota (by rw [hulive]; exact hquota))
      · rw [waits (lineSlotFor_full (by rw [hulive]; exact hless) fun i hi => by rw [hujobs]; exact hall i hi)]
        refine congrArg (Prod.mk Tried.waits) ?_
        rw [← hu]
        exact headWaits_rejoins (r := ⟨0x01, t, deriveBody b serial m k keys⟩) rfl _
      · exact hdisplaced .slot
  · exact exec_frameEnd_quiet (selectRises_discarded hf hg (frameRequest_none hbad)) ht

end Sys2Proof.Machine
end
